-- ==== Sys2Proof/Word.lean ====
section
/-! DEFINITION. The plainest number types of the model: bytes, and lists of bytes read and written with the least significant byte first (every multi-byte field of the device, R33, R156, R348). -/

namespace Sys2Proof

/-- One byte of memory, of a message or of a record. -/
abbrev Byte := BitVec 8

/-- One of the eight heads H0 to H7, lane groups or point rings (R5). -/
abbrev Head := Fin 8

end Sys2Proof
end

