-- ==== Sys2Proof/Types.lean ====
section
/-! DEFINITION. The types of the commands' operands: the register pages of R461, the access paths of R456, and what the commands bring with them from outside the device. -/

namespace Sys2Proof

/-- The 60 register pages of R461. -/
inductive Page where
  | cap | ctl | scd | clk | pwr | hkp | thm | saf | twn
  | emt (h : Fin 8) | rfe (h : Fin 8) | tdc (h : Fin 8) | wfl (h : Fin 8)
  | stp | scm | skm | flt | msk | ptb | lth
  | mem (c : Fin 4)
  | cxl0 | cxl1 | gsl | tim | dst | rnd | sec | cal
  deriving DecidableEq, Repr

/-- The four paths that reach the register fabric (R456, R462 `ACC_ERR.PATH`). -/
inductive Path where
  | cxlIo | ring | smbus | firmware
  deriving DecidableEq, Repr

/-- One conversion of a head's two pickups at a tick strobe, in ADC codes: a value above 32,766 is a positive overrange, one below
-32,767 a negative (R242, R244). -/
structure Pickup where
  a : Int := 0
  b : Int := 0
  deriving DecidableEq, Repr

/-- What the gate-drive test of a head found in the last tick of a coat: the pins that did not reach 0.45 V, and for
each pin under test the neighbours that rose above 0.3 V (R73). -/
structure GateTest where
  low : List Nat := []
  up  : List (Nat × Nat) := []
  deriving DecidableEq, Repr

/-- What a channel's comparators and stage did around one pulse of light, as seen by the TDC: rises and falls of the TE
and of the LE comparator, times the stage clipped, each as start and end in fine codes counted from the start of the
window (128 per coarse bin); an end of 2048000 or more is beyond the window. `trip` is the overload detector (R93). -/
structure Excursion where
  te   : List (Nat × Nat) := []
  le   : List (Nat × Nat) := []
  clip : List (Nat × Nat) := []
  trip : Bool := false
  deriving DecidableEq, Repr

/-- One analog sample at a lane's tap: its place after W on the input-sample grid, and the channel's stage output referred to
input current, in pA (R192, R193). -/
structure Sample where
  n : Nat
  i : Int
  deriving DecidableEq, Repr

/-- A bit of a burst that a read returns other than it was written: the burst as its device address over 64, the beat, and the bit
of the 40 of a beat, the check byte on bits 32 to 39 (R231). -/
structure Flip where
  burst : Nat
  beat  : Nat
  bit   : Nat
  deriving DecidableEq, Repr

/-- A context image that fails on the chip: row of the unit, whether it is the source image, and the kind of R237 `LAST_ERR.KIND`:
2 in the cache, 3 in the update buffer (R226). -/
structure ImageFail where
  row    : Nat
  source : Bool
  kind   : Nat
  deriving DecidableEq, Repr

/-- What the memory reads of a slot return other than written, and the context images that its engine finds bad on the chip (R226,
R231). -/
structure SlotReads where
  flips : List Flip := []
  fails : List ImageFail := []
  deriving DecidableEq, Repr

/-- The row group of a unit in which an engine erred, and whether it erred in the unit's replay (R49). -/
structure UnitError where
  group  : Fin 8
  replay : Bool := false
  deriving DecidableEq, Repr

/-- How the hold of PD48 ended: after its 4 ms, or with the program held, and whether its page was the last of its operation
(R258). -/
structure HoldEnd where
  timeout : Bool
  last    : Bool
  deriving DecidableEq, Repr

/-- The result of a foreground run for one lane: the 24 factors, 3 to a slice, and the residual spur in −dBc (R196). -/
structure LaneResult where
  facs : List Int
  spur : Nat
  deriving DecidableEq, Repr

/-- What Primer measured of a head: relief offsets by row, and for each row the moves of LE_OFS, TE_OFS and TIA_OFS
(R275). -/
structure PrimerResult where
  head   : Head
  relief : List (Nat × Int)
  trims  : List (Nat × Int × Int × Int)
  deriving DecidableEq, Repr

/-- An item of the configuration mirror (R319), whose format on the twin port is internal: the fields of a commit by key
with the table entries it put in force (table 0 Float, 1 range offset, 2 skew, 3 filter coefficients, 4 palettes; key; value), an
image swapped with its partitions, the partitions loaded with the header of each, or the whole store. -/
inductive CfgItem where
  | fields (vals : List (Nat × Nat)) (tabs : List (Nat × Nat × Int))
  | image (hdr : List Byte) (parts : List (Nat × List Byte))
  | load (parts : List (Nat × List Byte × List Byte))
  | whole (vals : List (Nat × Nat)) (tabs : List (Nat × Nat × Int)) (hdr : List Byte) (parts : List (Nat × List Byte))
  deriving DecidableEq, Repr

/-- What host memory answers when a device of a pair wakes: header and summaries of each checkpoint buffer that could
be read (R325), and the attach block, empty where it could not be read (R356). -/
structure Pull where
  bufs   : List (List Byte × List Byte) := []
  attach : List Byte := []
  deriving DecidableEq, Repr

/-- What fetch has achieved at a display line's start: tiles of the next tile row fetched; tiles the line needs that have not
arrived, each as its plane (0 to 7 a range window, 8 the overlay), tile row and tile column; and the bits that the fetch of the tile
rows that begin at the line read other than written, each with its plane, 9 for the headers of overlay tiles (R231, R416, R417). -/
structure LineFetch where
  share : Nat := 0
  late  : List (Nat × Nat × Nat) := []
  flips : List (Nat × Flip) := []
  deriving DecidableEq, Repr

/-- The DIMMs of a channel as their SPD shows them (R229): how many, ranks, GiB each, speed grade (0 to 2), whether they are registered
and have 8 check bits, part number, and serial numbers with slots as one number. -/
structure DimmInfo where
  dimms  : Nat := 0
  ranks  : Nat := 1
  gib    : Nat := 16
  rating : Nat := 2
  registered : Bool := true
  check8 : Bool := true
  part   : Nat := 0
  serial : Nat := 0
  deriving DecidableEq, Repr

/-- What comes from outside at a tick boundary: each head's pickup conversion at the strobe (R244), what the gate-drive tests of
the last tick of a coat found on each head (R73), the conversions of the housekeeping round in the tick that ends, none where a
sensor's bias check fails (R242, R245), the readbacks of the two emitter enables (R295), and the `TOKRB_Hh` levels (R312).
`convs` holds the tick's inputs one after another, 8 or 16 conversions each, and `rtd` the 32 conversions of a pulse's half. -/
structure TickIn where
  picks : Vector Pickup 8 := Vector.replicate 8 {}
  gates : Vector GateTest 8 := Vector.replicate 8 {}
  convs : Vector (Option Int) 64 := Vector.replicate 64 (some 0)
  rtd   : Vector (Option Int) 32 := Vector.replicate 32 (some 0)
  hsRb  : Bool := false
  lsRb  : Bool := false
  tokrb : BitVec 8 := 0
  deriving DecidableEq, Repr

/-- What comes from outside at a coat boundary: for each head the hits of its calibration turns, by interpolator, and the relief
offsets that a coat of all its interpolators at once measured, by row (R104, R106, R262); and the parity errors that the islands'
scrubs found: island B, offset, and whether the reload failed (R282). -/
structure CoatIn where
  hits   : List (Nat × List (Nat × List Nat)) := []
  relief : List (Nat × List (Nat × Int)) := []
  scrub  : List (Bool × Nat × Bool) := []
  deriving DecidableEq, Repr

end Sys2Proof
end

