-- ==== Sys2Proof/Syntax.lean ====
section
/-! DEFINITION. The commands of the block: one constructor for every row of the table of operations, with what the command brings from outside. -/

namespace Sys2Proof

/-- The commands. The docstring of each gives its row and the rule that defines it; the operands are what the row brings from
outside the device: `p` a register page, or a Gosia port (of a slot, the partition); `h` a head or lane group; `e` an engine;
`ns` the instant within the tick in progress, in ns; `path` an access path; `off` a BAR0 offset; `b` the bytes received;
the rest as the docstring of the command's meaning says. -/
inductive Instr where
  /-- REGISTER_WRITE (R453). -/
  | registerWrite (path : Path) (off : BitVec 24) (v : BitVec 32) (ns : Fin 100000)
  /-- REFUSED_ACCESS (R452). -/
  | refusedAccess (path : Path) (off : BitVec 24) (len : Fin 65) (write : Bool)
  /-- COMMIT (R459). -/
  | commit (p : Page) (key : BitVec 32) (ns : Fin 100000)
  /-- COMMIT_TAKE_HOLD (R22). -/
  | commitTakeHold (p : Page)
  /-- SOFT_RESET (R458). -/
  | softReset (p : Page) (ns : Fin 100000)
  /-- SOFT_RESET_TAKE_HOLD (R457). -/
  | softResetTakeHold (p : Page)
  /-- CTRL_LOCK (R454). -/
  | ctrlLock (p : Page)
  /-- IRQ_FORCE (R457). -/
  | irqForce (p : Page) (m : BitVec 32)
  /-- IRQ_STAT_CLEAR (R457). -/
  | irqStatClear (p : Page) (m same : BitVec 32)
  /-- REGISTER_PARITY_ERROR (R460). -/
  | registerParityError (p : Page) (word : Fin 1024) (kind : Fin 3)
  /-- TIME_FRAC_READ (R112). -/
  | timeFracRead (path : Path) (ns : Fin 100000)
  /-- WR_LO_READ (R405). -/
  | wrLoRead (path : Path) (k : Fin 4)
  /-- SMBUS_SET_OFFSET (R463). -/
  | smbusSetOffset (off : BitVec 24)
  /-- SMBUS_READ (R463). -/
  | smbusRead (ns : Fin 100000)
  /-- SMBUS_OTHER_COMMAND (R463). -/
  | smbusOtherCommand
  /-- TICK_BOUNDARY (R12). -/
  | tickBoundary (x : TickIn)
  /-- COAT_BOUNDARY (R12). -/
  | coatBoundary (x : CoatIn)
  /-- FRAME_BOUNDARY (R12). -/
  | frameBoundary
  /-- COLUMN_WINDOW_START (R60). -/
  | columnWindowStart (window : Fin 8) (hsRb lsRb : Bool) (taps : List (Nat × Nat × List Sample))
  /-- WORK_UNIT_SLOT (R35). -/
  | workUnitSlot (p : Fin 9) (e : Fin 15) (i : Nat) (bookFails : Bool) (reads : SlotReads)
  /-- SCHED_LOAD (R38). -/
  | schedLoad (mask : BitVec 9) (flash : Bool)
  /-- SCHED_LOAD_DONE (R39). -/
  | schedLoadDone (flips : List Flip)
  /-- OLD_SLOT_RELEASE (R42). -/
  | oldSlotRelease (p : Fin 9)
  /-- LEASE_RENEW (R53). -/
  | leaseRenew
  /-- HORIZON_EXPIRY (R54). -/
  | horizonExpiry
  /-- LEASE_RESUME (R55). -/
  | leaseResume (ns : Fin 100000)
  /-- MEASUREMENT_RESTART (R55). -/
  | measurementRestart
  /-- ENGINE_PARITY_ERROR (R49). -/
  | engineParityError (e : Fin 15) (h : Head) (window : Fin 8) (err : UnitError)
  /-- UNIT_REPLAY (R49). -/
  | unitReplay (h : Head) (window group : Fin 8) (fails : List ImageFail)
  /-- SLOT_PARITY_ERROR (R30). -/
  | slotParityError (p : Fin 9) (e : Fin 15) (idx : Nat) (secondFails : Bool)
  /-- FAULT_CLR (R75). -/
  | faultClr (h : Head) (ns : Fin 100000)
  /-- MIRROR_STEP (R77). -/
  | mirrorStep (h : Head)
  /-- MIRROR_RAMP_START (R81). -/
  | mirrorRampStart (h : Head)
  /-- MIRROR_PARK_DONE (R82). -/
  | mirrorParkDone (h : Head)
  /-- PARK_GO (R441). -/
  | parkGo
  /-- PARK_EXIT (R441). -/
  | parkExit (ns : Fin 100000)
  /-- PULSE (R90). -/
  | pulse (h : Head) (row : Fin 128) (window : Fin 8) (x : Excursion)
  /-- RFE_SETTINGS_SWITCH (R91). -/
  | rfeSettingsSwitch (h : Head)
  /-- XTAL_FAIL (R113). -/
  | xtalFail
  /-- POINT_RECORD_WRITE (R162). -/
  | pointRecordWrite
  /-- FRAME_HEADER_WRITE (R164). -/
  | frameHeaderWrite
  /-- IMAGE_READY (R168). -/
  | imageReady
  /-- WFL_CAL_GO (R195). -/
  | wflCalGo (h : Head) (ns : Fin 100000)
  /-- WFL_CAL_START (R195). -/
  | wflCalStart (h : Head)
  /-- WFL_CAL_END (R196). -/
  | wflCalEnd (h : Head) (rs : List LaneResult) (ns : Fin 100000)
  /-- CAPTURE_PLAN (R206). -/
  | capturePlan (h : Head)
  /-- LANE_POWER_UP (R201). -/
  | lanePowerUp (h : Head) (lane : Fin 8)
  /-- HREQ (R204). -/
  | hreq (h : Head) (row : Fin 128) (col : Fin 1024) (any : Bool) (count : Fin 256) (ns : Fin 100000)
  /-- LANE_PARITY_ERROR (R213). -/
  | laneParityError (h : Head) (lane window : Fin 8) (sample : Nat) (sequencer : Bool)
  /-- SYNC_IN_EDGE (R215). -/
  | syncInEdge (ns : Fin 100000)
  /-- SYNC_RESET (R215). -/
  | syncReset
  /-- DDR_TRAINING_DONE (R230). -/
  | ddrTrainingDone (pop : List DimmInfo) (withStored inFull : BitVec 4)
  /-- CHANNEL_FAIL (R236). -/
  | channelFail (c : Fin 4)
  /-- DIMM_TEMP_POLL (R233). -/
  | dimmTempPoll (temps : List (List Int))
  /-- HOST_MEM_READ (R341). -/
  | hostMemRead (hpa : Nat) (copy : Bool) (flips : List Flip)
  /-- HOST_MEM_WRITE (R234). -/
  | hostMemWrite (hpa : Nat) (b : List Byte)
  /-- RTD_OPEN_LEAD (R247). -/
  | rtdOpenLead
  /-- THERMAL_EVALUATION (R253). -/
  | thermalEvaluation (ns : Fin 100000)
  /-- THROTTLE_STEP_CHANGE (R254). -/
  | throttleStepChange
  /-- SHUTDOWN_OUTPUTS_OFF (R257). -/
  | shutdownOutputsOff
  /-- SHUTDOWN_POWER_OFF (R257). -/
  | shutdownPowerOff (program : Bool)
  /-- FLASH_HOLD_END (R258). -/
  | flashHoldEnd (how : HoldEnd)
  /-- CAL_CMD (R265). -/
  | calCmd (heads : Fin 256) (kinds : Fin 16) (ns : Fin 100000)
  /-- RFE_RUN_END (R263). -/
  | rfeRunEnd (h : Head)
  /-- SKEW_RUN_END (R264). -/
  | skewRunEnd (h : Head)
  /-- CAL_CHECK (R267). -/
  | calCheck (h : Head) (ns : Fin 100000)
  /-- CAL_PARITY_ERROR (R274). -/
  | calParityError (heads : Fin 256)
  /-- STORE (R276). -/
  | store
  /-- PRIMER_END (R275). -/
  | primerEnd (rs : List PrimerResult)
  /-- FLOAD (R282). -/
  | fload (flash : Bool)
  /-- FLOAD_DONE (R282). -/
  | floadDone (flips : List Flip)
  /-- COAT_CONCLUSION (R287). -/
  | coatConclusion
  /-- SAFETY_INPUT_SAMPLE (R290). -/
  | safetyInputSample (a b : Fin 16)
  /-- OSSD_TEST_PULSE (R294). -/
  | ossdTestPulse (pair : Fin 2) (b : Bool) (lows : List (Nat × Nat))
  /-- EMIT_REQ (R295). -/
  | emitReq
  /-- EMIT_CHECK (R295). -/
  | emitCheck (offHs offLs onHs onLs : Bool)
  /-- EMIT_FAULT (R296). -/
  | emitFault (hs ls : Bool)
  /-- ENTER_CONFIG (R297). -/
  | enterConfig
  /-- CONFIRM (R297). -/
  | confirm (v : BitVec 32)
  /-- SAFETY_STORE (R297). -/
  | safetyStore
  /-- ISLAND_START_END (R297). -/
  | islandStartEnd (selfTest : Bool)
  /-- CLOCK_FAULT (R298). -/
  | clockFault
  /-- TELEGRAM_RECEIVE (R306). -/
  | telegramReceive (port : Option (Fin 4)) (b : List Byte)
  /-- STATUS_TELEGRAM_SEND (R306). -/
  | statusTelegramSend (c : Fin 16)
  /-- TELEGRAM_WATCHDOG (R306). -/
  | telegramWatchdog (c : Fin 16)
  /-- TWIN_MESSAGE_RECEIVE (R318). -/
  | twinMessageReceive (b : List Byte) (item : Option CfgItem) (align : Option Int)
  /-- ALIVE_EDGE (R317). -/
  | aliveEdge (h : Head)
  /-- PATH_SILENCE (R322). -/
  | pathSilence
  /-- CFG_STORE_RESEND (R319). -/
  | cfgStoreResend
  /-- CHECKPOINT_COMPLETE (R320). -/
  | checkpointComplete
  /-- CHECKPOINT_ABANDON (R320). -/
  | checkpointAbandon
  /-- ROLE_CHOICE (R315). -/
  | roleChoice (grants : BitVec 8)
  /-- TAKEOVER (R322). -/
  | takeover (ns : Fin 100000) (grants : BitVec 8) (pull : Pull)
  /-- TAKEOVER_RESUME (R324). -/
  | takeoverResume
  /-- TAKE_FAIL (R326). -/
  | takeFail (step : Fin 4)
  /-- RELINQUISH (R329). -/
  | relinquish (code : Nat)
  /-- AUTO_WARM (R329). -/
  | autoWarm (program flashReady slow bookOk : Bool)
  /-- HANDOVER_TOKEN_RELEASE (R331). -/
  | handoverTokenRelease
  /-- HANDOVER_TOKEN_RAISE (R331). -/
  | handoverTokenRaise (grants : BitVec 8)
  /-- HANDOVER_OLD_STOP (R331). -/
  | handoverOldStop
  /-- ROLE_SWAP (R332). -/
  | roleSwap
  /-- LINK_TRAINING (R336). -/
  | linkTraining (speed width : Nat) (flit256 lopt cxl cache mem : Bool)
  /-- LINK_DOWN (R354). -/
  | linkDown
  /-- HOST_RESET (R354). -/
  | hostReset
  /-- FLR (R354). -/
  | flr
  /-- DOE_SAFETY_REQUEST (R338). -/
  | doeSafetyRequest (b : List Byte)
  /-- DOE_DISCOVERY (R338). -/
  | doeDiscovery (inst : Fin 2) (index : Nat)
  /-- CDAT_READ (R338). -/
  | cdatRead
  /-- GET_VERSION (R352). -/
  | getVersion
  /-- GET_CAPABILITIES (R352). -/
  | getCapabilities
  /-- NEGOTIATE_ALGORITHMS (R352). -/
  | negotiateAlgorithms (offered : Bool)
  /-- GET_DIGESTS (R352). -/
  | getDigests
  /-- GET_CERTIFICATE (R352). -/
  | getCertificate (slot off len : Nat)
  /-- CHALLENGE (R352). -/
  | challenge (slot : Nat)
  /-- GET_MEASUREMENTS (R353). -/
  | getMeasurements (index : Nat) (signed : Bool)
  /-- KEY_EXCHANGE (R352). -/
  | keyExchange
  /-- FINISH (R352). -/
  | finish (n : Nat) (good : Bool)
  /-- HEARTBEAT (R352). -/
  | heartbeat (n : Nat)
  /-- KEY_UPDATE (R352). -/
  | keyUpdate (n : Nat)
  /-- END_SESSION (R352). -/
  | endSession (n : Nat)
  /-- HDM_DECODER_COMMIT (R339). -/
  | hdmDecoderCommit (i : Fin 2) (hpa size dpa ways : Nat) (bi : Bool)
  /-- BI_TIMEOUT (R340). -/
  | biTimeout (line : Nat)
  /-- HOST_MEMORY_ERROR (R342). -/
  | hostMemoryError
  /-- EVENT_RECORD (R347). -/
  | eventRecord (p : Page) (bit qual : Nat) (cells : List (Nat × Nat × Nat × Nat)) (args : List Nat)
  /-- EVENT_RING_WRITE (R347). -/
  | eventRingWrite
  /-- CMD_DOORBELL (R350). -/
  | cmdDoorbell (v : BitVec 32)
  /-- CMD_FETCH (R350). -/
  | cmdFetch (b : List Byte)
  /-- WRITE (R350). -/
  | write (ns : Fin 100000)
  /-- READ (R350). -/
  | read (ns : Fin 100000)
  /-- WAIT (R350). -/
  | wait
  /-- WAIT_END (R350). -/
  | waitEnd
  /-- NOP (R349). -/
  | nop
  /-- CMD_COMPLETION (R350). -/
  | cmdCompletion
  /-- PARCEL_RECEIVE (R364). -/
  | parcelReceive (p : Fin 4) (b : List Byte)
  /-- PARCEL_REPLAY (R364). -/
  | parcelReplay (p : Fin 4) (timeout : Bool)
  /-- PORT_RETRAIN (R364). -/
  | portRetrain (p : Fin 4) (lanes : BitVec 4)
  /-- PORT_DOWN_RETRY (R364). -/
  | portDownRetry (p : Fin 4) (lanes : BitVec 4)
  /-- LANE_DROP (R366). -/
  | laneDrop (p lane : Fin 4) (cause : Fin 4)
  /-- EYE_SCAN (R368). -/
  | eyeScan (p lane : Fin 4) (height width : BitVec 8)
  /-- BEACON_RECEIVE (R372). -/
  | beaconReceive (p : Fin 4) (src : BitVec 14) (hops : Fin 64) (b : List Byte)
  /-- DEVICE_LOST (R372). -/
  | deviceLost (id : BitVec 14)
  /-- SYNC_RECEIVE (R377). -/
  | syncReceive (p : Fin 4) (t1 t2 t3 t4 : Nat) (asymA : Int)
  /-- PPS_EDGE (R378). -/
  | ppsEdge (rising : Bool) (off : Fin 1048576000)
  /-- TOD_ARM (R378). -/
  | todArm
  /-- HOLDOVER_ENTRY (R379). -/
  | holdoverEntry
  /-- TIME_STEP (R380). -/
  | timeStep
  /-- EPOCH_BUMP (R384). -/
  | epochBump
  /-- TRIGGER_RECEIVE (R383). -/
  | triggerReceive (p : Fin 4) (src : BitVec 14) (hops : Fin 64) (b : List Byte) (ns : Fin 100000)
  /-- TRIG_CMD_BUS (R401). -/
  | trigCmdBus (line : BitVec 4) (ns : Fin 100000)
  /-- TRIG_CMD_GO (R396). -/
  | trigCmdGo (ns : Fin 100000)
  /-- ARM_GO (R399). -/
  | armGo (ns : Fin 100000)
  /-- ARM_STOP (R399). -/
  | armStop
  /-- DST_RECORD_END (R399). -/
  | dstRecordEnd
  /-- HOLDOFF_END (R399). -/
  | holdoffEnd (ns : Fin 100000)
  /-- CAPTURE_PARCEL (R402). -/
  | captureParcel (src : BitVec 14) (b : List Byte)
  /-- LINK_TRAIN_RETRY (R408). -/
  | linkTrainRetry
  /-- IRQ_HPD (R408). -/
  | irqHpd (lost : Bool)
  /-- HPD_LOSS (R408). -/
  | hpdLoss
  /-- HPD_RETURN (R408). -/
  | hpdReturn
  /-- AUX_NATIVE_READ (R408). -/
  | auxNativeRead (addr : BitVec 20) (len : Fin 16)
  /-- AUX_NATIVE_WRITE (R408). -/
  | auxNativeWrite (addr : BitVec 20) (len : Fin 16)
  /-- AUX_I2C_READ (R408). -/
  | auxI2cRead (addr : BitVec 20) (len : Fin 16)
  /-- AUX_I2C_WRITE (R408). -/
  | auxI2cWrite (addr : BitVec 20) (len : Fin 16)
  /-- AUX_COMPLETE (R408). -/
  | auxComplete (code : Fin 4) (b : List Byte)
  /-- REFRESH_LATCH (R411). -/
  | refreshLatch (late : Bool)
  /-- REFRESH_END (R418). -/
  | refreshEnd
  /-- FREEZE_STALL (R418). -/
  | freezeStall
  /-- VSYNC_IN_EDGE (R410). -/
  | vsyncInEdge (falling within : Bool) (ns : Fin 100000)
  /-- DISPLAY_LINE_START (R416). -/
  | displayLineStart (line : Nat) (f : LineFetch)
  /-- POR (R422). -/
  | por (twnpos : Bool) (boardVar : Fin 16) (flashReady slow bookOk : Bool)
  /-- WARM (R442). -/
  | warm (program flashReady slow bookOk : Bool)
  /-- SUPPLY_FAULT (R467). -/
  | supplyFault (main : Bool)
  /-- FIRMWARE_RELEASE (R423). -/
  | firmwareRelease
  /-- FIRST_MEASUREMENT (R424). -/
  | firstMeasurement (pull : Pull)
  /-- BOOT_OK (R431). -/
  | bootOk
  /-- FLASH_CMD (R432). -/
  | flashCmd (area : Fin 8)
  /-- FLASH_OPERATION_DONE (R428). -/
  | flashOperationDone
  /-- LOCKSTEP_MISMATCH (R443). -/
  | lockstepMismatch (reload : Bool)
  /-- CLK_UPDATE (R436). -/
  | clkUpdate (ns : Fin 100000)
  /-- CLK_UPDATE_APPLY (R436). -/
  | clkUpdateApply
  /-- SYNTH_LOCK (R435). -/
  | synthLock (y : Fin 6) (stored : Bool) (code : BitVec 8)
  /-- MT_PORT (R445). -/
  | mtPort (w : BitVec 32)
  /-- MT_LOCK (R445). -/
  | mtLock
  /-- ISLAND_PARITY_ERROR (R298). -/
  | islandParityError
  /-- START_ROLE_TIMEOUT (R315). -/
  | startRoleTimeout (grants : BitVec 8)
  /-- DP_TRAINING_END (R408). -/
  | dpTrainingEnd (sinkRate : Fin 3) (sinkLanes : Nat) (ok : List (Nat × Nat))
  /-- SYNTH_LOCK_LOSS (R448). -/
  | synthLockLoss (k : Fin 16)
  /-- LINK_RECOVERY (R357). -/
  | linkRecovery (enter : Bool)
  /-- ASPM_L1 (R335). -/
  | aspmL1 (enter : Bool)
  /-- IDE_KM (R352). -/
  | ideKm (n : Nat) (stream : Fin 2) (op : Fin 3)
  /-- IDE_INTEGRITY_FAILURE (R357). -/
  | ideIntegrityFailure
  /-- HOST_SNOOP (R335). -/
  | hostSnoop (line : Nat)
  /-- BI_RESPONSE (R340). -/
  | biResponse (line : Nat)
  /-- MR6_RECOMPUTED (R353). -/
  | mr6Recomputed
  deriving DecidableEq, Repr

end Sys2Proof
end

