-- ==== Sys2Proof/Decode.lean ====
section
/-! DEFINITION. Words of the table of operations. Its rows are events and operations of the block and have no bits. -/

namespace Sys2Proof

/-- The command that a word of `nbits` bits spells: no row of the table gives bits, so no word spells a command (log
entry 2). -/
def decodeTableWord (_nbits _w : Nat) : Option Instr := none

end Sys2Proof
end

