-- ==== Sys2Proof/Machine/Bits.lean ====
section
/-! DEFINITION. Arithmetic on numbers and bytes that every block uses: bit fields, signed numbers, saturation, rounding, byte lists with the least significant byte first, and sparse lists in canonical form. -/

namespace Sys2Proof.Machine

/-- Bit `i` of a mask as a number. -/
def bitOf (m i : Nat) : Nat := m / 2 ^ i % 2

/-- Whether bit `i` of a mask is set. -/
def hasBit (m i : Nat) : Bool := m / 2 ^ i % 2 == 1

/-- A mask with bit `i` set. -/
def setBit (m i : Nat) : Nat := if hasBit m i then m else m + 2 ^ i

/-- A mask with bit `i` clear. -/
def clrBit (m i : Nat) : Nat := if hasBit m i then m - 2 ^ i else m

/-- A mask with bit `i` at the value given. -/
def putBit (m i : Nat) (b : Bool) : Nat := if b then setBit m i else clrBit m i

/-- The field of `w` bits of `x` that begins at bit `l`. -/
def slice (x l w : Nat) : Nat := x / 2 ^ l % 2 ^ w

/-- `x` with its field of `w` bits at bit `l` replaced by `v`. -/
def putSlice (x l w v : Nat) : Nat := x - slice x l w * 2 ^ l + v % 2 ^ w * 2 ^ l

/-- One for true. -/
def b2n (b : Bool) : Nat := if b then 1 else 0

/-- The number of set bits among the lowest `w`. -/
def popcount (m w : Nat) : Nat := ((List.range w).filter fun i => hasBit m i).length

/-- The lowest set bit among the lowest `w`. -/
def lowestBit (m w : Nat) : Option Nat := (List.range w).find? fun i => hasBit m i

/-- A field of `w` bits read as a signed number. -/
def sgn (w x : Nat) : Int := if x % 2 ^ w < 2 ^ (w - 1) then (x % 2 ^ w : Nat) else (x % 2 ^ w : Nat) - (2 ^ w : Nat)

/-- A signed number as a field of `w` bits. -/
def unsgn (w : Nat) (x : Int) : Nat := (x % (2 ^ w : Nat)).toNat

/-- `x` held between two bounds. -/
def clampI (lo hi x : Int) : Int := if x < lo then lo else if hi < x then hi else x

/-- `x` held between two bounds. -/
def clampN (lo hi x : Nat) : Nat := if x < lo then lo else if hi < x then hi else x

/-- Quotient rounded to the nearest whole number, halves up. -/
def divNear (a b : Nat) : Nat := (2 * a + b) / (2 * b)

/-- Quotient rounded to the nearest whole number, halves away from zero; `b` is positive. -/
def divNearI (a : Int) (b : Nat) : Int := if a < 0 then -(divNear a.natAbs b : Nat) else (divNear a.natAbs b : Nat)

/-- Quotient rounded up. -/
def divUp (a b : Nat) : Nat := (a + b - 1) / b

/-- The integer square root, by bisection with `n` halvings. -/
def isqrtIn : Nat → Nat → Nat → Nat → Nat
  | 0, _, lo, _ => lo
  | n + 1, x, lo, hi =>
    let mid := (lo + hi + 1) / 2
    if mid * mid ≤ x then isqrtIn n x mid hi else isqrtIn n x lo (mid - 1)

/-- The integer square root of a number below 2^128. -/
def isqrt (x : Nat) : Nat := isqrtIn 66 x 0 (2 ^ 64)

/-- The floor of the base-2 logarithm; 0 for 0. -/
def log2f (x : Nat) : Nat := Nat.log2 x

/-- A number as `n` bytes, least significant first. -/
def leBytes : Nat → Nat → List Byte
  | 0, _ => []
  | n + 1, x => BitVec.ofNat 8 x :: leBytes n (x / 256)

/-- A number as `n` bytes, most significant first. -/
def beBytes (n x : Nat) : List Byte := (leBytes n x).reverse

/-- The number that bytes spell, least significant first. -/
def leNat : List Byte → Nat
  | [] => 0
  | b :: t => b.toNat + 256 * leNat t

/-- The number that bytes spell, most significant first. -/
def beNat (b : List Byte) : Nat := leNat b.reverse

/-- Byte `i` of a byte string, 0 beyond its end. -/
def u8 (b : List Byte) (i : Nat) : Nat := (b.getD i 0).toNat

/-- The 16-bit number at byte `i`. -/
def u16 (b : List Byte) (i : Nat) : Nat := u8 b i + 256 * u8 b (i + 1)

/-- The 32-bit number at byte `i`. -/
def u32 (b : List Byte) (i : Nat) : Nat := u16 b i + 65536 * u16 b (i + 2)

/-- The 64-bit number at byte `i`. -/
def u64 (b : List Byte) (i : Nat) : Nat := u32 b i + 4294967296 * u32 b (i + 4)

/-- `n` bytes of a byte string from byte `i`, padded with zeros. -/
def subBytes (b : List Byte) (i n : Nat) : List Byte :=
  let t := (b.drop i).take n
  t ++ List.replicate (n - t.length) 0

/-- A byte string with `v` written over it from byte `i`. -/
def overlay (b : List Byte) (i : Nat) (v : List Byte) : List Byte :=
  b.take i ++ v ++ b.drop (i + v.length)

/-- `n` zero bytes. -/
def zeros (n : Nat) : List Byte := List.replicate n 0

/-- The CHK byte that makes the sum of a record's bytes 0x5A modulo 256 (R159, R164, R343, R348). -/
def chkByte (b : List Byte) : Byte := BitVec.ofNat 8 (0x5A + 256 * b.length - (b.map BitVec.toNat).sum)

/-- A sparse list's value at a key, `d` where the key is not listed. -/
def Sparse.get {β : Type} (m : List (Nat × β)) (k : Nat) (d : β) : β :=
  match m with
  | [] => d
  | (a, b) :: t => if a = k then b else Sparse.get t k d

/-- A sparse list with a key's value set, keys ascending. -/
def Sparse.put {β : Type} (m : List (Nat × β)) (k : Nat) (v : β) : List (Nat × β) :=
  match m with
  | [] => [(k, v)]
  | (a, b) :: t => if k < a then (k, v) :: (a, b) :: t else if a = k then (k, v) :: t else (a, b) :: Sparse.put t k v

/-- A sparse list without a key. -/
def Sparse.del {β : Type} (m : List (Nat × β)) (k : Nat) : List (Nat × β) := m.filter fun e => e.1 != k

/-- A sparse list with a key's value set, in canonical form: a value equal to what an unlisted key reads as is not
listed. -/
def Sparse.set {β : Type} [DecidableEq β] (m : List (Nat × β)) (k : Nat) (v d : β) : List (Nat × β) :=
  if v = d then Sparse.del m k else Sparse.put m k v

/-- The canonical form of a sparse list: keys strictly rising. -/
def Sparse.rising {β : Type} : List (Nat × β) → Bool
  | [] => true
  | [_] => true
  | a :: b :: t => decide (a.1 < b.1) && Sparse.rising (b :: t)

end Sys2Proof.Machine
end

