-- ==== Sys2Proof/Config.lean ====
section
/-! DEFINITION. What an implementation fixes and the values the spec leaves open. Every `opaque` constant has no body: nothing can be proved of its value, so a statement that mentions one holds for every value of it. -/

namespace Sys2Proof.Config

/-- The serial number fused into the part (R450 `SERIAL`). -/
opaque serialNumber : BitVec 64

/-- Bytes the spec leaves open, counted by the state's own counter (log entry 5). -/
opaque freeByte : Nat → BitVec 8

/-- Numbers the spec leaves open, counted by the state's own counter (log entry 5). -/
opaque freeNat : Nat → Nat

/-- The Delilmar code book CB-1, published as a file of its own and not in the spec: the seven gap values of an entry
(R123, R124; log entry 9). -/
opaque codeBook : Nat → Vector (BitVec 8) 7

/-- The nominal tables of the boot ROM, whose entries the spec does not give: by table and key (R169, R216; log entry
22). -/
opaque nominal : Nat → Nat → Int

/-- Coefficients of the preset filter banks 0 to 2, held in ROM and not in the spec: by bank and tap (R209; log entry
22). -/
opaque presetCoef : Nat → Nat → Int

/-- The fixed table of 64 cubic interpolation kernels, by phase and tap, not in the spec (R208; log entry 22). -/
opaque kernel : Nat → Nat → Int

/-- The estimates of a lane's 24 slice factors, and its residual spur in −dBc, from what it has summed over a coat: the spec does
not give how they follow (R198; log entry 28). -/
opaque laneEstimate : List (List Nat) → List Int
opaque laneSpur : List (List Nat) → Nat

/-- The factory values of the reference checks 54 to 56, in ADC codes (R249; log entry 29). -/
opaque refCheck : Nat → Int

/-- The MAGIC numbers of the flash records, which the spec does not give, by area (R428; log entry 35). -/
opaque recordMagic : Nat → BitVec 32

/-- The certificate chain of slot 0, which the part carries and the spec does not give: its length and its bytes (R352; log
entry 57). -/
opaque certLength : Nat
opaque certByte : Nat → BitVec 8

/-- The digest of the boot ROM, fixed at manufacture and not in the spec (R433; log entry 58). -/
opaque romDigest : Nat → BitVec 8

/-- Whether an unlock certificate verifies against the Delilmar key, for a nonce and the words written: the key is in the
boot ROM and not in the spec (R445; log entry 59). -/
opaque unlocks : Nat → List Nat → Bool

/-- How many words an unlock certificate has, which the spec does not give (R445; log entry 59). -/
opaque unlockWords : Nat

/-- Whether the part holds TCOMP coefficients, and the cubic they give: ε in 1/16 ppb by the temperature in °C (R109; log
entry 65). -/
opaque tcompPresent : Bool
opaque tcomp : Int → Int

end Sys2Proof.Config
end

