-- ==== Sys2Proof/Machine/State.lean ====
section
/-! DEFINITION. The state of the MLQ-9640 as plain data: the register fields, the memories, the queues, and what every engine holds between two commands. The state right after reset stands at the end. -/

namespace Sys2Proof.Machine

/-- The access codes of R453. -/
inductive Acc where
  | ro | rw | rws | rwl | wo | wos | w1c
  deriving DecidableEq, Repr

/-- The Boundary column of the field tables (R19, R411). -/
inductive Bnd where
  | none | imm | tick | coat | frame | refresh
  deriving DecidableEq, Repr

/-- A register field as a row of a field table gives it. `key` is the byte offset in BAR0 times 32 plus the number of
the field's lowest bit, so every field of the device has a key of its own; `kept` has a bit for every reset the
Kept over column lists (HOST 1, FLR 2, BLOCK 4, WARM 8, TAKEOVER 16, all 63). -/
structure Fld where
  key   : Nat
  width : Nat
  reset : Nat
  acc   : Acc
  bnd   : Bnd
  kept  : Nat
  deriving DecidableEq, Repr

/-- The resets of R444. -/
inductive ResetKind where
  | host | flr | block | warm | takeover | por
  deriving DecidableEq, Repr

/-- When a pending commit or soft reset takes hold (R19, R20, R21, R411). -/
inductive Due where
  /-- between two column measurement windows (R21) -/
  | window
  /-- at the boundary that begins the tick of this number -/
  | tick (n : Nat)
  /-- at the next latch line of Render (R411) -/
  | refresh
  deriving DecidableEq, Repr

/-- The tables a staged table entry goes to. -/
inductive TabId where
  | flt | rofs | skew | coef | pal
  deriving DecidableEq, Repr

/-- A commit that has been accepted and has not yet taken hold (R22): the fields and the table entries it changes, with
their values. `wait` marks a code key that waits for its frame (R126). -/
structure PendCommit where
  page : Page
  vals : List (Nat × Nat)
  due  : Due
  tabs : List (TabId × Nat × Int) := []
  wait : Bool := false
  deriving DecidableEq, Repr

/-- A soft reset that waits for its boundary (R457). -/
structure PendReset where
  page : Page
  due  : Due
  deriving DecidableEq, Repr

/-- An event record as R348 lays it out, before it is given bytes. -/
structure EventRec where
  seq   : Nat
  block : Nat
  inst  : Nat
  bit   : Nat
  qual  : Nat
  dtime : Nat
  pos   : Nat
  epoch : Nat
  part  : Nat
  cells0 : Nat
  cells1 : Nat
  args  : List Nat
  deriving DecidableEq, Repr

/-- The object types that DOE Discovery names (R335, R338). -/
inductive DoeType where
  | discovery | spdm | securedSpdm | cdat | safety
  deriving DecidableEq, Repr

/-- The DMTF types of the measurement blocks (R353). -/
inductive DmtfType where
  | immutableRom | mutableFirmware | firmwareConfig | version | manifest | deviceMode
  deriving DecidableEq, Repr

/-- Answers of the SPDM responder by their content; their coding is that of the SPDM standard (R352, R353). -/
inductive SpdmRsp where
  /-- version 1.2 -/
  | version (major minor : Nat)
  | capabilities
  /-- ECDSA on P-384, SHA-384, DHE on secp384r1 and AES-256-GCM selected -/
  | algorithms
  /-- slot and digest of each certificate chain held -/
  | digests (slots : List (Nat × List Byte))
  /-- a portion of the chain of slot 0, and how many bytes follow it -/
  | certificate (portion : List Byte) (rest : Nat)
  | challengeAuth (digest signature : List Byte)
  /-- index, DMTF type and value of each block, and a signature where one was asked for -/
  | measurements (blocks : List (Nat × DmtfType × List Byte)) (signature : Option (List Byte))
  | keyExchange (session : Nat) (exchange signature : List Byte)
  | finished (session : Nat)
  | heartbeatAck (session : Nat)
  | keyUpdateAck (session : Nat)
  | sessionEnded (session : Nat)
  | ideKmAck (session stream : Nat)
  | error
  deriving DecidableEq, Repr

/-- What leaves the device other than through a pin's standing level: answers to reads, messages, and lines written to
host memory. -/
inductive Out where
  /-- the bytes a register read returns (R452) -/
  | regRead (path : Path) (off : Nat) (bytes : List Byte)
  /-- an SMBus answer; no bytes for a byte count of 0 (R463) -/
  | smbus (bytes : List Byte)
  /-- an MSI-X message (R351) -/
  | msix (vec addr data : Nat)
  /-- a full line written to host memory (R342) -/
  | hostLine (addr : Nat) (bytes : List Byte)
  /-- a safety telegram sent through a Gosia port (R306) -/
  | telegram (port : Nat) (bytes : List Byte)
  /-- a response of a DOE instance (R338) -/
  | doe (inst : Nat) (bytes : List Byte)
  /-- the answer to a CXL.mem read: no bytes for poison, and whether a copy of the line is granted (R340, R341) -/
  | memRead (addr : Nat) (bytes : Option (List Byte)) (copy : Bool)
  /-- a back-invalidation snoop: line address, and whether it asks for data (R340) -/
  | biSnoop (line : Nat) (data : Bool)
  /-- a snoop of the host answered as holding no line (R335) -/
  | snoopMiss (line : Nat)
  /-- an HDM decoder commit accepted, or failed with Error Not Committed (R339) -/
  | decoder (index : Nat) (committed : Bool)
  /-- an object type named by DOE Discovery, and the index of the next, 0 at the end (R338) -/
  | doeType (inst : Nat) (kind : DoeType) (next : Nat)
  /-- the CDAT: base and size of each DSMAS entry, latency in ns, link speed code and width that give the bandwidth (R338) -/
  | cdat (dsmas : List (Nat × Nat)) (latency speed width : Nat)
  /-- an answer of the SPDM responder (R352) -/
  | spdm (rsp : SpdmRsp)
  /-- a message of the twin port (R318) -/
  | twin (bytes : List Byte)
  /-- an item of the configuration mirror (R319) -/
  | twinCfg (item : CfgItem)
  /-- a parcel sent through a Gosia port (R363) -/
  | parcel (port : Nat) (bytes : List Byte)
  /-- an AUX transaction on the DisplayPort link: OP, address, byte count, bytes written (R407) -/
  | aux (op addr len : Nat) (bytes : List Byte)
  /-- an active display line as RGB values, left to right (R415) -/
  | displayLine (line : Nat) (rgb : List Nat)
  deriving DecidableEq, Repr

/-- A work unit: 16 rows of one head in one window of the measurement tick `mtick`, counted since the tick
generator started (R32). For a window engine the group is 0. -/
structure WorkUnit where
  head   : Nat
  window : Nat
  group  : Nat
  mtick  : Nat
  deriving DecidableEq, Repr

/-- One image slot of a partition: the bytes of the partition and the header of the image it was loaded from
(R38). `load` numbers the load that staged it, 0 for an empty slot. -/
structure ImgSlot where
  hdr  : List Byte := []
  part : List Byte := []
  load : Nat := 0
  deriving DecidableEq, Repr

/-- A schedule load that runs (R38). -/
structure LoadReq where
  addr  : Nat
  len   : Nat
  mask  : Nat
  flash : Bool
  deriving DecidableEq, Repr

/-- A unit marked for replay (R49): the engine it is replayed from, the lane that erred, the tick of the error, whether it
has been replayed or dropped, and the context images that its writeback will find bad (R226). -/
structure ReplayMark where
  wu     : WorkUnit
  engine : Nat
  lane   : Nat
  errTick : Nat
  ran     : Bool := false
  fails   : List ImageFail := []
  deriving DecidableEq, Repr

/-- What Screed holds beside its registers. -/
structure ScdSt where
  /-- slot A of partitions 0 to 8, then slot B -/
  slots   : Vector ImgSlot 18 := Vector.replicate 18 {}
  runHdr  : List Byte := []
  load    : Option LoadReq := none
  loads   : Nat := 0
  /-- tick at which the last swap of each partition took hold, and whether its old slot is still held (R42) -/
  swapAt  : Vector Nat 9 := Vector.replicate 9 0
  held    : Nat := 0
  /-- entries of the tick in progress that have run: partition, engine, index -/
  done    : List (Nat × Nat × Nat) := []
  marks   : List ReplayMark := []
  /-- units replayed in the tick in progress -/
  replays : List ReplayMark := []
  /-- units dropped in the tick in progress -/
  dropped : List WorkUnit := []
  /-- errors of the tick in progress and of the one before: engine, lane, unit (R51) -/
  errs     : List (Nat × Nat × WorkUnit) := []
  errsPrev : List (Nat × Nat × WorkUnit) := []
  /-- buffer slots declared faulty: bit p for slot A of partition p, bit 9 + p for slot B (R30) -/
  badSlots : Nat := 0
  /-- entries skipped in the tick in progress after a failed second read: partition, engine, index (R30) -/
  skips : List (Nat × Nat × Nat) := []
  /-- groups whose second faulty lane has been renumbered away, and by group the tick from which its second faulty lane's units are
  dropped until then (R52) -/
  renumbered : Nat := 0
  lostFrom : List (Nat × Nat) := []
  /-- the frame boundary at which measurement restarts after LEASE.RESUME (R55) -/
  resumeAt : Option Nat := none
  /-- whether measurement runs, and since which tick -/
  measuring : Bool := false
  /-- the tick boundary at which measurement stops (R54, R83) -/
  stopAt : Option Nat := none
  measureFrom : Nat := 0
  /-- whether the frame in progress runs under throttle step 3 (R14) -/
  variant  : Bool := false
  renewed  : Bool := false
  deriving DecidableEq, Repr
/-- What a head's mirror is doing (R80 to R83). -/
inductive MirMode where
  /-- resting at PARK_CODE -/
  | parked
  /-- moving from a code to target(0) over 64 ticks from a tick -/
  | out (start fromCode : Nat)
  /-- following the steps -/
  | run
  /-- moving from a code to PARK_CODE over 64 ticks from a tick -/
  | home (start fromCode : Nat)
  deriving DecidableEq, Repr

/-- One shot of a window: its line and pulse slot, and its start counted from the start of the window, its width and its
pre-charge, each in units of 1/131,040 ns, in which the firing grid of R60, the widths of R61 and whole nanoseconds are whole
(R60 to R62). -/
structure Shot where
  line   : Nat
  slot   : Nat
  start  : Nat
  width  : Nat
  prechg : Nat
  deriving DecidableEq, Repr

/-- What Trowel holds for one head beside its registers. -/
structure EmtSt where
  /-- the ramp of R65: from `rampA` to `rampB` in `rampL` coats, `rampN` of them done -/
  rampA : Nat := 0
  rampB : Nat := 0
  rampN : Nat := 0
  rampL : Nat := 0
  /-- drive units fired per tick, per coat and per block of 64 coats, newest first (R69) -/
  ael0 : List Nat := [0]
  ael1 : List Nat := [0]
  ael2 : List Nat := [0]
  blockCoats : Nat := 0
  /-- blanked to the end of the coat by R70 -/
  blanked : Bool := false
  /-- pins found faulty in the test in progress or ended, to take hold at the coat boundary; bits 0 to 39 (R73) -/
  pinsBad  : Nat := 0
  pinsGood : Nat := 0
  tested   : Bool := false
  /-- the writes of FAULT_CLR whose test has not ended, by the tick from which each has taken hold (R75) -/
  clrs : List Nat := []
  mir : MirMode := .parked
  /-- servo integrator, in units of 1/256 DAC code (R78) -/
  acc : Int := 0
  /-- the error of the tick in progress exceeds ANG_LIM (R79) -/
  angBad : Bool := false
  /-- the code that the step of the tick in progress writes -/
  dacNext : Nat := 0x8000
  /-- the head joins at this tick, and restarts its reach ramp there -/
  joinAt : Option Nat := none
  /-- the pickups' codes at the last strobe, and whether one of them carries OVR or OPEN (R78, R79, R244) -/
  pick : Pickup := {}
  pickBad : Bool := true
  /-- the shots of the last window on `LDRV_Hh_ll` and `PCHG_Hh`, and its column drive: the column, and when it goes high and
  low, in the units of `Shot` from 200 ns before the window (R60 to R63) -/
  shots : List Shot := []
  col   : Option (Nat × Nat × Nat) := none
  deriving DecidableEq, Repr

/-- Edge words of one pulse are kept as their fields (R96). -/
structure Edge where
  coarse : Nat
  fine   : Nat
  kind   : Nat
  relief : Bool := false
  sat    : Bool := false
  recov  : Bool := false
  nbr    : Bool := false
  trunc  : Bool := false
  deriving DecidableEq, Repr

/-- A candidate peak of Scrim (R135). -/
structure Peak where
  bin   : Nat
  count : Nat
  votes : Nat
  run   : Nat
  ambig : Bool
  edge  : Bool
  sat   : Bool
  floored : Bool
  deriving DecidableEq, Repr

/-- A return on its way through Float and Masking (R148 to R155, R172). The amplitude a of R155 is held as a
fraction. -/
structure Ret where
  range : Nat
  width : Nat
  intens : Nat
  conf  : Nat
  sat   : Bool
  wfm   : Bool
  edge  : Bool
  ampN  : Nat
  ampD  : Nat
  /-- contributing stops, by their places among the measurement's stops (R144) -/
  stops : List Nat
  cls   : Nat := 0
  pc    : Nat := 0
  /-- suppressed by the policy of R187 -/
  gone  : Bool := false
  deriving DecidableEq, Repr

/-- A waveform capture of one measurement (R199 to R212): the input samples that are not plain zero current, and the
settings under which its outputs are formed. -/
structure Capt where
  lane  : Nat
  inj   : Bool
  /-- decimation factor D, taps and bank (R209) -/
  d     : Nat
  taps  : Nat
  bank  : Nat
  /-- shifts IN, FIR and RS, and whether the resampler is on (R208) -/
  inSh  : Nat
  firSh : Nat
  rsSh  : Nat
  rsEn  : Bool
  /-- group delay of the bank in 1/64 input sample, and the channel's skew (R210) -/
  gd    : Nat
  skew  : Int
  line  : Nat
  /-- slice factors O, G, K of the lane (R195) -/
  facs  : List Int
  /-- custom coefficients, where the bank is a custom one -/
  coefs : List Int
  /-- full scale of the channel's gain setting in pA (R88, R193) -/
  fs    : Nat
  /-- switch instant in input samples after W (R200), last output (R199), and input sample from which a settings switch
  or a withdrawal spoils the capture (R91, R213) -/
  sw    : Nat
  last  : Int
  spoil : Option Nat
  input : List Sample
  deriving DecidableEq, Repr

/-- One measurement: what its channel delivered (R102) and what the stages have made of it. -/
structure MeasRow where
  pulses : List (List Edge) := []
  lost   : Nat := 0
  outCnt : Nat := 0
  winTot : Nat := 0
  /-- Scrim's result, none before its slot (R135) -/
  scrim  : Option (List Peak) := none
  tEff   : Nat := 0
  overflow : Bool := false
  blind  : Bool := false
  /-- Skim's result: A, floor S (R136, R137) -/
  skim   : Option (Nat × Nat) := none
  /-- Float's result, classified once `masked` is set (R178) -/
  rets   : Option (List Ret) := none
  /-- Float's result as Float left it, from which Masking replays (R49) -/
  flt    : Option (List Ret) := none
  sun    : Bool := false
  masked : Bool := false
  /-- dirt level after the update, and whether the measurement has entered the coat's counts (R185) -/
  dirt   : Nat := 0
  counted : Bool := false
  /-- whether the measurement has entered REQ_CNT (R181) -/
  reqs   : Bool := false
  /-- flags INTF, CARRY and DEGR that Masking and Lath give the measurement (R183, R223, R236), and whether it holds a chain
  (R177) -/
  intf   : Bool := false
  chain  : Bool := false
  carry  : Bool := false
  degr   : Bool := false
  capts  : List Capt := []
  deriving DecidableEq, Repr

/-- The context of one row in the cache: the 256 bytes as read, whether its source counts as fresh and whether its
stable image is written back fresh (R222, R226), and the updated working image, none before the update (R224). -/
structure CtxRow where
  bytes : List Byte := []
  srcFresh : Bool := true
  stabFresh : Bool := true
  upd : Option (List Byte) := none
  deriving DecidableEq, Repr

/-- The contexts of one unit in the cache, row by row (R16). -/
structure CtxUnit where
  wu   : WorkUnit
  rows : List CtxRow
  deriving DecidableEq, Repr

/-- One column measurement of one head, from its window to its writeback. -/
structure Win where
  mtick  : Nat
  head   : Nat
  window : Nat
  col    : Nat
  /-- drawn pulse offsets, none where no code was drawn (R124) -/
  offs   : Option (List Nat) := none
  entry  : Nat := 0
  /-- row groups whose line fired, as a mask of 32 lines; 0 for an unlit window (R72) -/
  lit    : Nat := 0
  /-- DEGR for the whole column (R79), TWIN (R328), and the dirt alarm at the start of the coat (R183) -/
  degr   : Bool := false
  twin   : Bool := false
  dirt   : Bool := false
  /-- made in SHADOW: it yields no record (R330) -/
  silent : Bool := false
  /-- rows whose records carry CALAGE, and rows whose WFM records do (R272) -/
  calage : Nat := 0
  wfmage : Nat := 0
  /-- gains of the channel groups, device range offset and calibration stamp in force (R146, R271, R270) -/
  gains  : List Nat := []
  devOfs : Int := 0
  calGen : Nat := 0
  /-- rows enabled in CH_EN (R92) -/
  chEn   : Nat := 0
  /-- the first coarse bin left out at the end of the window: 15,984 before a settings switch, earlier than 16,000 by the bins that
  a step of the next tick start takes, else 16,000 (R91, R375) -/
  cut    : Nat := 16000
  /-- 1 + epsilon of the tick, in units of 1/16 ppb above one (R110) -/
  eps    : Int := 0
  /-- effective energy index of the window (R66) -/
  effIdx : Nat := 0
  /-- frame counter and tick of the frame of the measurement -/
  frame  : Nat := 0
  tick   : Nat := 0
  epoch  : Nat := 0
  /-- empty records are written for the measurement (R160) -/
  emptyEn : Bool := true
  /-- the settings of Scrim, Skim, Float, Masking and the point builder in force when the window began, as the live register
  list holds them, and whether decomposition was off (R21, R23, R254; log entry 126) -/
  set : List (Nat × Nat) := []
  plain : Bool := false
  /-- its captures have been offered to Dust Sheet (R390) -/
  tapped : Bool := false
  /-- groups whose records have been written -/
  written : Nat := 0
  /-- groups replayed: their records carry REPLAY (R49) -/
  replay : Nat := 0
  /-- groups dropped (R48) -/
  dropped : Nat := 0
  rows   : Vector MeasRow 128 := Vector.replicate 128 {}
  deriving DecidableEq, Repr

/-- What the housekeeping front end and the thermal manager hold beside their registers. -/
structure HkpSt where
  /-- tick of the last valid result of each RTD input (R68), and whether one exists -/
  rtdAt : Vector (Option Nat) 12 := Vector.replicate 12 none
  /-- the RTD pulse in progress: its input and whether 4-wire; and the conversions of its two halves (R246) -/
  pulse : Option (Fin 12 × Bool) := some (0, false)
  half1 : List (Option Int) := []
  half2 : List (Option Int) := []
  /-- the last results of the reference checks 54 to 57, as they are before REF_FAIL replaces them (R246, R249) -/
  ref   : Vector Int 4 := Vector.replicate 4 0
  /-- rounds in a row with a bad and with a good reference check (R249) -/
  refBad : Nat := 0
  refGood : Nat := 0
  /-- the tick boundaries at which the round restarts (R250, R259) -/
  restart : List Nat := []
  /-- the round's thermal evaluation is due (R253) -/
  evalDue : Bool := false
  /-- rounds in a row in which each sensor deviated, rounds without and with at least 4 valid sensors (R251) -/
  dev   : Vector Nat 16 := Vector.replicate 16 0
  low   : Nat := 0
  okay  : Nat := 0
  /-- the last evaluated temperatures, newest first, in 1/16 °C (R253) -/
  last  : List Int := []
  /-- evaluations in a row at or above 155 °C (R256) -/
  hot   : Nat := 0
  /-- the throttle step in force at the boundary that began the tick in progress, and the actions in force: clocks halved, and no
  decomposition (R254) -/
  bndStep : Nat := 0
  slow  : Bool := false
  plain : Bool := false
  /-- thermal shutdown: 0 none, 1 latched, 2 outputs off, 3 power off (R257) -/
  shut  : Nat := 0
  deriving DecidableEq, Repr

/-- The tables behind the table ports, entries that are not nominal (R97, R149, R169, R216, R277). Keys: fine time by
head times 136 plus interpolator, relief, range offset and skew by head times 128 plus row, Float tables by `fltKey`,
custom filter coefficients by `coefKey`. -/
structure Tabs where
  ft     : List (Nat × List Nat) := []
  relief : List (Nat × Int) := []
  flt    : List (Nat × Int) := []
  rofs   : List (Nat × Int) := []
  skew   : List (Nat × Int) := []
  coef   : List (Nat × Int) := []
  deriving DecidableEq, Repr

/-- What the converters hold beside their registers (R103 to R107): for each calibration turn in progress its hits
and extensions, by head times 136 plus interpolator. -/
structure TdcSt where
  /-- where each fine-time table that is not nominal came from: 1 the AON copy, 2 measured here -/
  src    : List (Nat × Nat) := []
  hits   : List (Nat × List Nat) := []
  ext    : List (Nat × Nat) := []
  /-- first tables of REPEAT mode (R268) -/
  first  : List (Nat × List Nat) := []
  deriving DecidableEq, Repr

/-- What Lath and the memory controllers hold beside their registers. -/
structure LthSt where
  cache : List CtxUnit := []
  /-- for each cell written back, the measurement tick of that writeback, which gives the sequence S of its bursts
  (R232) -/
  tags : List (Nat × Nat) := []
  /-- heads that had a measurement scheduled in the frame in progress (R222) -/
  used : Nat := 0
  /-- heads whose contexts start fresh in the frame in progress (R222) -/
  freshHeads : Nat := 0
  /-- whether the frame before ran under throttle step 3 (R232) -/
  variantPrev : Bool := false
  /-- contexts came from a checkpoint; a cell not yet written back since carries the tag its first read expects (R325) -/
  seeded : Bool := false
  deriving DecidableEq, Repr

/-- What Stipple, Scrim and Skim hold beside their registers. -/
structure StpSt where
  /-- measurements with SUN and the highest floor in the coat in progress (R142) -/
  sunCnt : Nat := 0
  maxS   : Nat := 0
  deriving DecidableEq, Repr

/-- What Masking counts of a head in the coat in progress: measurements classified, dirty ones, the sum of D, and the
returns of classes 1 to 8 (R185, R190). -/
structure MskSt where
  n     : Nat := 0
  dirty : Nat := 0
  sumD  : Nat := 0
  cls   : Vector Nat 9 := Vector.replicate 9 0
  last  : Vector Nat 9 := Vector.replicate 9 0
  deriving DecidableEq, Repr

/-- What the time base holds beside its registers. -/
structure TimSt where
  /-- the tick boundaries that SYNC_IN edges have selected (R215) -/
  syncAt : List Nat := []
  /-- domain time at the start of the tick in progress, in units of 2^-56 s (R111) -/
  dtime : Nat := 0
  /-- the seconds that each path captured with its last read of TIME_FRAC (R112, R456) -/
  secCap : Vector Nat 4 := Vector.replicate 4 0
  /-- offset still to be slewed, in units of 2^-56 s, and the steering term of the frame, in ppb (R377) -/
  remaining : Int := 0
  sigma : Int := 0
  /-- ε of the tick in progress, as it stood at its start, in 1/16 ppb (R110, R111; log entry 153) -/
  eps : Int := 0
  /-- θ at the last reference event, in units of 2^-56 s (R377) -/
  theta : Int := 0
  /-- tick of the last accepted reference event, and tick since which the present reference is followed (R377, R379) -/
  eventAt : Option Nat := none
  /-- how long the device had run at that event, in units of 2^-56 s (R377) -/
  eventAge : Nat := 0
  refFrom : Nat := 0
  /-- tick of the last SYNC from the upstream port (R379) -/
  syncSeen : Option Nat := none
  /-- an event with θ of at most 1 ms has been accepted since SPLIT or UNALIGNED began (R379) -/
  slewing : Bool := false
  /-- own time of the last accepted PPS edge, in units of 2^-56 s since the tick generator started (R378) -/
  ppsAt : Option Nat := none
  deriving DecidableEq, Repr

/-- A result that the calibration manager checks or has accepted (R262): fine-time table of an interpolator with its hit
counts, relief offset, comparator and baseline trims of a row, channel skew; the second of a REPEAT pair carries the
first. -/
inductive CalItem where
  | ft (n : Nat) (tab hits : List Nat) (first : Option (List Nat))
  /-- a turn that failed, or an item of a kind without a first result in REPEAT mode (R104, R268) -/
  | bad (kind n : Nat)
  | relief (row : Nat) (v : Int)
  /-- moves of LE_OFS, TE_OFS and TIA_OFS; the first two only where the row had pulses enough (R263) -/
  | trim (row : Fin 128) (le te : Option Int) (base : Int) (first : Option (Option Int × Option Int × Int))
  /-- move of the entry in 1/64 input sample, and the standard error of its mean in 0.1 ps (R264, R269) -/
  | skew (row : Nat) (v : Int) (err : Nat) (first : Option Int)
  deriving DecidableEq, Repr

/-- What an RFE run has summed of a row (R263): baseline samples less zero current and their number; comparator errors
of LE and of TE in 7 × 81,920ths of FS/4,096, each with the number of pulses. -/
structure RfeAcc where
  n    : Nat := 0
  base : Int := 0
  kLe  : Nat := 0
  le   : Int := 0
  kTe  : Nat := 0
  te   : Int := 0
  deriving DecidableEq, Repr

/-- What the calibration manager holds for one head. -/
structure CalHead where
  /-- T_ref in 1/16 °C (R265) -/
  tref : Option Int := none
  /-- interpolators that the TDC run has still to measure, bit n for interpolator n (R103, R106) -/
  left : Nat := 0
  /-- in the coat in progress all interpolators of the run are fed at once (R106) -/
  fed  : Bool := false
  /-- coats counted by the RFE and by the SKEW accumulation in progress, both accumulations of REPEAT mode together (R266, R268) -/
  rfe  : Nat := 0
  skew : Nat := 0
  /-- the ticks at which the SKEW accumulation began and at which it had counted 16 and 32 coats (R264, R268) -/
  skewAt : List Nat := []
  /-- REPEAT was set when the RFE and SKEW runs started (R268) -/
  twice : Bool := false
  /-- first results of REPEAT mode, once they are there (R268) -/
  rfe1  : Option (List CalItem) := none
  skew1 : Option (List CalItem) := none
  /-- results waiting for their check, and accepted items waiting for the coat boundary (R267, R270) -/
  res  : List CalItem := []
  take : List CalItem := []
  /-- accepted and refused items of the TDC run in progress -/
  good : Nat := 0
  bad  : Nat := 0
  /-- largest standard error of an accepted bin of the run (R269) -/
  tdcErr : Nat := 0
  /-- rows whose records carry CALAGE, and rows whose WFM records do, in the coat in progress (R272) -/
  age    : Nat := 0
  wfmAge : Nat := 0
  /-- a per-channel item of the head takes hold at the boundary in progress (R270) -/
  gen  : Bool := false
  /-- rows whose RFE trims, and rows whose skew, the host has committed at the boundary in progress (R270) -/
  hostTrim : Nat := 0
  hostSkew : Nat := 0
  deriving DecidableEq, Repr

/-- What the calibration manager holds beside its registers. -/
structure CalSt where
  heads : Vector CalHead 8 := Vector.replicate 8 {}
  /-- for each accepted item of the AON copy the AON seconds and T_h in 1/16 °C at its acceptance, by `ftMark`, `trimMark`,
  `skewMark`, `reliefMark`, `offsetMark`, `floatMark` and `deviceMark` (R272) -/
  marks : List (Nat × (Nat × Int)) := []
  /-- sums of RFE runs in progress, by head times 128 plus row, the second accumulation of REPEAT mode 1,024 higher -/
  rfe : List (Nat × RfeAcc) := []
  /-- for each row of a SKEW run in progress its returns, and the sums of their differences in 1/320 LSB and of the
  squares of these, by head times 128 plus row, the second accumulation of REPEAT mode 1,024 higher (R264) -/
  skew : List (Nat × (Nat × Int × Nat)) := []
  /-- Primer is in progress, from the tick given (R275) -/
  primer : Option Nat := none
  /-- heads whose skew entries came from a store of this device (R276) -/
  stored : Nat := 0
  /-- ticks that AON has counted (R272) -/
  aonTicks : Nat := 0
  /-- tick of the last parity error (R274) -/
  errAt : Option Nat := none
  deriving DecidableEq, Repr

/-- A ring that the point builder writes: base address, slots, failed channels avoided (R236), entries written, and the
first tick whose measurements go to it (R161, R165). -/
structure RingSt where
  base : Nat := 0
  cap  : Nat := 0
  fail : Nat := 0
  cnt  : Nat := 0
  start : Nat := 0
  deriving DecidableEq, Repr

/-- What the frame-header record of a frame reports (R164). -/
structure FrameInfo where
  frame : Nat := 0
  epoch : Nat := 0
  domain : Nat := 0
  heads : Nat := 0
  coats : Nat := 4
  step  : Nat := 0
  twin  : Bool := false
  untrusted : Bool := false
  ts    : Nat := 0
  imgSeq : Nat := 0
  keyCheck : Nat := 0
  contract : Nat := 0
  recs  : Vector Nat 8 := Vector.replicate 8 0
  replayed : Nat := 0
  dropped : Nat := 0
  degr  : Nat := 0
  ended : Bool := false
  deriving DecidableEq, Repr

/-- What the point builder holds beside its registers: the rings in use and the ones before them, the frame in progress
and the one before it, the tick of the last record write, frame-header write and image, and whether the coat in progress
and the one before it measured anything (R161 to R168). -/
structure PtbSt where
  ring  : Vector RingSt 8 := Vector.replicate 8 {}
  old   : Vector RingSt 8 := Vector.replicate 8 {}
  fh    : RingSt := {}
  fhOld : RingSt := {}
  cur   : FrameInfo := {}
  prev  : FrameInfo := {}
  wroteAt : Option Nat := none
  headerAt : Option Nat := none
  imageAt : Option Nat := none
  /-- the heads that measured in the coat in progress and in the one before, and the coat of each head's last complete
  image (R168, R412) -/
  coatMeas : Nat := 0
  coatMeasPrev : Nat := 0
  imgCoat : List (Nat × Nat) := []
  /-- the records written in the command in progress: head, measurement tick, window, bytes (R390) -/
  tap : List (Nat × Nat × Nat × List Byte) := []
  deriving DecidableEq, Repr

/-- A capture planned for the tick with number `tick` (R206): `must` marks one made for Dust Sheet or the host, which is
made under throttle steps 2 and 3 as well (R213), `dst` one that serves a Dust Sheet request (R390). -/
structure PlanEnt where
  tick   : Nat
  window : Nat
  lane   : Nat
  row    : Nat
  inj    : Bool
  must   : Bool
  dst    : Bool := false
  deriving DecidableEq, Repr

/-- A request of Dust Sheet for a capture: row, column (none for any), and when it arrived (R204, R205). -/
structure CapReq where
  row  : Nat
  col  : Option Nat
  tick : Nat
  ns   : Nat
  deriving DecidableEq, Repr

/-- What a lane sums of the codes of one slice over a coat: their number, sum and sum of squares, and the number and the sum of
the products with the neighbouring slice's code (R198). -/
structure SliceSum where
  n     : Nat := 0
  sum   : Nat := 0
  sq    : Nat := 0
  pairs : Nat := 0
  prod  : Nat := 0
  deriving DecidableEq, Repr

/-- What a lane group holds beside its registers. -/
structure WflSt where
  /-- slice factors of each lane, 3 to a slice, and the lanes with an accepted result (R195 to R197) -/
  facs  : Vector (List Int) 8 := Vector.replicate 8 []
  good  : Nat := 0
  /-- consecutive coat boundaries at which a lane's estimate lay outside the ranges (R198) -/
  out   : Vector Nat 8 := Vector.replicate 8 0
  /-- tick from which a requested foreground run may start, and tick at which the running one began (R195) -/
  pend  : Option Nat := none
  run   : Option Nat := none
  /-- ambiguity requests: position in the coat, row, tick for which it is valid (R205) -/
  ambig : List (Nat × Nat × Nat) := []
  dst   : List CapReq := []
  /-- the host request outstanding and the measurements it still asks for (R204) -/
  host  : Option (CapReq × Nat) := none
  plan  : List PlanEnt := []
  /-- the tick whose plan has been made -/
  planned : Option Nat := none
  /-- sums of each lane's slices over the coat in progress, by lane times 8 plus slice (R198) -/
  sums  : List (Nat × SliceSum) := []
  /-- lanes powered up, the channel that each lane's multiplexer stands on, and the end of each lane's last capture in input
  samples since the tick generator started (R200, R201) -/
  power : Nat := 0
  mux   : Vector Nat 8 := Vector.replicate 8 0
  ended : Vector Nat 8 := Vector.replicate 8 0
  /-- analog samples of the held lane in the tick in progress and in the one before; input samples since its decimation counter
  stood at phase 0; and its first input sample after the last change that reaches it, since the tick generator started (R211,
  R214, R215) -/
  held     : List Sample := []
  heldPrev : List Sample := []
  heldCnt  : Nat := 0
  heldFrom : Nat := 0
  deriving DecidableEq, Repr

/-- The sources of flash operations, one request each (R432). -/
inductive FlashSrc where
  | ctl | cal | saf | mem | band | log
  deriving DecidableEq, Repr

/-- A flash operation requested (R428, R432): the area of `flashBase` and the bytes to be written; for a record its
header fields above the CRC, from byte 0x14 on, and its body. -/
structure FlashOp where
  src  : FlashSrc
  area : Nat
  ext  : List Byte := []
  body : List Byte
  deriving DecidableEq, Repr

/-- What the boot ROM and the flash interface hold beside their registers. -/
structure BootSt where
  /-- flash operations, the running one first (R432) -/
  ops  : List FlashOp := []
  /-- the measurement log: entries of 64 bytes (R353, R433) -/
  log  : List (List Byte) := []
  /-- AON fields of the configuration header: firmware B chosen, domain ID, speed limit (R430) -/
  fwSel : Nat := 0
  speed : Nat := 0
  /-- band codes in AON, by synthesiser times 16 plus slot (R435) -/
  bands : List (Nat × Nat) := []
  bandWritten : Bool := false
  /-- output values held in the second buffer of CLK, by field key (R436) -/
  held  : List (Nat × Nat) := []
  /-- the tick boundary of a CLK update (R436) -/
  clkAt : Option Nat := none
  /-- ticks of the last lockstep mismatches, newest first (R443) -/
  mism  : List Nat := []
  /-- words written to MT_PORT since the last certificate (R445) -/
  cert  : List Nat := []
  /-- for each output of SYNC_EN the tick boundary at which its divider last restarted (R437) -/
  divStart : List (Nat × Nat) := []
  /-- the tick in which the last POR or WARM was released (R424) -/
  upAt : Nat := 0
  /-- the first measurement frame has begun (R424) -/
  measured : Bool := false
  /-- the memory training runs (R230) -/
  train : Bool := false
  /-- channels whose FULL_TRAIN was 1 when the reset came, and whether a channel has failed since the last frame boundary
  (R230, R236) -/
  full : Nat := 0
  memFail : Bool := false
  deriving DecidableEq, Repr

/-- A field image as the islands hold it (R280): its first 256 bytes, the bytes that stood at its tables' offsets, and
the byte of an offset that is not listed. -/
structure FieldImg where
  hdr   : List Byte := []
  other : Byte := 0
  cells : List Host.Cell := []
  deriving DecidableEq, Repr

/-- What an island has found of the 128 rows of one cell column in a coat, as masks of rows: those it has evaluated, and of them
those that detect in the protective and in the warning field and in the outer test, and the unmonitored ones (R284 to R286). For
island B, the rows whose bit of R285 it has replaced in the coat, and those bits as they stood before. -/
structure ColEval where
  seen  : Nat := 0
  pf    : Nat := 0
  wf    : Nat := 0
  out   : Nat := 0
  unmon : Nat := 0
  had   : Nat := 0
  prior : Nat := 0
  deriving DecidableEq, Repr

/-- What the islands have gathered of one coat. -/
structure CoatEval where
  /-- set in force in the coat, none where none was -/
  set   : Option Nat := none
  /-- emptied by throttle step 3 (R287) -/
  empty : Bool := false
  /-- the findings of island A and of island B, by head times 1,024 plus column -/
  a : List (Nat × ColEval) := []
  b : List (Nat × ColEval) := []
  /-- heads of which a band counts for island A, and for island B, because its scrub found a parity error (R282) -/
  scrubA : Nat := 0
  scrubB : Nat := 0
  deriving DecidableEq, Repr

/-- The state of one field for one island (R287): consecutive detecting and clear coats, and whether it is set. -/
structure FieldSt where
  det : Nat := 0
  clr : Nat := 0
  on  : Bool := true
  deriving DecidableEq, Repr

/-- One safety input (R290 to R292): samples that differ from the filtered state of A and of B, samples of disagreement,
whether the cause of a DISC fault stands, and ticks for which the evaluated state has been 1. -/
structure SafIn where
  cntA : Nat := 0
  cntB : Nat := 0
  disc : Nat := 0
  cause : Bool := false
  ones : Nat := 0
  deriving DecidableEq, Repr

/-- One safety connection (R306). -/
structure ConnSt where
  /-- last accepted SEQ; none before the first in SYNC -/
  last : Option Nat := none
  /-- telegrams in sequence since the first -/
  got  : Nat := 0
  accAt : Nat := 0
  /-- CMD and SET of the last accepted command -/
  cmd  : Nat := 0
  set  : Nat := 0
  /-- next SEQ sent, and the tick of the last sending -/
  txSeq : Nat := 0
  txAt : Option Nat := none
  /-- OUT and SET last sent -/
  sent : Nat := 0
  /-- its FAULT reaction stands: latched with REACT 0 or 1 -/
  stop : Bool := false
  warn : Bool := false
  deriving DecidableEq, Repr

/-- What the safety islands hold beside their registers. -/
structure SafSt where
  img  : Option FieldImg := none
  /-- the confirmed SCID, and the configuration that it stands for: the words of the RWL registers of SAF, and the field
  image (R297) -/
  confirmed : Option Nat := none
  confWords : List Byte := []
  confImg   : Option FieldImg := none
  cur  : CoatEval := {}
  prev : CoatEval := {}
  /-- the coat before has been concluded -/
  concluded : Bool := true
  /-- island A protective and warning, island B protective and warning -/
  fs   : Vector FieldSt 4 := Vector.replicate 4 {}
  /-- rows of each cell column whose last measurement held a counting peak in the protective field, by head times 1,024
  plus column (R285) -/
  peaks : List (Nat × Nat) := []
  /-- set index read at the strobes of the coat in progress and of the coat before: none before the first strobe, and
  within it none where the strobes did not agree (R283) -/
  idx  : Option (Option Nat) := none
  idxPrev : Option (Option Nat) := none
  missed : Nat := 0
  set  : Option Nat := none
  selBad : Bool := true
  div  : Nat := 0
  ins  : Vector SafIn 4 := Vector.replicate 4 {}
  /-- heads that detected in the warning field of either island in the last coat (R304) -/
  wfHeads : Nat := 0
  /-- pairs of which a cause stood at the last update, pairs that wait for a restart event, and pairs whose channel A, whose channel
  B is on; bit 0 for OSSD1 (R293) -/
  cause : Nat := 3
  wait : Nat := 3
  chA  : Nat := 0
  chB  : Nat := 0
  /-- ticks of the last wrong readback of each pair, and the tick since which both emitter readbacks read low -/
  ossdBad : Vector Nat 2 := Vector.replicate 2 0
  rbLow : Option Nat := some 0
  /-- the emitter enables have passed their check since REQ was set (R295) -/
  emitOk : Bool := false
  /-- CONFIG has been asked for (R297) -/
  toConfig : Bool := false
  conns : Vector ConnSt 16 := Vector.replicate 16 {}
  /-- status telegrams of each connection waiting for the mailbox, oldest first (R338) -/
  doeQ : List (Nat × List Byte) := []
  deriving DecidableEq, Repr


/-- The last valid message of the partner (R318). -/
structure PartnerMsg where
  role   : Nat
  flags  : Nat
  frame  : Nat
  fhDone : Nat
  keyCheck : Nat
  imgSeq : Nat
  cfgSeq : Nat
  verdict : Nat
  deriving DecidableEq, Repr

/-- The retention store (R319): the committed configuration as fields that differ from their reset values, the tables,
the palette entries, the header of the image in force and its partitions, the partitions loaded with their headers, and the
firmware that runs (0 A, 1 B). -/
structure RetStore where
  regs  : List (Nat × Nat) := []
  tabs  : Tabs := {}
  hdr   : List Byte := []
  parts : List (Nat × List Byte) := []
  pal   : List (Nat × Nat) := []
  loaded : List (Nat × List Byte × List Byte) := []
  fw    : Nat := 0
  deriving DecidableEq, Repr

/-- What the twin monitor holds beside its registers. -/
structure TwnSt where
  /-- tick of the last valid message and of the last ALIVE edge (R317, R318) -/
  msgAt   : Option Nat := none
  aliveAt : Option Nat := none
  msg     : Option PartnerMsg := none
  /-- levels of the `ALIVE_Hh` outputs (R317) -/
  alive   : Nat := 0
  /-- tick at which beats and ALIVE stopped (R323, R329), and a relinquish that waits for its coat boundary -/
  quietAt : Option Nat := none
  stopDue : Option Nat := none
  ret     : RetStore := {}
  /-- CFG_SEQ sent or received last (R319) -/
  cfgSeq  : Nat := 0
  /-- a RELINQUISH has arrived (R322); the instant D of the takeover under way, in ns since the tick
  generator started (R324) -/
  relinq  : Bool := false
  takeAt  : Option Nat := none
  /-- the role has been chosen since POR, and the tick since which the device has been ready (R315) -/
  chosen  : Bool := false
  readyAt : Option Nat := none
  /-- this device left HOLD by a role swap; the partner was seen in standby before its SHADOW (R332) -/
  swap    : Bool := false
  partnerSwap : Bool := false
  /-- the handover granted: TICK_H as a tick number, codes and integrator states (R331); the tokens have been released -/
  grant   : Option (Nat × List Nat × List Int) := none
  released : Bool := false
  /-- the frame boundary up to which records carry TWIN, and a header of the old Topcoat's frame still due (R328) -/
  twinUntil : Option Nat := none
  lateHeader : Bool := false
  /-- the frame in progress is unclean (R330) -/
  unclean : Bool := false
  /-- header of the checkpoint in progress, its frame, checkpoints written since boot, last complete one (R320) -/
  ckptHdr : List Byte := []
  ckptFrame : Nat := 0
  ckptCnt : Nat := 0
  ckptOk  : Bool := false
  /-- last frame whose frame-header record has been written (R318) -/
  fhDone  : Nat := 0
  deriving DecidableEq, Repr
/-- What a Gosia port holds beside its registers (R360 to R369). -/
structure PortSt where
  /-- next LSEQ to send, and the LSEQ expected next (R364) -/
  txSeq : Nat := 0
  rxSeq : Nat := 0
  /-- the last 128 parcels sent, oldest first, each with its LSEQ, and how many of the newest are not acknowledged -/
  buf : List (Nat × List Byte) := []
  unacked : Nat := 0
  /-- a NAK has arrived that no replay has answered yet -/
  nak : Bool := false
  /-- the parcel last replayed from, and its consecutive replays -/
  replayOf : Option Nat := none
  replays : Nat := 0
  /-- the port must train, the widest set it may use, and ticks of the failed trainings of the last 10 ms -/
  want : Bool := false
  maxWidth : Nat := 4
  fails : List Nat := []
  /-- tick since which the port is down (R364) -/
  downAt : Option Nat := none
  /-- ASYM of lane 0 as the last training took it, in ps (R367) -/
  asym : Int := 0
  /-- the equalisation entries that the lanes took at the last training (R367) -/
  eq : Vector (List Byte) 4 := Vector.replicate 4 []
  /-- arrival and departure of the last SYNC received, in 1/64 LSB (R376) -/
  sync : Option (Nat × Nat) := none
  /-- height and width of the last scan of each lane (R368) -/
  eyes : Vector (Option (Nat × Nat)) 4 := Vector.replicate 4 none
  deriving DecidableEq, Repr

/-- What the device knows of another device of the domain from its beacons (R372). -/
structure DevSt where
  id   : Nat
  /-- tick of the last beacon, and its FRAME and TICK, by which copies are recognised (R365) -/
  seen : Nat
  key  : Nat
  /-- HOPS remaining of its beacons by port, with the tick of the last one there -/
  hops : List (Nat × Nat × Nat)
  isMaster : Bool
  /-- the master it follows -/
  master : Option Nat
  epoch : Nat
  /-- its beacons announce a change: a head mask that differs, or bump (R384) -/
  change : Bool
  deriving DecidableEq, Repr

/-- What the fabric holds beside its registers. -/
structure GslSt where
  ports : Vector PortSt 4 := Vector.replicate 4 {}
  /-- the other devices, by rising ID -/
  devs  : List DevSt := []
  /-- triggers seen, as source and SEQ, newest first (R365) -/
  trigs : List (Nat × Nat) := []
  trigSeq : Nat := 0
  /-- tick up to which own beacons carry bump (R384) -/
  bumpUntil : Nat := 0
  /-- own beacons announced a change in the tick before -/
  ownChange : Bool := false
  /-- a change learned too late for the epoch announced (R384) -/
  change : Bool := false
  deriving DecidableEq, Repr

/-- A trigger of the bus: line, source device, its SEQ, T_SRC, its epoch, and whether it is LATE or UNTRUSTED (R382, R383). -/
structure BusTrig where
  line  : Nat
  src   : Nat
  seq   : Nat
  tsrc  : Nat
  epoch : Nat
  late  : Bool
  untrusted : Bool
  deriving DecidableEq, Repr

/-- A trigger decided: its source, its position in lane input samples since the tick generator started, the cell it names
(head, row, column), and what came with it from the bus (R396). -/
structure Trig where
  src  : Nat
  pos  : Nat
  cell : Option (Nat × Nat × Nat) := none
  bus  : Option BusTrig := none
  deriving DecidableEq, Repr

/-- A capture record in a ring: first byte and bytes as `WR[s]` counts them, first item and items, and the instants of its
items in tenths of a lane input sample: listed, or evenly spaced from the first (R391, R398). -/
structure CapRec where
  off   : Nat
  len   : Nat
  first : Nat
  items : Nat
  inst  : Nat := 0
  step  : Nat := 0
  list  : List Nat := []
  decim : Nat := 0
  deriving DecidableEq, Repr

/-- What an open record holds of one stream (R398, R403): the trigger item, the capture record it lies in, the post items,
how it has ended, and its entry. -/
structure OpenStream where
  pre  : Nat
  post : Nat
  trig : Option (Nat × Nat) := none
  ended : Bool := false
  /-- bytes of START and END, TRIG_OFS in bytes, FLAGS of R403, the largest factor code, and the instant of the last item -/
  startB : Nat := 0
  endB   : Nat := 0
  ofs    : Nat := 0
  flags  : Nat := 1
  decim  : Nat := 0
  lastAt : Nat := 0
  deriving DecidableEq, Repr

/-- An open record: what was taken, its position's domain time, tick of the frame, frame and epoch, its streams, and whether a disarm
ended it (R397 to R399, R403). -/
structure OpenRec where
  trig   : Trig
  time   : Nat
  tick   : Nat
  frame  : Nat
  epoch  : Nat
  coinc  : Nat
  missed : Nat := 0
  single : Bool
  streams : Vector (Option OpenStream) 4
  buses  : List Trig := []
  halted : Bool := false
  deriving DecidableEq, Repr

/-- What a stream holds (R393, R394): bytes and items written since the ring took hold, the records still in the ring,
oldest first, bytes stored in the tick in progress, and the sizes of the records of the tick in progress and of the one
before, by what their decimation counts. -/
structure StreamSt where
  wr    : Nat := 0
  items : Nat := 0
  recs  : List CapRec := []
  used  : Nat := 0
  sizes : List (Nat × Nat) := []
  sizesPrev : List (Nat × Nat) := []
  stopped : Bool := false
  deriving DecidableEq, Repr

/-- What Dust Sheet holds beside its registers. -/
structure DstSt where
  streams : Vector StreamSt 4 := Vector.replicate 4 {}
  /-- triggers decided in the tick in progress -/
  decided : List Trig := []
  opn  : Option OpenRec := none
  /-- the end of the last record, the position after which triggers are eligible again, and events of the hold-off still to pass
  (R397, R399) -/
  last : Nat := 0
  after : Nat := 0
  events : Nat := 0
  /-- the tick boundary of an ARM.GO (R405) -/
  armAt : Option Nat := none
  /-- what each path's last read of WR_LO captured of WR_HI, by stream (R405) -/
  wrCap : List (Nat × Nat) := []
  /-- OSSD pairs that were on, and the dirt alarms, at the last tick end (R396) -/
  ossd : Nat := 0
  dirt : Nat := 0
  /-- a takeover or handover has been completed (R396) -/
  took : Bool := false
  deriving DecidableEq, Repr

/-- What Render holds beside its registers (R407 to R419). -/
structure RndSt where
  /-- palette entries that have been written: index, plus 256 for the overlay palette -/
  pal  : List (Nat × Nat) := []
  /-- the coat buffer shown of each head that has an image, and the source counters of the refresh shown, latched (R412,
  R418) -/
  coats : List (Nat × Nat) := []
  imgSeq : Nat := 0
  ovSeq  : Nat := 0
  /-- signatures of the refresh that has just been shown, with their source counters; those of the refresh before; counts -/
  sigs : List (Fin 9 × Nat × Nat) := []
  prev : List (Fin 9 × Nat × Nat) := []
  counts : List (Nat × Nat) := []
  /-- tick of the last completed refresh since EN was set (R418) -/
  lastEnd : Option Nat := none
  /-- the bits that the fetches of the refresh read other than written: 0 to 7 a window, 8 the overlay, 9 the headers (R231) -/
  flips : List (Nat × Flip) := []
  /-- the tiles that display lines of the refresh lacked: line, plane, tile row, tile column (R416) -/
  late : List (Nat × Nat × Nat × Nat) := []
  /-- tick of the last failed training, and a command of AUX that waits for a training to end (R408) -/
  failAt : Option Nat := none
  auxWait : Bool := false
  /-- genlock: the instant of the last accepted edge in ns, whether it pulls the clock, consecutive good refreshes and
  rejected edges (R410) -/
  glEdge : Option Nat := none
  glRun  : Bool := false
  glGood : Nat := 0
  glBad  : Nat := 0
  deriving DecidableEq, Repr


/-- A committed HDM decoder: host base, size, and device physical base (R339). -/
structure Dec where
  hpa  : Nat
  size : Nat
  dpa  : Nat
  deriving DecidableEq, Repr

/-- What the device holds of one read index (R346): its full count, the last value sampled, and the tick at which the
ring it belongs to took hold. -/
structure RdIdx where
  full : Nat := 0
  raw  : Nat := 0
  start : Nat := 0
  deriving DecidableEq, Repr

/-- The command entry in progress (R350): its bytes, and whether it has ended. -/
structure CmdEnt where
  bytes : List Byte
  ended : Bool := false
  deriving DecidableEq, Repr

/-- The SPDM responder (R352): how far the connection has come (0 nothing, 1 version, 2 capabilities, 3 algorithms), its
sessions with whether each is established, the next session number, the value of index 6, whether a swap has made it
stale, and the requests that wait for it (R353). -/
structure SpdmSt where
  stage : Nat := 0
  sessions : List (Nat × Bool) := []
  next  : Nat := 0
  mr6   : List Byte := []
  stale : Bool := false
  held  : List (Nat × Bool) := []
  /-- IDE streams with keys programmed: bit 0 CXL.io, bit 1 CXL.cachemem -/
  ide   : Nat := 0
  deriving DecidableEq, Repr

/-- What the host attachment holds beside its registers. -/
structure HostSt where
  /-- records waiting for the event ring, oldest first (R347) -/
  evq : List EventRec := []
  evSeq : Nat := 0
  /-- the MSI-X table: word offset and value, words at their reset value left out (R351) -/
  msix : List (Nat × Nat) := []
  /-- pending-bit array -/
  pba : Nat := 0
  /-- page routings that are not the default: page slot and vector (R351) -/
  route : List (Nat × Nat) := []
  /-- for vectors 0 to 10 the tick of the last message, and the vectors held back by MOD -/
  vecLast : List (Nat × Nat) := []
  vecHeld : Nat := 0
  /-- HDM decoders 0 and 1, the BI decoder's enable, lines of which the host holds a copy, least recently granted first,
  and lines whose back-invalidation is not answered yet (R339, R340) -/
  decs : Vector (Option Dec) 2 := Vector.replicate 2 none
  biEn : Bool := false
  tracked : List Nat := []
  biOut : List Nat := []
  /-- host bursts of each channel in the frame in progress (R235) -/
  bursts : Vector Nat 4 := Vector.replicate 4 0
  /-- read indices of the point rings, the frame-header ring and the event ring (R346), and the values that writes in the
  last microsecond of the tick have replaced -/
  rds  : Vector RdIdx 10 := Vector.replicate 10 {}
  late : List (Nat × Nat) := []
  /-- shown counts of the point and frame-header rings at the last tick end (R346) -/
  shown : Vector Nat 9 := Vector.replicate 9 0
  cmd  : Option CmdEnt := none
  /-- tick of the last writes to the event ring, and their number (R347) -/
  evTick : Nat := 0
  evCnt  : Nat := 0
  /-- mirror writes since EN was set, and the indices last written (R343) -/
  mirSeq : Nat := 0
  mirLast : Option (List Nat) := none
  spdm : SpdmSt := {}
  /-- the BAR0 offset of SMBus reads (R463) -/
  smbus : Nat := 0
  deriving DecidableEq, Repr
/-- The state of the device. -/
structure State where
  /-- the commands that wait, first in, first out -/
  pending : List Instr := []
  /-- every power domain but PD00 is off after a thermal shutdown (R257) -/
  dark : Bool := false
  /-- live register fields whose value is not their reset value: key and value, keys rising -/
  regs : List (Nat × Nat) := []
  /-- staged values of shadowed fields that differ from the live value when staged (R453) -/
  shadow : List (Nat × Nat) := []
  /-- registers whose shadow has a parity error, by BAR0 offset (R460) -/
  shadowBad : List Nat := []
  commits : List PendCommit := []
  resets : List PendReset := []
  /-- ticks since the tick generator started -/
  now : Nat := 0
  /-- the ticks at which the last coat and frame boundary were worked -/
  coatAt : Option Nat := none
  frameAt : Option Nat := none
  /-- device memory: bytes that are not 0 (log entry 4), addresses rising -/
  mem : List Host.Cell := []
  /-- configuration flash: bytes that are not 0xFF, addresses rising -/
  flash : List Host.Cell := []
  /-- how many free values the device has drawn (the model's own field, log entry 5) -/
  free : Nat := 0
  out : List Out := []
  /-- event records waiting to be written to the flash event log (R433) -/
  flq : List EventRec := []
  scd : ScdSt := {}
  emt : Vector EmtSt 8 := Vector.replicate 8 {}
  /-- codes drawn: head, measurement tick, window, and entry with offsets, none after a failed draw (R122, R124) -/
  codes : List (Nat × Nat × Nat × Option (Nat × List Nat)) := []
  /-- the column measurements of the ticks in flight, oldest first -/
  wins : List Win := []
  /-- saturated pulses: head, row, time of TE fall in LSB since the tick generator started, long recovery (R94) -/
  satHist : List (Nat × Nat × Nat × Bool) := []
  /-- excursions still open at the end of a window: head, row, number of the window that they enter, what is left of them, and
  whether the open pulse had saturated and whether it recovers long (R94, R101) -/
  carry : List (Nat × Fin 128 × Nat × Excursion × Bool × Bool) := []
  /-- edge buffers that hold words: head and row as one number, words, time of the next drain in LSB (R100) -/
  fifo : List (Nat × Nat × Nat) := []
  tdc : TdcSt := {}
  /-- the tables in force, the ones in force before, and the tick at which the present ones took hold (R149) -/
  tabs : Tabs := {}
  tabsOld : Tabs := {}
  tabsAt : Nat := 0
  /-- staged table entries: page, table, key, value (R169) -/
  stage : List (Page × TabId × Nat × Int) := []
  msk : Vector MskSt 8 := Vector.replicate 8 {}
  lth : LthSt := {}
  /-- parity and tag errors of each memory channel in the coat in progress (R236) -/
  memErrs : Vector Nat 4 := Vector.replicate 4 0
  stp : StpSt := {}
  hkp : HkpSt := {}
  cal : CalSt := {}
  ptb : PtbSt := {}
  wfl : Vector WflSt 8 := Vector.replicate 8 {}
  tim : TimSt := {}
  saf : SafSt := {}
  boot : BootSt := {}
  host : HostSt := {}
  twn : TwnSt := {}
  gsl : GslSt := {}
  dst : DstSt := {}
  rnd : RndSt := {}
  deriving DecidableEq, Repr

/-- The machine right after reset: the state at the release of POR (R422, R444), every field at its reset value. -/
def State.reset : State := {}

/-- No command stops with a fault: every effect the spec gives is a next state (log entry 6). -/
inductive Fault where
  deriving DecidableEq, Repr

/-- Why a command has no meaning here. -/
inductive Refusal where
  /-- the command is not modelled yet; raised by its arm of `exec` alone; safe -/
  | notModelled (mnemonic : String)
  deriving DecidableEq, Repr

end Sys2Proof.Machine
end

