-- ==== Sys2Proof/Machine/RegMap.lean ====
section
/-! DEFINITION. The register map: the pages of R461 with their offsets, and every field of every field table of the spec under its own name, with its place, width, reset value, access code, boundary and the resets it is kept over. The names are REGISTER_FIELD inside a namespace named after the page. -/

namespace Sys2Proof

/-- BAR0 offset of a page (R461). -/
def Page.base : Page → Nat
  | .cap => 0x0 | .ctl => 0x10000 | .scd => 0x20000 | .clk => 0x30000 | .pwr => 0x40000
  | .hkp => 0x50000 | .thm => 0x51000 | .saf => 0x60000 | .twn => 0x70000
  | .emt h => 0x80000 + 0x1000 * h.val | .rfe h => 0x90000 + 0x1000 * h.val
  | .tdc h => 0xA0000 + 0x1000 * h.val | .wfl h => 0xB0000 + 0x1000 * h.val
  | .stp => 0xC0000 | .scm => 0xC1000 | .skm => 0xC2000 | .flt => 0xC3000 | .msk => 0xC4000
  | .ptb => 0xC5000 | .lth => 0xD0000 | .mem c => 0xE0000 + 0x1000 * c.val
  | .cxl0 => 0xF0000 | .cxl1 => 0xF1000 | .gsl => 0x100000 | .tim => 0x110000 | .dst => 0x120000
  | .rnd => 0x130000 | .sec => 0x140000 | .cal => 0x150000

/-- Block code of a page, `PAGE_ID` [31:24] (R461). -/
def Page.blockCode : Page → Nat
  | .cap => 0x00 | .ctl => 0x01 | .scd => 0x02 | .clk => 0x03 | .pwr => 0x04 | .hkp => 0x05
  | .thm => 0x16 | .saf => 0x06 | .twn => 0x07 | .emt _ => 0x08 | .rfe _ => 0x09 | .tdc _ => 0x0A
  | .wfl _ => 0x0B | .stp => 0x0C | .scm => 0x17 | .skm => 0x18 | .flt => 0x19 | .msk => 0x1A
  | .ptb => 0x1B | .lth => 0x0D | .mem _ => 0x0E | .cxl0 => 0x0F | .cxl1 => 0x0F | .gsl => 0x10
  | .tim => 0x11 | .dst => 0x12 | .rnd => 0x13 | .sec => 0x14 | .cal => 0x15

/-- `PAGE_ID.TYPE` of a page (R458, R461). -/
def Page.type : Page → Nat
  | .emt _ | .rfe _ | .tdc _ => 1
  | .wfl _ => 2
  | .mem _ => 3
  | .cxl1 => 4
  | _ => 0

/-- `PAGE_ID.INST` of a page (R461). -/
def Page.instNo : Page → Nat
  | .emt h | .rfe h | .tdc h | .wfl h => h.val
  | .mem c => c.val
  | .cxl1 => 1
  | _ => 0

/-- The commit key of a page (R459). -/
def Page.commitKey (p : Page) : Nat := p.blockCode * 0x1000000 + p.instNo * 0x10000 + 0xC0DE

/-- The pages in ascending BAR0 offset, the order of the page list (R461). -/
def Page.all : List Page :=
  [.cap, .ctl, .scd, .clk, .pwr, .hkp, .thm, .saf, .twn] ++
  (List.finRange 8).map Page.emt ++ (List.finRange 8).map Page.rfe ++
  (List.finRange 8).map Page.tdc ++ (List.finRange 8).map Page.wfl ++
  [.stp, .scm, .skm, .flt, .msk, .ptb, .lth] ++ (List.finRange 4).map Page.mem ++
  [.cxl0, .cxl1, .gsl, .tim, .dst, .rnd, .sec, .cal]

/-- The offset of the page that follows in a list of pages, 0 at its end (R461). -/
def Page.nextIn (p : Page) : List Page → Nat
  | [] => 0
  | [_] => 0
  | a :: b :: t => if a = p then b.base else Page.nextIn p (b :: t)

/-- `NEXT_CAP.OFS` of a page outside HOLD (R461). -/
def Page.nextCap (p : Page) : Nat := p.nextIn Page.all

/-- The page whose 4 KiB slot holds a BAR0 offset, none where the slot holds no page (R452). -/
def Page.ofOffset (off : Nat) : Option Page :=
  Page.all.find? fun p => p.base == off / 4096 * 4096

end Sys2Proof

namespace Sys2Proof.Machine

/-- Reset values of the rain-and-loss table RL (R137). -/
def SKM.rlReset (n : Nat) : Nat := [1, 5, 95, 448, 1247, 2668, 4954, 8660].getD n 0

/-- Reset value of a clock output's divider: the VCO frequency over the output's frequency (R434). -/
def CLK.divReset (o : Nat) : Nat :=
  [4, 4, 4, 4, 4, 4, 4, 4,
   1, 1, 1, 1, 1, 1, 1, 1,
   4, 4, 4, 10, 2, 5, 8, 1,
   4, 4, 4, 4, 32, 32, 32, 32,
   50, 32, 20, 50, 200, 64, 20, 25,
   1, 1, 1, 1, 1, 1, 1, 1].getD o 1

/-- Reset value of a clock output's enable: every output that R434 gives a use. -/
def CLK.enReset (o : Nat) : Nat := if o = 23 ∨ (40 ≤ o ∧ o ≤ 46) then 0 else 1


namespace SCD

/-- `IMG_ADDR_LO.ADDR` (R56). -/
abbrev IMG_ADDR_LO_ADDR : Fld := ⟨0x20040 * 32 + 6, 26, 0, .rw, .imm, 3⟩
/-- `IMG_ADDR_HI.ADDR` (R56). -/
abbrev IMG_ADDR_HI_ADDR : Fld := ⟨0x20044 * 32 + 0, 8, 0, .rw, .imm, 3⟩
/-- `IMG_LEN.LEN` (R56). -/
abbrev IMG_LEN_LEN : Fld := ⟨0x20048 * 32 + 0, 21, 0, .rw, .imm, 3⟩
/-- `LOAD.PART_MASK` (R56). -/
abbrev LOAD_PART_MASK : Fld := ⟨0x2004C * 32 + 0, 9, 0, .wo, .imm, 0⟩
/-- `LOAD.FLASH` (R56). -/
abbrev LOAD_FLASH : Fld := ⟨0x2004C * 32 + 16, 1, 0, .wo, .imm, 0⟩
/-- `LOAD.GO` (R56). -/
abbrev LOAD_GO : Fld := ⟨0x2004C * 32 + 31, 1, 0, .wo, .imm, 0⟩
/-- `LOAD_STAT.BUSY` (R56). -/
abbrev LOAD_STAT_BUSY : Fld := ⟨0x20050 * 32 + 0, 1, 0, .ro, .none, 3⟩
/-- `LOAD_STAT.CODE` (R56). -/
abbrev LOAD_STAT_CODE : Fld := ⟨0x20050 * 32 + 8, 8, 0, .ro, .none, 3⟩
/-- `LOAD_STAT.LOADED` (R56). -/
abbrev LOAD_STAT_LOADED : Fld := ⟨0x20050 * 32 + 16, 9, 0, .ro, .none, 3⟩
/-- `SWAP.PART_MASK` (R56). -/
abbrev SWAP_PART_MASK : Fld := ⟨0x20054 * 32 + 0, 9, 0, .rws, .coat, 3⟩
/-- `ACTIVE.SLOT` (R56). -/
abbrev ACTIVE_SLOT : Fld := ⟨0x20058 * 32 + 0, 9, 0, .ro, .none, 7⟩
/-- `ACTIVE.PRESENT` (R56). -/
abbrev ACTIVE_PRESENT : Fld := ⟨0x20058 * 32 + 9, 9, 0, .ro, .none, 7⟩
/-- `ACTIVE.HEAD_MASK` (R56). -/
abbrev ACTIVE_HEAD_MASK : Fld := ⟨0x20058 * 32 + 18, 8, 0, .ro, .none, 7⟩
/-- `RUN_INFO.CONTRACT` (R56). -/
abbrev RUN_INFO_CONTRACT : Fld := ⟨0x2005C * 32 + 0, 4, 0, .ro, .none, 7⟩
/-- `RUN_INFO.INTERLEAVE` (R56). -/
abbrev RUN_INFO_INTERLEAVE : Fld := ⟨0x2005C * 32 + 4, 1, 0, .ro, .none, 7⟩
/-- `RUN_INFO.CAL_SHARE` (R56). -/
abbrev RUN_INFO_CAL_SHARE : Fld := ⟨0x2005C * 32 + 8, 8, 0, .ro, .none, 7⟩
/-- `RUN_INFO.VARIANT` (R56). -/
abbrev RUN_INFO_VARIANT : Fld := ⟨0x2005C * 32 + 16, 1, 0, .ro, .none, 7⟩
/-- `TICK_POS.TICK` (R56). -/
abbrev TICK_POS_TICK : Fld := ⟨0x20060 * 32 + 0, 9, 0, .ro, .none, 7⟩
/-- `TICK_POS.FRAME` (R56). -/
abbrev TICK_POS_FRAME : Fld := ⟨0x20060 * 32 + 9, 15, 0, .ro, .none, 7⟩
/-- `LEASE.RENEW` (R56). -/
abbrev LEASE_RENEW : Fld := ⟨0x20064 * 32 + 0, 1, 0, .wo, .imm, 0⟩
/-- `LEASE.AGE` (R56). -/
abbrev LEASE_AGE : Fld := ⟨0x20064 * 32 + 8, 7, 0, .ro, .none, 7⟩
/-- `LEASE.EXPIRED` (R56). -/
abbrev LEASE_EXPIRED : Fld := ⟨0x20064 * 32 + 16, 1, 0, .ro, .none, 7⟩
/-- `LEASE.RESUME` (R56). -/
abbrev LEASE_RESUME : Fld := ⟨0x20064 * 32 + 24, 1, 0, .wo, .imm, 0⟩
/-- `OVERRUN.COUNT` (R56). -/
abbrev OVERRUN_COUNT : Fld := ⟨0x20068 * 32 + 0, 16, 0, .ro, .none, 3⟩
/-- `OVERRUN.ENGINE` (R56). -/
abbrev OVERRUN_ENGINE : Fld := ⟨0x20068 * 32 + 16, 4, 0, .ro, .none, 3⟩
/-- `OVERRUN.TICK` (R56). -/
abbrev OVERRUN_TICK : Fld := ⟨0x20068 * 32 + 20, 9, 0, .ro, .none, 3⟩
/-- `OVERRUN.NEW` (R56). -/
abbrev OVERRUN_NEW : Fld := ⟨0x20068 * 32 + 31, 1, 0, .w1c, .imm, 3⟩
/-- `REPLAY_STAT.REPLAYED` (R56). -/
abbrev REPLAY_STAT_REPLAYED : Fld := ⟨0x2006C * 32 + 0, 16, 0, .ro, .none, 3⟩
/-- `REPLAY_STAT.DROPPED` (R56). -/
abbrev REPLAY_STAT_DROPPED : Fld := ⟨0x2006C * 32 + 16, 16, 0, .ro, .none, 3⟩
/-- `RUN_SEQ.IMG_SEQ` (R56). -/
abbrev RUN_SEQ_IMG_SEQ : Fld := ⟨0x20070 * 32 + 0, 32, 0, .ro, .none, 7⟩
/-- `LANE_MAP[g].FAULTY` (R56). -/
abbrev LANE_MAP_FAULTY (g : Nat) : Fld := ⟨(0x20000 + 0x80 + 0x4 * g) * 32 + 0, 5, 0, .rws, .coat, 7⟩
/-- `LANE_MAP[g].REMAPPED` (R56). -/
abbrev LANE_MAP_REMAPPED (g : Nat) : Fld := ⟨(0x20000 + 0x80 + 0x4 * g) * 32 + 5, 1, 0, .rws, .coat, 7⟩
/-- `LANE_MAP[g].PENDING` (R56). -/
abbrev LANE_MAP_PENDING (g : Nat) : Fld := ⟨(0x20000 + 0x80 + 0x4 * g) * 32 + 6, 1, 0, .ro, .none, 7⟩
/-- `LANE_MAP[g].EXHAUSTED` (R56). -/
abbrev LANE_MAP_EXHAUSTED (g : Nat) : Fld := ⟨(0x20000 + 0x80 + 0x4 * g) * 32 + 7, 1, 0, .ro, .none, 7⟩
/-- `LANE_MAP[g].SECOND` (R56). -/
abbrev LANE_MAP_SECOND (g : Nat) : Fld := ⟨(0x20000 + 0x80 + 0x4 * g) * 32 + 8, 5, 0, .ro, .none, 7⟩

/-- Every field of the page that R56 tables. -/
def fields : List Fld :=
  [IMG_ADDR_LO_ADDR, IMG_ADDR_HI_ADDR, IMG_LEN_LEN, LOAD_PART_MASK, LOAD_FLASH, LOAD_GO, LOAD_STAT_BUSY, LOAD_STAT_CODE, LOAD_STAT_LOADED, SWAP_PART_MASK, ACTIVE_SLOT, ACTIVE_PRESENT, ACTIVE_HEAD_MASK, RUN_INFO_CONTRACT, RUN_INFO_INTERLEAVE, RUN_INFO_CAL_SHARE, RUN_INFO_VARIANT, TICK_POS_TICK, TICK_POS_FRAME, LEASE_RENEW, LEASE_AGE, LEASE_EXPIRED, LEASE_RESUME, OVERRUN_COUNT, OVERRUN_ENGINE, OVERRUN_TICK, OVERRUN_NEW, REPLAY_STAT_REPLAYED, REPLAY_STAT_DROPPED, RUN_SEQ_IMG_SEQ] ++
  ((List.range 15).flatMap fun g => [LANE_MAP_FAULTY g]) ++
  ((List.range 15).flatMap fun g => [LANE_MAP_REMAPPED g]) ++
  ((List.range 15).flatMap fun g => [LANE_MAP_PENDING g]) ++
  ((List.range 15).flatMap fun g => [LANE_MAP_EXHAUSTED g]) ++
  ((List.range 15).flatMap fun g => [LANE_MAP_SECOND g])

end SCD

namespace EMT

/-- `REACH.REACH_IDX` (R84). -/
abbrev REACH_REACH_IDX (h : Nat) : Fld := ⟨((0x80000 + 0x1000 * h) + 0x40) * 32 + 0, 6, 54, .rws, .coat, 3⟩
/-- `REACH.RAMP_COATS` (R84). -/
abbrev REACH_RAMP_COATS (h : Nat) : Fld := ⟨((0x80000 + 0x1000 * h) + 0x40) * 32 + 8, 5, 4, .rws, .coat, 3⟩
/-- `REACH_STAT.RAMP_IDX` (R84). -/
abbrev REACH_STAT_RAMP_IDX (h : Nat) : Fld := ⟨((0x80000 + 0x1000 * h) + 0x44) * 32 + 0, 6, 0, .ro, .none, 7⟩
/-- `REACH_STAT.EFF_IDX` (R84). -/
abbrev REACH_STAT_EFF_IDX (h : Nat) : Fld := ⟨((0x80000 + 0x1000 * h) + 0x44) * 32 + 8, 6, 0, .ro, .none, 7⟩
/-- `REACH_STAT.CAP_IDX` (R84). -/
abbrev REACH_STAT_CAP_IDX (h : Nat) : Fld := ⟨((0x80000 + 0x1000 * h) + 0x44) * 32 + 16, 6, 63, .ro, .none, 7⟩
/-- `REACH_STAT.COATS_LEFT` (R84). -/
abbrev REACH_STAT_COATS_LEFT (h : Nat) : Fld := ⟨((0x80000 + 0x1000 * h) + 0x44) * 32 + 24, 5, 0, .ro, .none, 7⟩
/-- `FIRE.SHOT_MAX` (R84). -/
abbrev FIRE_SHOT_MAX (h : Nat) : Fld := ⟨((0x80000 + 0x1000 * h) + 0x48) * 32 + 0, 5, 8, .rws, .coat, 3⟩
/-- `FIRE.PRECHG_NS` (R84). -/
abbrev FIRE_PRECHG_NS (h : Nat) : Fld := ⟨((0x80000 + 0x1000 * h) + 0x48) * 32 + 8, 5, 16, .rws, .coat, 3⟩
/-- `DERATE.T0` (R84). -/
abbrev DERATE_T0 (h : Nat) : Fld := ⟨((0x80000 + 0x1000 * h) + 0x4C) * 32 + 0, 9, 85, .rws, .coat, 3⟩
/-- `DERATE.STEP` (R84). -/
abbrev DERATE_STEP (h : Nat) : Fld := ⟨((0x80000 + 0x1000 * h) + 0x4C) * 32 + 9, 5, 2, .rws, .coat, 3⟩
/-- `DERATE.T_OFF` (R84). -/
abbrev DERATE_T_OFF (h : Nat) : Fld := ⟨((0x80000 + 0x1000 * h) + 0x4C) * 32 + 16, 9, 110, .rws, .coat, 3⟩
/-- `DERATE.FAIL_IDX` (R84). -/
abbrev DERATE_FAIL_IDX (h : Nat) : Fld := ⟨((0x80000 + 0x1000 * h) + 0x4C) * 32 + 25, 6, 40, .rws, .coat, 3⟩
/-- `LINE_EN.EN` (R84). -/
abbrev LINE_EN_EN (h : Nat) : Fld := ⟨((0x80000 + 0x1000 * h) + 0x50) * 32 + 0, 32, 4294967295, .rws, .coat, 3⟩
/-- `COL_EN.EN` (R84). -/
abbrev COL_EN_EN (h : Nat) : Fld := ⟨((0x80000 + 0x1000 * h) + 0x54) * 32 + 0, 8, 255, .rws, .coat, 3⟩
/-- `GD_FAULT_LINE.FAULT` (R84). -/
abbrev GD_FAULT_LINE_FAULT (h : Nat) : Fld := ⟨((0x80000 + 0x1000 * h) + 0x58) * 32 + 0, 32, 0, .ro, .none, 7⟩
/-- `GD_FAULT_COL.FAULT` (R84). -/
abbrev GD_FAULT_COL_FAULT (h : Nat) : Fld := ⟨((0x80000 + 0x1000 * h) + 0x5C) * 32 + 0, 8, 0, .ro, .none, 7⟩
/-- `GD_FAULT_COL.TESTED` (R84). -/
abbrev GD_FAULT_COL_TESTED (h : Nat) : Fld := ⟨((0x80000 + 0x1000 * h) + 0x5C) * 32 + 16, 1, 0, .ro, .none, 7⟩
/-- `FAULT_CLR.CLR` (R84). -/
abbrev FAULT_CLR_CLR (h : Nat) : Fld := ⟨((0x80000 + 0x1000 * h) + 0x60) * 32 + 0, 1, 0, .wo, .coat, 0⟩
/-- `HEAD_STAT.PRESENT` (R84). -/
abbrev HEAD_STAT_PRESENT (h : Nat) : Fld := ⟨((0x80000 + 0x1000 * h) + 0x64) * 32 + 0, 1, 0, .ro, .none, 7⟩
/-- `HEAD_STAT.EMITTING` (R84). -/
abbrev HEAD_STAT_EMITTING (h : Nat) : Fld := ⟨((0x80000 + 0x1000 * h) + 0x64) * 32 + 1, 1, 0, .ro, .none, 7⟩
/-- `HEAD_STAT.SUPPLY_OK` (R84). -/
abbrev HEAD_STAT_SUPPLY_OK (h : Nat) : Fld := ⟨((0x80000 + 0x1000 * h) + 0x64) * 32 + 2, 1, 0, .ro, .none, 7⟩
/-- `HEAD_STAT.TOKEN` (R84). -/
abbrev HEAD_STAT_TOKEN (h : Nat) : Fld := ⟨((0x80000 + 0x1000 * h) + 0x64) * 32 + 3, 1, 0, .ro, .none, 7⟩
/-- `HEAD_STAT.PARKED` (R84). -/
abbrev HEAD_STAT_PARKED (h : Nat) : Fld := ⟨((0x80000 + 0x1000 * h) + 0x64) * 32 + 4, 1, 1, .ro, .none, 7⟩
/-- `HEAD_STAT.RTD_FAIL` (R84). -/
abbrev HEAD_STAT_RTD_FAIL (h : Nat) : Fld := ⟨((0x80000 + 0x1000 * h) + 0x64) * 32 + 5, 1, 0, .ro, .none, 7⟩
/-- `HEAD_STAT.AEL_BLANK` (R84). -/
abbrev HEAD_STAT_AEL_BLANK (h : Nat) : Fld := ⟨((0x80000 + 0x1000 * h) + 0x64) * 32 + 6, 1, 0, .ro, .none, 7⟩
/-- `HEAD_STAT.DERATE_OFF` (R84). -/
abbrev HEAD_STAT_DERATE_OFF (h : Nat) : Fld := ⟨((0x80000 + 0x1000 * h) + 0x64) * 32 + 7, 1, 0, .ro, .none, 7⟩
/-- `HEAD_STAT.BOARD_T` (R84). -/
abbrev HEAD_STAT_BOARD_T (h : Nat) : Fld := ⟨((0x80000 + 0x1000 * h) + 0x64) * 32 + 8, 9, 0, .ro, .none, 7⟩
/-- `AEL0_LEN.LEN` (R84). -/
abbrev AEL0_LEN_LEN (h : Nat) : Fld := ⟨((0x80000 + 0x1000 * h) + 0x70) * 32 + 0, 8, 0, .rwl, .imm, 3⟩
/-- `AEL0_LIMIT.LIMIT` (R84). -/
abbrev AEL0_LIMIT_LIMIT (h : Nat) : Fld := ⟨((0x80000 + 0x1000 * h) + 0x74) * 32 + 0, 32, 0, .rwl, .imm, 3⟩
/-- `AEL1_LEN.LEN` (R84). -/
abbrev AEL1_LEN_LEN (h : Nat) : Fld := ⟨((0x80000 + 0x1000 * h) + 0x78) * 32 + 0, 11, 1024, .rwl, .imm, 3⟩
/-- `AEL1_LIMIT.LIMIT` (R84). -/
abbrev AEL1_LIMIT_LIMIT (h : Nat) : Fld := ⟨((0x80000 + 0x1000 * h) + 0x7C) * 32 + 0, 32, 4294967295, .rwl, .imm, 3⟩
/-- `AEL2_LEN.LEN` (R84). -/
abbrev AEL2_LEN_LEN (h : Nat) : Fld := ⟨((0x80000 + 0x1000 * h) + 0x80) * 32 + 0, 9, 0, .rwl, .imm, 3⟩
/-- `AEL2_LIMIT.LIMIT` (R84). -/
abbrev AEL2_LIMIT_LIMIT (h : Nat) : Fld := ⟨((0x80000 + 0x1000 * h) + 0x84) * 32 + 0, 32, 0, .rwl, .imm, 3⟩
/-- `AELn_SUM.SUM` (R84). -/
abbrev AEL_SUM (h n : Nat) : Fld := ⟨((0x80000 + 0x1000 * h) + 0x88 + 4 * n) * 32 + 0, 32, 0, .ro, .none, 7⟩
/-- `MIR_CTRL.SERVO_EN` (R84). -/
abbrev MIR_CTRL_SERVO_EN (h : Nat) : Fld := ⟨((0x80000 + 0x1000 * h) + 0xA0) * 32 + 0, 1, 1, .rws, .tick, 3⟩
/-- `MIR_GAIN.KP` (R84). -/
abbrev MIR_GAIN_KP (h : Nat) : Fld := ⟨((0x80000 + 0x1000 * h) + 0xA4) * 32 + 0, 12, 128, .rws, .tick, 3⟩
/-- `MIR_GAIN.KI` (R84). -/
abbrev MIR_GAIN_KI (h : Nat) : Fld := ⟨((0x80000 + 0x1000 * h) + 0xA4) * 32 + 16, 12, 32, .rws, .tick, 3⟩
/-- `ANG_LIM.LIM` (R84). -/
abbrev ANG_LIM_LIM (h : Nat) : Fld := ⟨((0x80000 + 0x1000 * h) + 0xA8) * 32 + 0, 16, 64, .rws, .tick, 3⟩
/-- `PARK_CODE.CODE` (R84). -/
abbrev PARK_CODE_CODE (h : Nat) : Fld := ⟨((0x80000 + 0x1000 * h) + 0xAC) * 32 + 0, 16, 32768, .rw, .imm, 3⟩
/-- `PICK_CAL.PK_OFS` (R84). -/
abbrev PICK_CAL_PK_OFS (h : Nat) : Fld := ⟨((0x80000 + 0x1000 * h) + 0xB0) * 32 + 0, 16, 32768, .rws, .frame, 3⟩
/-- `PICK_CAL.PK_GAIN` (R84). -/
abbrev PICK_CAL_PK_GAIN (h : Nat) : Fld := ⟨((0x80000 + 0x1000 * h) + 0xB0) * 32 + 16, 16, 32768, .rws, .frame, 3⟩
/-- `MIR_STAT.LAST_ERR` (R84). -/
abbrev MIR_STAT_LAST_ERR (h : Nat) : Fld := ⟨((0x80000 + 0x1000 * h) + 0xB4) * 32 + 0, 16, 0, .ro, .none, 3⟩
/-- `MIR_STAT.ANG_FLAGS` (R84). -/
abbrev MIR_STAT_ANG_FLAGS (h : Nat) : Fld := ⟨((0x80000 + 0x1000 * h) + 0xB4) * 32 + 16, 16, 0, .ro, .none, 3⟩
/-- `MIR_DAC.CODE` (R84). -/
abbrev MIR_DAC_CODE (h : Nat) : Fld := ⟨((0x80000 + 0x1000 * h) + 0xB8) * 32 + 0, 16, 32768, .ro, .none, 7⟩
/-- `ECURVE[i].DRIVE` (R84). -/
abbrev ECURVE_DRIVE (h i : Nat) : Fld := ⟨((0x80000 + 0x1000 * h) + 0x100 + 0x4 * i) * 32 + 0, 12, 0, .rws, .coat, 3⟩
/-- `STEP_CODE[m].CODE` (R84). -/
abbrev STEP_CODE_CODE (h m : Nat) : Fld := ⟨((0x80000 + 0x1000 * h) + 0x200 + 0x4 * m) * 32 + 0, 16, 32768, .rws, .frame, 3⟩

/-- Every field of the page that R84 tables. -/
def fields (h : Nat) : List Fld :=
  [REACH_REACH_IDX h, REACH_RAMP_COATS h, REACH_STAT_RAMP_IDX h, REACH_STAT_EFF_IDX h, REACH_STAT_CAP_IDX h, REACH_STAT_COATS_LEFT h, FIRE_SHOT_MAX h, FIRE_PRECHG_NS h, DERATE_T0 h, DERATE_STEP h, DERATE_T_OFF h, DERATE_FAIL_IDX h, LINE_EN_EN h, COL_EN_EN h, GD_FAULT_LINE_FAULT h, GD_FAULT_COL_FAULT h, GD_FAULT_COL_TESTED h, FAULT_CLR_CLR h, HEAD_STAT_PRESENT h, HEAD_STAT_EMITTING h, HEAD_STAT_SUPPLY_OK h, HEAD_STAT_TOKEN h, HEAD_STAT_PARKED h, HEAD_STAT_RTD_FAIL h, HEAD_STAT_AEL_BLANK h, HEAD_STAT_DERATE_OFF h, HEAD_STAT_BOARD_T h, AEL0_LEN_LEN h, AEL0_LIMIT_LIMIT h, AEL1_LEN_LEN h, AEL1_LIMIT_LIMIT h, AEL2_LEN_LEN h, AEL2_LIMIT_LIMIT h] ++
  ((List.range 3).flatMap fun n => [AEL_SUM h n]) ++
  [MIR_CTRL_SERVO_EN h, MIR_GAIN_KP h, MIR_GAIN_KI h, ANG_LIM_LIM h, PARK_CODE_CODE h, PICK_CAL_PK_OFS h, PICK_CAL_PK_GAIN h, MIR_STAT_LAST_ERR h, MIR_STAT_ANG_FLAGS h, MIR_DAC_CODE h] ++
  ((List.range 64).flatMap fun i => [ECURVE_DRIVE h i]) ++
  ((List.range 128).flatMap fun m => [STEP_CODE_CODE h m])

end EMT

namespace RFE

/-- `LE_TE[g].LE_TH` (R116). -/
abbrev LE_TE_LE_TH (h g : Nat) : Fld := ⟨((0x90000 + 0x1000 * h) + 0x40 + 0x4 * g) * 32 + 0, 10, 82, .rws, .coat, 3⟩
/-- `LE_TE[g].TE_TH` (R116). -/
abbrev LE_TE_TE_TH (h g : Nat) : Fld := ⟨((0x90000 + 0x1000 * h) + 0x40 + 0x4 * g) * 32 + 16, 10, 41, .rws, .coat, 3⟩
/-- `GAIN.G[g]` (R116). -/
abbrev GAIN_G (h g : Nat) : Fld := ⟨((0x90000 + 0x1000 * h) + 0x60) * 32 + (2 * g), 2, 1, .rws, .coat, 3⟩
/-- `CH_EN[n].EN` (R116). -/
abbrev CH_EN_EN (h n : Nat) : Fld := ⟨((0x90000 + 0x1000 * h) + 0x64 + 0x4 * n) * 32 + 0, 32, 4294967295, .rws, .coat, 3⟩
/-- `SAT_CNT.COUNT` (R116). -/
abbrev SAT_CNT_COUNT (h : Nat) : Fld := ⟨((0x90000 + 0x1000 * h) + 0x74) * 32 + 0, 32, 0, .ro, .none, 3⟩
/-- `RFE_STAT.LAST_SAT_ROW` (R116). -/
abbrev RFE_STAT_LAST_SAT_ROW (h : Nat) : Fld := ⟨((0x90000 + 0x1000 * h) + 0x78) * 32 + 0, 7, 0, .ro, .none, 3⟩
/-- `RFE_STAT.SAT_NEW` (R116). -/
abbrev RFE_STAT_SAT_NEW (h : Nat) : Fld := ⟨((0x90000 + 0x1000 * h) + 0x78) * 32 + 16, 1, 0, .w1c, .imm, 3⟩
/-- `CH_TRIM[r].LE_OFS` (R116). -/
abbrev CH_TRIM_LE_OFS (h r : Nat) : Fld := ⟨((0x90000 + 0x1000 * h) + 0x200 + 0x4 * r) * 32 + 0, 8, 0, .rws, .coat, 15⟩
/-- `CH_TRIM[r].TE_OFS` (R116). -/
abbrev CH_TRIM_TE_OFS (h r : Nat) : Fld := ⟨((0x90000 + 0x1000 * h) + 0x200 + 0x4 * r) * 32 + 8, 8, 0, .rws, .coat, 15⟩
/-- `CH_TRIM[r].TIA_OFS` (R116). -/
abbrev CH_TRIM_TIA_OFS (h r : Nat) : Fld := ⟨((0x90000 + 0x1000 * h) + 0x200 + 0x4 * r) * 32 + 16, 8, 0, .rws, .coat, 15⟩

/-- Every field of the page that R116 tables. -/
def fields (h : Nat) : List Fld :=
  ((List.range 8).flatMap fun g => [LE_TE_LE_TH h g]) ++
  ((List.range 8).flatMap fun g => [LE_TE_TE_TH h g]) ++
  ((List.range 8).flatMap fun g => [GAIN_G h g]) ++
  ((List.range 4).flatMap fun n => [CH_EN_EN h n]) ++
  [SAT_CNT_COUNT h, RFE_STAT_LAST_SAT_ROW h, RFE_STAT_SAT_NEW h] ++
  ((List.range 128).flatMap fun r => [CH_TRIM_LE_OFS h r]) ++
  ((List.range 128).flatMap fun r => [CH_TRIM_TE_OFS h r]) ++
  ((List.range 128).flatMap fun r => [CH_TRIM_TIA_OFS h r])

end RFE

namespace TDC

/-- `TBL_ADDR.BIN` (R117). -/
abbrev TBL_ADDR_BIN (h : Nat) : Fld := ⟨((0xA0000 + 0x1000 * h) + 0x40) * 32 + 0, 7, 0, .rw, .imm, 3⟩
/-- `TBL_ADDR.INTP` (R117). -/
abbrev TBL_ADDR_INTP (h : Nat) : Fld := ⟨((0xA0000 + 0x1000 * h) + 0x40) * 32 + 7, 8, 0, .rw, .imm, 3⟩
/-- `TBL_ADDR.SEL` (R117). -/
abbrev TBL_ADDR_SEL (h : Nat) : Fld := ⟨((0xA0000 + 0x1000 * h) + 0x40) * 32 + 15, 1, 0, .rw, .imm, 3⟩
/-- `TBL_DATA.VALUE` (R117). -/
abbrev TBL_DATA_VALUE (h : Nat) : Fld := ⟨((0xA0000 + 0x1000 * h) + 0x44) * 32 + 0, 16, 0, .ro, .none, 0⟩
/-- `TBL_SRC.SRC[g]` (R117). -/
abbrev TBL_SRC_SRC (h g : Nat) : Fld := ⟨((0xA0000 + 0x1000 * h) + 0x48) * 32 + (2 * g), 2, 0, .ro, .none, 7⟩
/-- `LOST.COUNT` (R117). -/
abbrev LOST_COUNT (h : Nat) : Fld := ⟨((0xA0000 + 0x1000 * h) + 0x4C) * 32 + 0, 32, 0, .ro, .none, 3⟩
/-- `EDGE_STAT.MAX_FILL` (R117). -/
abbrev EDGE_STAT_MAX_FILL (h : Nat) : Fld := ⟨((0xA0000 + 0x1000 * h) + 0x50) * 32 + 0, 6, 0, .ro, .none, 3⟩
/-- `EDGE_STAT.CLR` (R117). -/
abbrev EDGE_STAT_CLR (h : Nat) : Fld := ⟨((0xA0000 + 0x1000 * h) + 0x50) * 32 + 31, 1, 0, .wo, .imm, 0⟩
/-- `DNL_STAT[g].TURN` (R117). -/
abbrev DNL_STAT_TURN (h g : Nat) : Fld := ⟨((0xA0000 + 0x1000 * h) + 0x60 + 0x4 * g) * 32 + 0, 5, 31, .ro, .none, 3⟩
/-- `DNL_STAT[g].EXTENDS` (R117). -/
abbrev DNL_STAT_EXTENDS (h g : Nat) : Fld := ⟨((0xA0000 + 0x1000 * h) + 0x60 + 0x4 * g) * 32 + 5, 3, 0, .ro, .none, 3⟩
/-- `DNL_STAT[g].LAST_N` (R117). -/
abbrev DNL_STAT_LAST_N (h g : Nat) : Fld := ⟨((0xA0000 + 0x1000 * h) + 0x60 + 0x4 * g) * 32 + 8, 24, 0, .ro, .none, 3⟩
/-- `DNL_MIN[g].MIN_HITS` (R117). -/
abbrev DNL_MIN_MIN_HITS (h g : Nat) : Fld := ⟨((0xA0000 + 0x1000 * h) + 0x80 + 0x4 * g) * 32 + 0, 16, 0, .ro, .none, 3⟩
/-- `DNL_MIN[g].MIN_INTP` (R117). -/
abbrev DNL_MIN_MIN_INTP (h g : Nat) : Fld := ⟨((0xA0000 + 0x1000 * h) + 0x80 + 0x4 * g) * 32 + 16, 8, 0, .ro, .none, 3⟩

/-- Every field of the page that R117 tables. -/
def fields (h : Nat) : List Fld :=
  [TBL_ADDR_BIN h, TBL_ADDR_INTP h, TBL_ADDR_SEL h, TBL_DATA_VALUE h] ++
  ((List.range 8).flatMap fun g => [TBL_SRC_SRC h g]) ++
  [LOST_COUNT h, EDGE_STAT_MAX_FILL h, EDGE_STAT_CLR h] ++
  ((List.range 8).flatMap fun g => [DNL_STAT_TURN h g]) ++
  ((List.range 8).flatMap fun g => [DNL_STAT_EXTENDS h g]) ++
  ((List.range 8).flatMap fun g => [DNL_STAT_LAST_N h g]) ++
  ((List.range 8).flatMap fun g => [DNL_MIN_MIN_HITS h g]) ++
  ((List.range 8).flatMap fun g => [DNL_MIN_MIN_INTP h g])

end TDC

namespace TIM

/-- `TIME_FRAC.FRAC` (R118). -/
abbrev TIME_FRAC_FRAC : Fld := ⟨0x110040 * 32 + 0, 32, 0, .ro, .none, 7⟩
/-- `TIME_SEC.SEC` (R118). -/
abbrev TIME_SEC_SEC : Fld := ⟨0x110044 * 32 + 0, 32, 0, .ro, .none, 7⟩
/-- `TRIM.PPB` (R118). -/
abbrev TRIM_PPB : Fld := ⟨0x110048 * 32 + 0, 32, 0, .rws, .imm, 15⟩
/-- `FREQ_CORR.CORR` (R118). -/
abbrev FREQ_CORR_CORR : Fld := ⟨0x11004C * 32 + 0, 32, 0, .ro, .none, 7⟩
/-- `TCOMP_CTRL.EN` (R118). -/
abbrev TCOMP_CTRL_EN : Fld := ⟨0x110050 * 32 + 0, 1, 1, .rws, .imm, 15⟩
/-- `TCOMP_CTRL.TEMP` (R118). -/
abbrev TCOMP_CTRL_TEMP : Fld := ⟨0x110050 * 32 + 8, 8, 0, .ro, .none, 7⟩
/-- `XTAL_STAT.RUN` (R118). -/
abbrev XTAL_STAT_RUN : Fld := ⟨0x110054 * 32 + 0, 1, 0, .ro, .none, 7⟩
/-- `XTAL_STAT.FAIL` (R118). -/
abbrev XTAL_STAT_FAIL : Fld := ⟨0x110054 * 32 + 1, 1, 0, .ro, .none, 15⟩
/-- `XTAL_STAT.TCOMP_VALID` (R118). -/
abbrev XTAL_STAT_TCOMP_VALID : Fld := ⟨0x110054 * 32 + 2, 1, 0, .ro, .none, 7⟩
/-- `FRAME_TS_FRAC.FRAC` (R118). -/
abbrev FRAME_TS_FRAC_FRAC : Fld := ⟨0x110058 * 32 + 0, 32, 0, .ro, .none, 7⟩
/-- `FRAME_TS_SEC.SEC` (R118). -/
abbrev FRAME_TS_SEC_SEC : Fld := ⟨0x11005C * 32 + 0, 32, 0, .ro, .none, 7⟩
/-- `DISC.PPS_EN` (R388). -/
abbrev DISC_PPS_EN : Fld := ⟨0x110080 * 32 + 0, 1, 0, .rws, .imm, 15⟩
/-- `DISC.PPS_FALL` (R388). -/
abbrev DISC_PPS_FALL : Fld := ⟨0x110080 * 32 + 1, 1, 0, .rws, .imm, 15⟩
/-- `DISC.KF` (R388). -/
abbrev DISC_KF : Fld := ⟨0x110080 * 32 + 4, 4, 4, .rws, .imm, 15⟩
/-- `HOLD.LIMIT_S` (R388). -/
abbrev HOLD_LIMIT_S : Fld := ⟨0x110084 * 32 + 0, 16, 60, .rws, .imm, 15⟩
/-- `DSTAT.STATE` (R388). -/
abbrev DSTAT_STATE : Fld := ⟨0x110088 * 32 + 0, 3, 0, .ro, .none, 7⟩
/-- `DSTAT.TRUSTED` (R388). -/
abbrev DSTAT_TRUSTED : Fld := ⟨0x110088 * 32 + 3, 1, 1, .ro, .none, 7⟩
/-- `DSTAT.HOLD_S` (R388). -/
abbrev DSTAT_HOLD_S : Fld := ⟨0x110088 * 32 + 16, 16, 0, .ro, .none, 7⟩
/-- `OFFSET.THETA` (R388). -/
abbrev OFFSET_THETA : Fld := ⟨0x11008C * 32 + 0, 32, 0, .ro, .none, 7⟩
/-- `STEER.G` (R388). -/
abbrev STEER_G : Fld := ⟨0x110090 * 32 + 0, 32, 0, .ro, .none, 7⟩
/-- `TOD.SEC` (R388). -/
abbrev TOD_SEC : Fld := ⟨0x110094 * 32 + 0, 32, 0, .rw, .imm, 3⟩
/-- `TOD_ARM.ARM` (R388). -/
abbrev TOD_ARM_ARM : Fld := ⟨0x110098 * 32 + 0, 1, 0, .wo, .imm, 0⟩
/-- `TOD_ARM.ARMED` (R388). -/
abbrev TOD_ARM_ARMED : Fld := ⟨0x110098 * 32 + 1, 1, 0, .ro, .none, 3⟩
/-- `PPS_STAT.TAKEN` (R388). -/
abbrev PPS_STAT_TAKEN : Fld := ⟨0x11009C * 32 + 0, 16, 0, .ro, .none, 3⟩
/-- `PPS_STAT.REJECTED` (R388). -/
abbrev PPS_STAT_REJECTED : Fld := ⟨0x11009C * 32 + 16, 16, 0, .ro, .none, 3⟩
/-- `STEP.GO` (R388). -/
abbrev STEP_GO : Fld := ⟨0x1100A0 * 32 + 0, 1, 0, .wo, .imm, 0⟩
/-- `STEP.PENDING` (R388). -/
abbrev STEP_PENDING : Fld := ⟨0x1100A0 * 32 + 1, 1, 0, .ro, .none, 3⟩

/-- Every field of the page that R118 tables. -/
def fields : List Fld :=
  [TIME_FRAC_FRAC, TIME_SEC_SEC, TRIM_PPB, FREQ_CORR_CORR, TCOMP_CTRL_EN, TCOMP_CTRL_TEMP, XTAL_STAT_RUN, XTAL_STAT_FAIL, XTAL_STAT_TCOMP_VALID, FRAME_TS_FRAC_FRAC, FRAME_TS_SEC_SEC, DISC_PPS_EN, DISC_PPS_FALL, DISC_KF, HOLD_LIMIT_S, DSTAT_STATE, DSTAT_TRUSTED, DSTAT_HOLD_S, OFFSET_THETA, STEER_G, TOD_SEC, TOD_ARM_ARM, TOD_ARM_ARMED, PPS_STAT_TAKEN, PPS_STAT_REJECTED, STEP_GO, STEP_PENDING]

end TIM

namespace STP

/-- `MODE.FIXED` (R140). -/
abbrev MODE_FIXED : Fld := ⟨0xC0040 * 32 + 0, 1, 0, .rws, .frame, 3⟩
/-- `FIX_IDX.IDX` (R140). -/
abbrev FIX_IDX_IDX : Fld := ⟨0xC0044 * 32 + 0, 17, 0, .rws, .frame, 3⟩
/-- `CODE_KEY[n].KEY` (R140). -/
abbrev CODE_KEY_KEY (n : Nat) : Fld := ⟨(0xC0000 + 0x48 + 0x4 * n) * 32 + 0, 32, 0, .wos, .frame, 7⟩
/-- `KEY_CTRL.AT_FRAME` (R140). -/
abbrev KEY_CTRL_AT_FRAME : Fld := ⟨0xC0058 * 32 + 0, 15, 0, .rws, .frame, 7⟩
/-- `KEY_CTRL.USE_AT` (R140). -/
abbrev KEY_CTRL_USE_AT : Fld := ⟨0xC0058 * 32 + 16, 1, 0, .rws, .frame, 7⟩
/-- `KEY_STAT.CHECK` (R140). -/
abbrev KEY_STAT_CHECK : Fld := ⟨0xC005C * 32 + 0, 16, 26345, .ro, .none, 7⟩
/-- `KEY_STAT.LATE` (R140). -/
abbrev KEY_STAT_LATE : Fld := ⟨0xC005C * 32 + 30, 1, 0, .ro, .none, 7⟩
/-- `KEY_STAT.PENDING` (R140). -/
abbrev KEY_STAT_PENDING : Fld := ⟨0xC005C * 32 + 31, 1, 0, .ro, .none, 7⟩
/-- `BOOK_STAT.OK` (R140). -/
abbrev BOOK_STAT_OK : Fld := ⟨0xC0060 * 32 + 0, 1, 0, .ro, .none, 7⟩
/-- `BOOK_STAT.PAR_CNT` (R140). -/
abbrev BOOK_STAT_PAR_CNT : Fld := ⟨0xC0060 * 32 + 8, 8, 0, .ro, .none, 3⟩
/-- `DOMAIN.ID` (R140). -/
abbrev DOMAIN_ID : Fld := ⟨0xC0064 * 32 + 0, 14, 0, .ro, .none, 7⟩

/-- Every field of the page that R140 tables. -/
def fields : List Fld :=
  [ MODE_FIXED, FIX_IDX_IDX] ++
  ((List.range 4).flatMap fun n => [CODE_KEY_KEY n]) ++
  [KEY_CTRL_AT_FRAME, KEY_CTRL_USE_AT, KEY_STAT_CHECK, KEY_STAT_LATE, KEY_STAT_PENDING, BOOK_STAT_OK, BOOK_STAT_PAR_CNT, DOMAIN_ID]

end STP

namespace SCM

/-- `CAND[h].THRESH` (R141). -/
abbrev CAND_THRESH (h : Nat) : Fld := ⟨(0xC1000 + 0x40 + 0x4 * h) * 32 + 0, 4, 5, .rws, .coat, 3⟩
/-- `CAND[h].MARGIN` (R141). -/
abbrev CAND_MARGIN (h : Nat) : Fld := ⟨(0xC1000 + 0x40 + 0x4 * h) * 32 + 8, 4, 1, .rws, .coat, 3⟩
/-- `CAND[h].AMBIG_EN` (R141). -/
abbrev CAND_AMBIG_EN (h : Nat) : Fld := ⟨(0xC1000 + 0x40 + 0x4 * h) * 32 + 16, 1, 1, .rws, .coat, 3⟩
/-- `SCM_STAT.BIN_FAULT` (R141). -/
abbrev SCM_STAT_BIN_FAULT : Fld := ⟨0xC1060 * 32 + 0, 16, 0, .ro, .none, 3⟩
/-- `SCM_STAT.CLEARED` (R141). -/
abbrev SCM_STAT_CLEARED : Fld := ⟨0xC1060 * 32 + 16, 16, 0, .ro, .none, 3⟩
/-- `OVF_CNT.COUNT` (R141). -/
abbrev OVF_CNT_COUNT : Fld := ⟨0xC1064 * 32 + 0, 32, 0, .ro, .none, 3⟩

/-- Every field of the page that R141 tables. -/
def fields : List Fld :=
  ((List.range 8).flatMap fun h => [CAND_THRESH h]) ++
  ((List.range 8).flatMap fun h => [CAND_MARGIN h]) ++
  ((List.range 8).flatMap fun h => [CAND_AMBIG_EN h]) ++
  [SCM_STAT_BIN_FAULT, SCM_STAT_CLEARED, OVF_CNT_COUNT]

end SCM

namespace SKM

/-- `SKCFG[h].ALPHA` (R142). -/
abbrev SKCFG_ALPHA (h : Nat) : Fld := ⟨(0xC2000 + 0x40 + 0x4 * h) * 32 + 0, 3, 1, .rws, .coat, 3⟩
/-- `SKCFG[h].SUN_RATE` (R142). -/
abbrev SKCFG_SUN_RATE (h : Nat) : Fld := ⟨(0xC2000 + 0x40 + 0x4 * h) * 32 + 16, 16, 1536, .rws, .coat, 3⟩
/-- `RL[h][n].RATE` (R142). -/
abbrev RL_RATE (h n : Nat) : Fld := ⟨(0xC2000 + 0x60 + 16 * h + 4 * (n / 2)) * 32 + (16 * (n % 2)), 16, (SKM.rlReset n), .rws, .coat, 3⟩
/-- `SKM_STAT.SUN_CNT` (R142). -/
abbrev SKM_STAT_SUN_CNT : Fld := ⟨0xC20E0 * 32 + 0, 20, 0, .ro, .none, 3⟩
/-- `SKM_STAT.MAX_S` (R142). -/
abbrev SKM_STAT_MAX_S : Fld := ⟨0xC20E0 * 32 + 20, 4, 0, .ro, .none, 3⟩

/-- Every field of the page that R142 tables. -/
def fields : List Fld :=
  ((List.range 8).flatMap fun h => [SKCFG_ALPHA h]) ++
  ((List.range 8).flatMap fun h => [SKCFG_SUN_RATE h]) ++
  ((List.range 8).flatMap fun h => (List.range 8).flatMap fun n => [RL_RATE h n]) ++
  [SKM_STAT_SUN_CNT, SKM_STAT_MAX_S]

end SKM

namespace FLT

/-- `HCFG[h].WFM_EN` (R169). -/
abbrev HCFG_WFM_EN (h : Nat) : Fld := ⟨(0xC3000 + 0x40 + 0x4 * h) * 32 + 0, 1, 1, .rws, .coat, 3⟩
/-- `HCFG[h].INT_MODE` (R169). -/
abbrev HCFG_INT_MODE (h : Nat) : Fld := ⟨(0xC3000 + 0x40 + 0x4 * h) * 32 + 1, 1, 0, .rws, .coat, 3⟩
/-- `HCFG[h].OUTLIER` (R169). -/
abbrev HCFG_OUTLIER (h : Nat) : Fld := ⟨(0xC3000 + 0x40 + 0x4 * h) * 32 + 8, 8, 64, .rws, .coat, 3⟩
/-- `HCFG[h].R_REF` (R169). -/
abbrev HCFG_R_REF (h : Nat) : Fld := ⟨(0xC3000 + 0x40 + 0x4 * h) * 32 + 16, 12, 854, .rws, .coat, 3⟩
/-- `INT_GAIN[h].GAIN` (R169). -/
abbrev INT_GAIN_GAIN (h : Nat) : Fld := ⟨(0xC3000 + 0x60 + 0x4 * h) * 32 + 0, 16, 256, .rws, .coat, 3⟩
/-- `INT_GAIN[h].WFM_SCALE` (R169). -/
abbrev INT_GAIN_WFM_SCALE (h : Nat) : Fld := ⟨(0xC3000 + 0x60 + 0x4 * h) * 32 + 16, 16, 256, .rws, .coat, 3⟩
/-- `WFM[h].WFM_MIN` (R169). -/
abbrev WFM_WFM_MIN (h : Nat) : Fld := ⟨(0xC3000 + 0x80 + 0x4 * h) * 32 + 0, 10, 24, .rws, .coat, 3⟩
/-- `TBL_ADDR.INDEX` (R169). -/
abbrev TBL_ADDR_INDEX : Fld := ⟨0xC30A0 * 32 + 0, 10, 0, .rw, .imm, 3⟩
/-- `TBL_ADDR.SUB` (R169). -/
abbrev TBL_ADDR_SUB : Fld := ⟨0xC30A0 * 32 + 10, 2, 0, .rw, .imm, 3⟩
/-- `TBL_ADDR.HEAD` (R169). -/
abbrev TBL_ADDR_HEAD : Fld := ⟨0xC30A0 * 32 + 12, 3, 0, .rw, .imm, 3⟩
/-- `TBL_ADDR.SEL` (R169). -/
abbrev TBL_ADDR_SEL : Fld := ⟨0xC30A0 * 32 + 16, 3, 0, .rw, .imm, 3⟩
/-- `TBL_DATA.VALUE` (R169). -/
abbrev TBL_DATA_VALUE : Fld := ⟨0xC30A4 * 32 + 0, 20, 0, .rws, .coat, 7⟩
/-- `STAT.NOSTOP` (R169). -/
abbrev STAT_NOSTOP : Fld := ⟨0xC30A8 * 32 + 0, 16, 0, .ro, .none, 3⟩
/-- `STAT.WFM_DONE` (R169). -/
abbrev STAT_WFM_DONE : Fld := ⟨0xC30A8 * 32 + 16, 16, 0, .ro, .none, 3⟩
/-- `WFM_REJ.COUNT` (R169). -/
abbrev WFM_REJ_COUNT : Fld := ⟨0xC30AC * 32 + 0, 32, 0, .ro, .none, 3⟩

/-- Every field of the page that R169 tables. -/
def fields : List Fld :=
  ((List.range 8).flatMap fun h => [HCFG_WFM_EN h]) ++
  ((List.range 8).flatMap fun h => [HCFG_INT_MODE h]) ++
  ((List.range 8).flatMap fun h => [HCFG_OUTLIER h]) ++
  ((List.range 8).flatMap fun h => [HCFG_R_REF h]) ++
  ((List.range 8).flatMap fun h => [INT_GAIN_GAIN h]) ++
  ((List.range 8).flatMap fun h => [INT_GAIN_WFM_SCALE h]) ++
  ((List.range 8).flatMap fun h => [WFM_WFM_MIN h]) ++
  [TBL_ADDR_INDEX, TBL_ADDR_SUB, TBL_ADDR_HEAD, TBL_ADDR_SEL, TBL_DATA_VALUE, STAT_NOSTOP, STAT_WFM_DONE, WFM_REJ_COUNT]

end FLT

namespace PTB

/-- `RING_BASE[h].ADDR` (R170). -/
abbrev RING_BASE_ADDR (h : Nat) : Fld := ⟨(0xC5000 + 0x40 + 0x4 * h) * 32 + 0, 24, 0, .rws, .frame, 0⟩
/-- `RING_SIZE[h].SIZE` (R170). -/
abbrev RING_SIZE_SIZE (h : Nat) : Fld := ⟨(0xC5000 + 0x60 + 0x4 * h) * 32 + 0, 16, 0, .rws, .frame, 0⟩
/-- `WR_IDX[h].IDX` (R170). -/
abbrev WR_IDX_IDX (h : Nat) : Fld := ⟨(0xC5000 + 0x80 + 0x4 * h) * 32 + 0, 32, 0, .ro, .none, 0⟩
/-- `FH_BASE.ADDR` (R170). -/
abbrev FH_BASE_ADDR : Fld := ⟨0xC50A0 * 32 + 0, 24, 0, .rws, .frame, 0⟩
/-- `FH_SIZE.SIZE` (R170). -/
abbrev FH_SIZE_SIZE : Fld := ⟨0xC50A4 * 32 + 0, 16, 0, .rws, .frame, 0⟩
/-- `FH_WR_IDX.IDX` (R170). -/
abbrev FH_WR_IDX_IDX : Fld := ⟨0xC50A8 * 32 + 0, 32, 0, .ro, .none, 0⟩
/-- `PCFG.EMPTY_EN` (R170). -/
abbrev PCFG_EMPTY_EN : Fld := ⟨0xC50AC * 32 + 0, 1, 1, .rws, .frame, 3⟩
/-- `IMG_BASE.ADDR` (R170). -/
abbrev IMG_BASE_ADDR : Fld := ⟨0xC50B0 * 32 + 0, 18, 0, .rws, .frame, 3⟩
/-- `IMG_STAT.READY` (R170). -/
abbrev IMG_STAT_READY : Fld := ⟨0xC50B4 * 32 + 0, 2, 0, .ro, .none, 3⟩
/-- `IMG_SEQ.SEQ` (R170). -/
abbrev IMG_SEQ_SEQ : Fld := ⟨0xC50B8 * 32 + 0, 32, 0, .ro, .none, 3⟩
/-- `PTB_STAT.UNSET` (R170). -/
abbrev PTB_STAT_UNSET : Fld := ⟨0xC50BC * 32 + 0, 32, 0, .ro, .none, 3⟩
/-- `IMG_CFG[h].SEL` (R170). -/
abbrev IMG_CFG_SEL (h : Nat) : Fld := ⟨(0xC5000 + 0xC0 + 0x4 * h) * 32 + 0, 2, 0, .rws, .coat, 3⟩
/-- `IMG_CFG[h].SHIFT` (R170). -/
abbrev IMG_CFG_SHIFT (h : Nat) : Fld := ⟨(0xC5000 + 0xC0 + 0x4 * h) * 32 + 4, 4, 7, .rws, .coat, 3⟩
/-- `IMG_CFG[h].RMIN` (R170). -/
abbrev IMG_CFG_RMIN (h : Nat) : Fld := ⟨(0xC5000 + 0xC0 + 0x4 * h) * 32 + 8, 20, 0, .rws, .coat, 3⟩

/-- Every field of the page that R170 tables. -/
def fields : List Fld :=
  ((List.range 8).flatMap fun h => [RING_BASE_ADDR h]) ++
  ((List.range 8).flatMap fun h => [RING_SIZE_SIZE h]) ++
  ((List.range 8).flatMap fun h => [WR_IDX_IDX h]) ++
  [FH_BASE_ADDR, FH_SIZE_SIZE, FH_WR_IDX_IDX, PCFG_EMPTY_EN, IMG_BASE_ADDR, IMG_STAT_READY, IMG_SEQ_SEQ, PTB_STAT_UNSET] ++
  ((List.range 8).flatMap fun h => [IMG_CFG_SEL h]) ++
  ((List.range 8).flatMap fun h => [IMG_CFG_SHIFT h]) ++
  ((List.range 8).flatMap fun h => [IMG_CFG_RMIN h])

end PTB

namespace MSK

/-- `PCFG[h].PERS_TOL` (R190). -/
abbrev PCFG_PERS_TOL (h : Nat) : Fld := ⟨(0xC4000 + 0x40 + 0x4 * h) * 32 + 0, 10, 110, .rwl, .coat, 3⟩
/-- `PCFG[h].PERS_MIN` (R190). -/
abbrev PCFG_PERS_MIN (h : Nat) : Fld := ⟨(0xC4000 + 0x40 + 0x4 * h) * 32 + 12, 4, 1, .rwl, .coat, 3⟩
/-- `PCFG[h].SUN_CONF` (R190). -/
abbrev PCFG_SUN_CONF (h : Nat) : Fld := ⟨(0xC4000 + 0x40 + 0x4 * h) * 32 + 16, 8, 64, .rws, .coat, 3⟩
/-- `PCFG[h].CHAIN_MIN` (R190). -/
abbrev PCFG_CHAIN_MIN (h : Nat) : Fld := ⟨(0xC4000 + 0x40 + 0x4 * h) * 32 + 24, 4, 3, .rws, .coat, 3⟩
/-- `PCFG[h].DIRT_ALPHA` (R190). -/
abbrev PCFG_DIRT_ALPHA (h : Nat) : Fld := ⟨(0xC4000 + 0x40 + 0x4 * h) * 32 + 28, 4, 8, .rws, .coat, 3⟩
/-- `SHAPE[h].CAN_W` (R190). -/
abbrev SHAPE_CAN_W (h : Nat) : Fld := ⟨(0xC4000 + 0x60 + 0x4 * h) * 32 + 0, 8, 20, .rws, .coat, 3⟩
/-- `SHAPE[h].GND_W` (R190). -/
abbrev SHAPE_GND_W (h : Nat) : Fld := ⟨(0xC4000 + 0x60 + 0x4 * h) * 32 + 8, 8, 17, .rws, .coat, 3⟩
/-- `SHAPE[h].CHAIN_WMIN` (R190). -/
abbrev SHAPE_CHAIN_WMIN (h : Nat) : Fld := ⟨(0xC4000 + 0x60 + 0x4 * h) * 32 + 16, 8, 10, .rws, .coat, 3⟩
/-- `CANOPY[h].CAN_SEP` (R190). -/
abbrev CANOPY_CAN_SEP (h : Nat) : Fld := ⟨(0xC4000 + 0x80 + 0x4 * h) * 32 + 0, 10, 64, .rws, .coat, 3⟩
/-- `CANOPY[h].CAN_DEPTH` (R190). -/
abbrev CANOPY_CAN_DEPTH (h : Nat) : Fld := ⟨(0xC4000 + 0x80 + 0x4 * h) * 32 + 16, 8, 13, .rws, .coat, 3⟩
/-- `CANOPY[h].CAN_AGE` (R190). -/
abbrev CANOPY_CAN_AGE (h : Nat) : Fld := ⟨(0xC4000 + 0x80 + 0x4 * h) * 32 + 28, 4, 8, .rws, .coat, 3⟩
/-- `WX[h].WX_RANGE` (R190). -/
abbrev WX_WX_RANGE (h : Nat) : Fld := ⟨(0xC4000 + 0xA0 + 0x4 * h) * 32 + 0, 12, 171, .rwl, .coat, 3⟩
/-- `WX[h].RAIN_W` (R190). -/
abbrev WX_RAIN_W (h : Nat) : Fld := ⟨(0xC4000 + 0xA0 + 0x4 * h) * 32 + 16, 8, 17, .rwl, .coat, 3⟩
/-- `WX[h].DUST_W` (R190). -/
abbrev WX_DUST_W (h : Nat) : Fld := ⟨(0xC4000 + 0xA0 + 0x4 * h) * 32 + 24, 8, 24, .rwl, .coat, 3⟩
/-- `WXI[h].RAIN_I` (R190). -/
abbrev WXI_RAIN_I (h : Nat) : Fld := ⟨(0xC4000 + 0xC0 + 0x4 * h) * 32 + 0, 16, 100, .rwl, .coat, 3⟩
/-- `WXI[h].DUST_I` (R190). -/
abbrev WXI_DUST_I (h : Nat) : Fld := ⟨(0xC4000 + 0xC0 + 0x4 * h) * 32 + 16, 16, 150, .rwl, .coat, 3⟩
/-- `RETRO[h].RETRO_TH` (R190). -/
abbrev RETRO_RETRO_TH (h : Nat) : Fld := ⟨(0xC4000 + 0xE0 + 0x4 * h) * 32 + 0, 16, 20000, .rws, .coat, 3⟩
/-- `RETRO[h].WIN_MAX` (R190). -/
abbrev RETRO_WIN_MAX (h : Nat) : Fld := ⟨(0xC4000 + 0xE0 + 0x4 * h) * 32 + 16, 12, 437, .rws, .coat, 3⟩
/-- `DIRT[h].DIRT_CELL` (R190). -/
abbrev DIRT_DIRT_CELL (h : Nat) : Fld := ⟨(0xC4000 + 0x100 + 0x4 * h) * 32 + 0, 16, 1600, .rws, .coat, 3⟩
/-- `DIRT[h].DIRT_DEGR` (R190). -/
abbrev DIRT_DIRT_DEGR (h : Nat) : Fld := ⟨(0xC4000 + 0x100 + 0x4 * h) * 32 + 16, 16, 4000, .rws, .coat, 3⟩
/-- `DIRTN[h].DIRT_ON` (R190). -/
abbrev DIRTN_DIRT_ON (h : Nat) : Fld := ⟨(0xC4000 + 0x120 + 0x4 * h) * 32 + 0, 10, 100, .rws, .coat, 3⟩
/-- `DIRTN[h].DIRT_OFF` (R190). -/
abbrev DIRTN_DIRT_OFF (h : Nat) : Fld := ⟨(0xC4000 + 0x120 + 0x4 * h) * 32 + 16, 10, 50, .rws, .coat, 3⟩
/-- `POLICY[h].ACT` (R190). -/
abbrev POLICY_ACT (h : Nat) : Fld := ⟨(0xC4000 + 0x140 + 0x4 * h) * 32 + 2, 16, 35136, .rws, .coat, 3⟩
/-- `DIRT_STAT[h].DIRTY` (R190). -/
abbrev DIRT_STAT_DIRTY (h : Nat) : Fld := ⟨(0xC4000 + 0x160 + 0x4 * h) * 32 + 0, 18, 0, .ro, .none, 7⟩
/-- `DIRT_STAT[h].ALARM` (R190). -/
abbrev DIRT_STAT_ALARM (h : Nat) : Fld := ⟨(0xC4000 + 0x160 + 0x4 * h) * 32 + 31, 1, 0, .ro, .none, 7⟩
/-- `DMEAN[h].MEAN` (R190). -/
abbrev DMEAN_MEAN (h : Nat) : Fld := ⟨(0xC4000 + 0x180 + 0x4 * h) * 32 + 0, 16, 0, .ro, .none, 7⟩
/-- `CNT_SEL.CLASS` (R190). -/
abbrev CNT_SEL_CLASS : Fld := ⟨0xC41A0 * 32 + 0, 4, 1, .rw, .imm, 3⟩
/-- `CNT_SEL.HEAD` (R190). -/
abbrev CNT_SEL_HEAD : Fld := ⟨0xC41A0 * 32 + 4, 3, 0, .rw, .imm, 3⟩
/-- `CLS_CNT.COUNT` (R190). -/
abbrev CLS_CNT_COUNT : Fld := ⟨0xC41A4 * 32 + 0, 32, 0, .ro, .none, 3⟩
/-- `REQ_CNT.ISSUED` (R190). -/
abbrev REQ_CNT_ISSUED : Fld := ⟨0xC41A8 * 32 + 0, 16, 0, .ro, .none, 3⟩
/-- `REQ_CNT.UNSERVED` (R190). -/
abbrev REQ_CNT_UNSERVED : Fld := ⟨0xC41A8 * 32 + 16, 16, 0, .ro, .none, 3⟩

/-- Every field of the page that R190 tables. -/
def fields : List Fld :=
  ((List.range 8).flatMap fun h => [PCFG_PERS_TOL h]) ++
  ((List.range 8).flatMap fun h => [PCFG_PERS_MIN h]) ++
  ((List.range 8).flatMap fun h => [PCFG_SUN_CONF h]) ++
  ((List.range 8).flatMap fun h => [PCFG_CHAIN_MIN h]) ++
  ((List.range 8).flatMap fun h => [PCFG_DIRT_ALPHA h]) ++
  ((List.range 8).flatMap fun h => [SHAPE_CAN_W h]) ++
  ((List.range 8).flatMap fun h => [SHAPE_GND_W h]) ++
  ((List.range 8).flatMap fun h => [SHAPE_CHAIN_WMIN h]) ++
  ((List.range 8).flatMap fun h => [CANOPY_CAN_SEP h]) ++
  ((List.range 8).flatMap fun h => [CANOPY_CAN_DEPTH h]) ++
  ((List.range 8).flatMap fun h => [CANOPY_CAN_AGE h]) ++
  ((List.range 8).flatMap fun h => [WX_WX_RANGE h]) ++
  ((List.range 8).flatMap fun h => [WX_RAIN_W h]) ++
  ((List.range 8).flatMap fun h => [WX_DUST_W h]) ++
  ((List.range 8).flatMap fun h => [WXI_RAIN_I h]) ++
  ((List.range 8).flatMap fun h => [WXI_DUST_I h]) ++
  ((List.range 8).flatMap fun h => [RETRO_RETRO_TH h]) ++
  ((List.range 8).flatMap fun h => [RETRO_WIN_MAX h]) ++
  ((List.range 8).flatMap fun h => [DIRT_DIRT_CELL h]) ++
  ((List.range 8).flatMap fun h => [DIRT_DIRT_DEGR h]) ++
  ((List.range 8).flatMap fun h => [DIRTN_DIRT_ON h]) ++
  ((List.range 8).flatMap fun h => [DIRTN_DIRT_OFF h]) ++
  ((List.range 8).flatMap fun h => [POLICY_ACT h]) ++
  ((List.range 8).flatMap fun h => [DIRT_STAT_DIRTY h]) ++
  ((List.range 8).flatMap fun h => [DIRT_STAT_ALARM h]) ++
  ((List.range 8).flatMap fun h => [DMEAN_MEAN h]) ++
  [CNT_SEL_CLASS, CNT_SEL_HEAD, CLS_CNT_COUNT, REQ_CNT_ISSUED, REQ_CNT_UNSERVED]

end MSK

namespace WFL

/-- `GCFG.INJ_MAX` (R216). -/
abbrev GCFG_INJ_MAX (h : Nat) : Fld := ⟨((0xB0000 + 0x1000 * h) + 0x40) * 32 + 0, 3, 2, .rws, .coat, 3⟩
/-- `GCFG.BG_EN` (R216). -/
abbrev GCFG_BG_EN (h : Nat) : Fld := ⟨((0xB0000 + 0x1000 * h) + 0x40) * 32 + 4, 1, 1, .rws, .coat, 3⟩
/-- `GCFG.SRC_EN` (R216). -/
abbrev GCFG_SRC_EN (h : Nat) : Fld := ⟨((0xB0000 + 0x1000 * h) + 0x40) * 32 + 8, 4, 15, .rws, .coat, 3⟩
/-- `CAL_CMD.GO` (R216). -/
abbrev CAL_CMD_GO (h : Nat) : Fld := ⟨((0xB0000 + 0x1000 * h) + 0x44) * 32 + 0, 1, 0, .wo, .tick, 0⟩
/-- `GSTAT.UNCAL` (R216). -/
abbrev GSTAT_UNCAL (h : Nat) : Fld := ⟨((0xB0000 + 0x1000 * h) + 0x48) * 32 + 0, 1, 1, .ro, .none, 7⟩
/-- `GSTAT.CAL_BUSY` (R216). -/
abbrev GSTAT_CAL_BUSY (h : Nat) : Fld := ⟨((0xB0000 + 0x1000 * h) + 0x48) * 32 + 1, 1, 0, .ro, .none, 3⟩
/-- `GSTAT.CAL_PEND` (R216). -/
abbrev GSTAT_CAL_PEND (h : Nat) : Fld := ⟨((0xB0000 + 0x1000 * h) + 0x48) * 32 + 2, 1, 0, .ro, .none, 3⟩
/-- `GSTAT.LANE_FAIL` (R216). -/
abbrev GSTAT_LANE_FAIL (h : Nat) : Fld := ⟨((0xB0000 + 0x1000 * h) + 0x48) * 32 + 8, 8, 0, .ro, .none, 7⟩
/-- `GSTAT.SYNC_CNT` (R216). -/
abbrev GSTAT_SYNC_CNT (h : Nat) : Fld := ⟨((0xB0000 + 0x1000 * h) + 0x48) * 32 + 24, 8, 0, .ro, .none, 3⟩
/-- `LANE_EN.EN` (R216). -/
abbrev LANE_EN_EN (h : Nat) : Fld := ⟨((0xB0000 + 0x1000 * h) + 0x4C) * 32 + 0, 8, 255, .rws, .coat, 3⟩
/-- `SEQ[i].BASE` (R216). -/
abbrev SEQ_BASE (h i : Nat) : Fld := ⟨((0xB0000 + 0x1000 * h) + 0x50 + 0x4 * i) * 32 + 0, 7, (16 * i), .rws, .frame, 3⟩
/-- `SEQ[i].STRIDE` (R216). -/
abbrev SEQ_STRIDE (h i : Nat) : Fld := ⟨((0xB0000 + 0x1000 * h) + 0x50 + 0x4 * i) * 32 + 8, 7, 1, .rws, .frame, 3⟩
/-- `FILT[i].BANK` (R216). -/
abbrev FILT_BANK (h i : Nat) : Fld := ⟨((0xB0000 + 0x1000 * h) + 0x70 + 0x4 * i) * 32 + 0, 3, 1, .rws, .coat, 3⟩
/-- `FILT[i].IN_SHIFT` (R216). -/
abbrev FILT_IN_SHIFT (h i : Nat) : Fld := ⟨((0xB0000 + 0x1000 * h) + 0x70 + 0x4 * i) * 32 + 4, 3, 0, .rws, .coat, 3⟩
/-- `FILT[i].FIR_SHIFT` (R216). -/
abbrev FILT_FIR_SHIFT (h i : Nat) : Fld := ⟨((0xB0000 + 0x1000 * h) + 0x70 + 0x4 * i) * 32 + 8, 5, 17, .rws, .coat, 3⟩
/-- `FILT[i].RS_SHIFT` (R216). -/
abbrev FILT_RS_SHIFT (h i : Nat) : Fld := ⟨((0xB0000 + 0x1000 * h) + 0x70 + 0x4 * i) * 32 + 16, 4, 15, .rws, .coat, 3⟩
/-- `FILT[i].RS_EN` (R216). -/
abbrev FILT_RS_EN (h i : Nat) : Fld := ⟨((0xB0000 + 0x1000 * h) + 0x70 + 0x4 * i) * 32 + 20, 1, 1, .rws, .coat, 3⟩
/-- `HOLD.LANE` (R216). -/
abbrev HOLD_LANE (h : Nat) : Fld := ⟨((0xB0000 + 0x1000 * h) + 0x90) * 32 + 0, 3, 0, .rws, .coat, 3⟩
/-- `HOLD.ROW` (R216). -/
abbrev HOLD_ROW (h : Nat) : Fld := ⟨((0xB0000 + 0x1000 * h) + 0x90) * 32 + 3, 7, 0, .rws, .coat, 3⟩
/-- `HOLD.EN` (R216). -/
abbrev HOLD_EN (h : Nat) : Fld := ⟨((0xB0000 + 0x1000 * h) + 0x90) * 32 + 16, 1, 0, .rws, .coat, 3⟩
/-- `HREQ.ROW` (R216). -/
abbrev HREQ_ROW (h : Nat) : Fld := ⟨((0xB0000 + 0x1000 * h) + 0x94) * 32 + 0, 7, 0, .rw, .imm, 3⟩
/-- `HREQ.COL` (R216). -/
abbrev HREQ_COL (h : Nat) : Fld := ⟨((0xB0000 + 0x1000 * h) + 0x94) * 32 + 7, 10, 0, .rw, .imm, 3⟩
/-- `HREQ.ANYCOL` (R216). -/
abbrev HREQ_ANYCOL (h : Nat) : Fld := ⟨((0xB0000 + 0x1000 * h) + 0x94) * 32 + 17, 1, 0, .rw, .imm, 3⟩
/-- `HREQ.COUNT` (R216). -/
abbrev HREQ_COUNT (h : Nat) : Fld := ⟨((0xB0000 + 0x1000 * h) + 0x94) * 32 + 18, 8, 1, .rw, .imm, 3⟩
/-- `HREQ.BUSY` (R216). -/
abbrev HREQ_BUSY (h : Nat) : Fld := ⟨((0xB0000 + 0x1000 * h) + 0x94) * 32 + 30, 1, 0, .ro, .none, 3⟩
/-- `HREQ.GO` (R216). -/
abbrev HREQ_GO (h : Nat) : Fld := ⟨((0xB0000 + 0x1000 * h) + 0x94) * 32 + 31, 1, 0, .wo, .imm, 0⟩
/-- `INJ_SERVED.COUNT` (R216). -/
abbrev INJ_SERVED_COUNT (h : Nat) : Fld := ⟨((0xB0000 + 0x1000 * h) + 0x98) * 32 + 0, 32, 0, .ro, .none, 3⟩
/-- `INJ_UNSERVED.COUNT` (R216). -/
abbrev INJ_UNSERVED_COUNT (h : Nat) : Fld := ⟨((0xB0000 + 0x1000 * h) + 0x9C) * 32 + 0, 32, 0, .ro, .none, 3⟩
/-- `URG_CNT0.DST` (R216). -/
abbrev URG_CNT0_DST (h : Nat) : Fld := ⟨((0xB0000 + 0x1000 * h) + 0xA0) * 32 + 0, 16, 0, .ro, .none, 3⟩
/-- `URG_CNT0.HOST` (R216). -/
abbrev URG_CNT0_HOST (h : Nat) : Fld := ⟨((0xB0000 + 0x1000 * h) + 0xA0) * 32 + 16, 16, 0, .ro, .none, 3⟩
/-- `URG_CNT1.AMBIG` (R216). -/
abbrev URG_CNT1_AMBIG (h : Nat) : Fld := ⟨((0xB0000 + 0x1000 * h) + 0xA4) * 32 + 0, 16, 0, .ro, .none, 3⟩
/-- `URG_CNT1.CANOPY` (R216). -/
abbrev URG_CNT1_CANOPY (h : Nat) : Fld := ⟨((0xB0000 + 0x1000 * h) + 0xA4) * 32 + 16, 16, 0, .ro, .none, 3⟩
/-- `CUST_CFG[n].TAPS` (R216). -/
abbrev CUST_CFG_TAPS (h n : Nat) : Fld := ⟨((0xB0000 + 0x1000 * h) + 0xA8 + 0x4 * n) * 32 + 0, 9, 0, .rws, .coat, 3⟩
/-- `CUST_CFG[n].DCODE` (R216). -/
abbrev CUST_CFG_DCODE (h n : Nat) : Fld := ⟨((0xB0000 + 0x1000 * h) + 0xA8 + 0x4 * n) * 32 + 9, 3, 0, .rws, .coat, 3⟩
/-- `CUST_CFG[n].GD` (R216). -/
abbrev CUST_CFG_GD (h n : Nat) : Fld := ⟨((0xB0000 + 0x1000 * h) + 0xA8 + 0x4 * n) * 32 + 16, 16, 0, .rws, .coat, 3⟩
/-- `TBL_ADDR.INDEX` (R216). -/
abbrev TBL_ADDR_INDEX (h : Nat) : Fld := ⟨((0xB0000 + 0x1000 * h) + 0xB0) * 32 + 0, 9, 0, .rw, .imm, 3⟩
/-- `TBL_ADDR.LANE` (R216). -/
abbrev TBL_ADDR_LANE (h : Nat) : Fld := ⟨((0xB0000 + 0x1000 * h) + 0xB0) * 32 + 12, 3, 0, .rw, .imm, 3⟩
/-- `TBL_ADDR.SEL` (R216). -/
abbrev TBL_ADDR_SEL (h : Nat) : Fld := ⟨((0xB0000 + 0x1000 * h) + 0xB0) * 32 + 16, 2, 0, .rw, .imm, 3⟩
/-- `TBL_DATA.VALUE` (R216). -/
abbrev TBL_DATA_VALUE (h : Nat) : Fld := ⟨((0xB0000 + 0x1000 * h) + 0xB4) * 32 + 0, 18, 0, .rws, .coat, 3⟩
/-- `MISM_STAT.RESID` (R216). -/
abbrev MISM_STAT_RESID (h : Nat) : Fld := ⟨((0xB0000 + 0x1000 * h) + 0xB8) * 32 + 0, 8, 0, .ro, .none, 3⟩
/-- `MISM_STAT.LANE` (R216). -/
abbrev MISM_STAT_LANE (h : Nat) : Fld := ⟨((0xB0000 + 0x1000 * h) + 0xB8) * 32 + 8, 3, 0, .ro, .none, 3⟩
/-- `PAR_CNT.COUNT` (R216). -/
abbrev PAR_CNT_COUNT (h : Nat) : Fld := ⟨((0xB0000 + 0x1000 * h) + 0xBC) * 32 + 0, 16, 0, .ro, .none, 3⟩

/-- Every field of the page that R216 tables. -/
def fields (h : Nat) : List Fld :=
  [GCFG_INJ_MAX h, GCFG_BG_EN h, GCFG_SRC_EN h, CAL_CMD_GO h, GSTAT_UNCAL h, GSTAT_CAL_BUSY h, GSTAT_CAL_PEND h, GSTAT_LANE_FAIL h, GSTAT_SYNC_CNT h, LANE_EN_EN h] ++
  ((List.range 8).flatMap fun i => [SEQ_BASE h i]) ++
  ((List.range 8).flatMap fun i => [SEQ_STRIDE h i]) ++
  ((List.range 8).flatMap fun i => [FILT_BANK h i]) ++
  ((List.range 8).flatMap fun i => [FILT_IN_SHIFT h i]) ++
  ((List.range 8).flatMap fun i => [FILT_FIR_SHIFT h i]) ++
  ((List.range 8).flatMap fun i => [FILT_RS_SHIFT h i]) ++
  ((List.range 8).flatMap fun i => [FILT_RS_EN h i]) ++
  [HOLD_LANE h, HOLD_ROW h, HOLD_EN h, HREQ_ROW h, HREQ_COL h, HREQ_ANYCOL h, HREQ_COUNT h, HREQ_BUSY h, HREQ_GO h, INJ_SERVED_COUNT h, INJ_UNSERVED_COUNT h, URG_CNT0_DST h, URG_CNT0_HOST h, URG_CNT1_AMBIG h, URG_CNT1_CANOPY h] ++
  ((List.range 2).flatMap fun n => [CUST_CFG_TAPS h n]) ++
  ((List.range 2).flatMap fun n => [CUST_CFG_DCODE h n]) ++
  ((List.range 2).flatMap fun n => [CUST_CFG_GD h n]) ++
  [TBL_ADDR_INDEX h, TBL_ADDR_LANE h, TBL_ADDR_SEL h, TBL_DATA_VALUE h, MISM_STAT_RESID h, MISM_STAT_LANE h, PAR_CNT_COUNT h]

end WFL

namespace LTH

/-- `LATH_BASE.ADDR` (R237). -/
abbrev LATH_BASE_ADDR : Fld := ⟨0xD0040 * 32 + 0, 12, 0, .rws, .frame, 7⟩
/-- `FRESH.HEADS` (R237). -/
abbrev FRESH_HEADS : Fld := ⟨0xD0044 * 32 + 0, 8, 0, .rws, .frame, 7⟩
/-- `SNAP_STAT.FRAME` (R237). -/
abbrev SNAP_STAT_FRAME : Fld := ⟨0xD0048 * 32 + 0, 15, 0, .ro, .none, 7⟩
/-- `SNAP_STAT.HALF` (R237). -/
abbrev SNAP_STAT_HALF : Fld := ⟨0xD0048 * 32 + 16, 1, 0, .ro, .none, 7⟩
/-- `SNAP_STAT.VALID` (R237). -/
abbrev SNAP_STAT_VALID : Fld := ⟨0xD0048 * 32 + 17, 1, 0, .ro, .none, 7⟩
/-- `SNAP_SEQ.SEQ` (R237). -/
abbrev SNAP_SEQ_SEQ : Fld := ⟨0xD004C * 32 + 0, 32, 0, .ro, .none, 7⟩
/-- `ERR_CNT.DDR` (R237). -/
abbrev ERR_CNT_DDR : Fld := ⟨0xD0050 * 32 + 0, 16, 0, .ro, .none, 3⟩
/-- `ERR_CNT.SRAM` (R237). -/
abbrev ERR_CNT_SRAM : Fld := ⟨0xD0050 * 32 + 16, 16, 0, .ro, .none, 3⟩
/-- `FRESH_CNT.COUNT` (R237). -/
abbrev FRESH_CNT_COUNT : Fld := ⟨0xD0054 * 32 + 0, 32, 0, .ro, .none, 3⟩
/-- `LAST_ERR.CELL` (R237). -/
abbrev LAST_ERR_CELL : Fld := ⟨0xD0058 * 32 + 0, 20, 0, .ro, .none, 3⟩
/-- `LAST_ERR.KIND` (R237). -/
abbrev LAST_ERR_KIND : Fld := ⟨0xD0058 * 32 + 20, 4, 0, .ro, .none, 3⟩
/-- `LAST_ERR.NEW` (R237). -/
abbrev LAST_ERR_NEW : Fld := ⟨0xD0058 * 32 + 31, 1, 0, .w1c, .imm, 3⟩
/-- `LATE_CNT.PREFETCH` (R237). -/
abbrev LATE_CNT_PREFETCH : Fld := ⟨0xD005C * 32 + 0, 16, 0, .ro, .none, 3⟩
/-- `LATE_CNT.WRITEBACK` (R237). -/
abbrev LATE_CNT_WRITEBACK : Fld := ⟨0xD005C * 32 + 16, 16, 0, .ro, .none, 3⟩
/-- `REG_VIOL.COUNT` (R237). -/
abbrev REG_VIOL_COUNT : Fld := ⟨0xD0060 * 32 + 0, 16, 0, .ro, .none, 3⟩
/-- `REG_VIOL.REGION` (R237). -/
abbrev REG_VIOL_REGION : Fld := ⟨0xD0060 * 32 + 16, 3, 0, .ro, .none, 3⟩
/-- `REG_VIOL.ENGINE` (R237). -/
abbrev REG_VIOL_ENGINE : Fld := ⟨0xD0060 * 32 + 20, 4, 0, .ro, .none, 3⟩
/-- `MEM_SIZE.MIB` (R237). -/
abbrev MEM_SIZE_MIB : Fld := ⟨0xD0064 * 32 + 0, 20, 0, .ro, .none, 7⟩
/-- `MEM_SIZE.FAILED` (R237). -/
abbrev MEM_SIZE_FAILED : Fld := ⟨0xD0064 * 32 + 20, 4, 0, .ro, .none, 7⟩
/-- `REG_BASE[n].ADDR` (R237). -/
abbrev REG_BASE_ADDR (n : Nat) : Fld := ⟨(0xD0000 + 0x80 + 0x8 * (n - 1)) * 32 + 0, 20, 0, .rws, .frame, 7⟩
/-- `REG_SIZE[n].MIB` (R237). -/
abbrev REG_SIZE_MIB (n : Nat) : Fld := ⟨(0xD0000 + 0x84 + 0x8 * (n - 1)) * 32 + 0, 20, 0, .rws, .frame, 7⟩

/-- Every field of the page that R237 tables. -/
def fields : List Fld :=
  [LATH_BASE_ADDR, FRESH_HEADS, SNAP_STAT_FRAME, SNAP_STAT_HALF, SNAP_STAT_VALID, SNAP_SEQ_SEQ, ERR_CNT_DDR, ERR_CNT_SRAM, FRESH_CNT_COUNT, LAST_ERR_CELL, LAST_ERR_KIND, LAST_ERR_NEW, LATE_CNT_PREFETCH, LATE_CNT_WRITEBACK, REG_VIOL_COUNT, REG_VIOL_REGION, REG_VIOL_ENGINE, MEM_SIZE_MIB, MEM_SIZE_FAILED] ++
  (((List.range 5).map (· + 1)).flatMap fun n => [REG_BASE_ADDR n]) ++
  (((List.range 5).map (· + 1)).flatMap fun n => [REG_SIZE_MIB n])

end LTH

namespace MEM

/-- `MCFG.SPEED_LIM` (R238). -/
abbrev MCFG_SPEED_LIM (c : Nat) : Fld := ⟨((0xE0000 + 0x1000 * c) + 0x40) * 32 + 0, 2, 2, .rws, .imm, 7⟩
/-- `MCFG.FULL_TRAIN` (R238). -/
abbrev MCFG_FULL_TRAIN (c : Nat) : Fld := ⟨((0xE0000 + 0x1000 * c) + 0x40) * 32 + 4, 1, 0, .rws, .imm, 7⟩
/-- `STAT.TRAINED` (R238). -/
abbrev STAT_TRAINED (c : Nat) : Fld := ⟨((0xE0000 + 0x1000 * c) + 0x44) * 32 + 0, 1, 0, .ro, .none, 7⟩
/-- `STAT.FAILED` (R238). -/
abbrev STAT_FAILED (c : Nat) : Fld := ⟨((0xE0000 + 0x1000 * c) + 0x44) * 32 + 1, 1, 0, .ro, .none, 7⟩
/-- `STAT.STORED` (R238). -/
abbrev STAT_STORED (c : Nat) : Fld := ⟨((0xE0000 + 0x1000 * c) + 0x44) * 32 + 2, 1, 0, .ro, .none, 7⟩
/-- `STAT.DIMMS` (R238). -/
abbrev STAT_DIMMS (c : Nat) : Fld := ⟨((0xE0000 + 0x1000 * c) + 0x44) * 32 + 3, 2, 0, .ro, .none, 7⟩
/-- `STAT.RANKS` (R238). -/
abbrev STAT_RANKS (c : Nat) : Fld := ⟨((0xE0000 + 0x1000 * c) + 0x44) * 32 + 5, 2, 0, .ro, .none, 7⟩
/-- `STAT.SPEED` (R238). -/
abbrev STAT_SPEED (c : Nat) : Fld := ⟨((0xE0000 + 0x1000 * c) + 0x44) * 32 + 7, 2, 0, .ro, .none, 7⟩
/-- `STAT.DIMM_GIB` (R238). -/
abbrev STAT_DIMM_GIB (c : Nat) : Fld := ⟨((0xE0000 + 0x1000 * c) + 0x44) * 32 + 16, 8, 0, .ro, .none, 7⟩
/-- `ERR.PARITY` (R238). -/
abbrev ERR_PARITY (c : Nat) : Fld := ⟨((0xE0000 + 0x1000 * c) + 0x48) * 32 + 0, 16, 0, .ro, .none, 3⟩
/-- `ERR.TAG` (R238). -/
abbrev ERR_TAG (c : Nat) : Fld := ⟨((0xE0000 + 0x1000 * c) + 0x48) * 32 + 16, 16, 0, .ro, .none, 3⟩
/-- `DTEMP.TEMP` (R238). -/
abbrev DTEMP_TEMP (c : Nat) : Fld := ⟨((0xE0000 + 0x1000 * c) + 0x4C) * 32 + 0, 8, 0, .ro, .none, 7⟩
/-- `DTEMP.REF2X` (R238). -/
abbrev DTEMP_REF2X (c : Nat) : Fld := ⟨((0xE0000 + 0x1000 * c) + 0x4C) * 32 + 8, 1, 0, .ro, .none, 7⟩
/-- `HOSTBW.BURSTS` (R238). -/
abbrev HOSTBW_BURSTS (c : Nat) : Fld := ⟨((0xE0000 + 0x1000 * c) + 0x50) * 32 + 0, 32, 0, .ro, .none, 3⟩

/-- Every field of the page that R238 tables. -/
def fields (c : Nat) : List Fld :=
  [MCFG_SPEED_LIM c, MCFG_FULL_TRAIN c, STAT_TRAINED c, STAT_FAILED c, STAT_STORED c, STAT_DIMMS c, STAT_RANKS c, STAT_SPEED c, STAT_DIMM_GIB c, ERR_PARITY c, ERR_TAG c, DTEMP_TEMP c, DTEMP_REF2X c, HOSTBW_BURSTS c]

end MEM

namespace HKP

/-- `RTD_EN.EN` (R259). -/
abbrev RTD_EN_EN : Fld := ⟨0x50040 * 32 + 0, 12, 255, .rws, .tick, 3⟩
/-- Bits 12 to 31 of `RTD_EN`, which a commit may not carry set; they read 0 (R6, R261). -/
abbrev RTD_EN_UPPER : Fld := ⟨0x50040 * 32 + 12, 20, 0, .wos, .tick, 3⟩
/-- `RTD_MODE.FOUR_WIRE` (R259). -/
abbrev RTD_MODE_FOUR_WIRE : Fld := ⟨0x50044 * 32 + 0, 12, 0, .rws, .tick, 3⟩
/-- `PKCFG.OPEN_MIN` (R259). -/
abbrev PKCFG_OPEN_MIN : Fld := ⟨0x50048 * 32 + 0, 15, 1024, .rws, .tick, 3⟩
/-- `HSTAT.ROUND_POS` (R259). -/
abbrev HSTAT_ROUND_POS : Fld := ⟨0x5004C * 32 + 0, 4, 0, .ro, .none, 3⟩
/-- `HSTAT.RTD_NEXT` (R259). -/
abbrev HSTAT_RTD_NEXT : Fld := ⟨0x5004C * 32 + 4, 4, 0, .ro, .none, 7⟩
/-- `HSTAT.REF_FAIL` (R259). -/
abbrev HSTAT_REF_FAIL : Fld := ⟨0x5004C * 32 + 8, 1, 0, .ro, .none, 7⟩
/-- `HSTAT.OPEN_CNT` (R259). -/
abbrev HSTAT_OPEN_CNT : Fld := ⟨0x5004C * 32 + 16, 16, 0, .ro, .none, 3⟩
/-- `RES[i].RESULT` (R259). -/
abbrev RES_RESULT (i : Nat) : Fld := ⟨(0x50000 + 0x100 + 0x4 * i) * 32 + 0, 32, 0, .ro, .none, 7⟩
/-- `RTD_T[n].TEMP` (R259). -/
abbrev RTD_T_TEMP (n : Nat) : Fld := ⟨(0x50000 + 0x200 + 0x4 * n) * 32 + 0, 16, 0, .ro, .none, 7⟩
/-- `RTD_T[n].VALID` (R259). -/
abbrev RTD_T_VALID (n : Nat) : Fld := ⟨(0x50000 + 0x200 + 0x4 * n) * 32 + 16, 1, 0, .ro, .none, 7⟩

/-- Every field of the page that R259 tables. -/
def fields : List Fld :=
  [RTD_EN_EN, RTD_EN_UPPER, RTD_MODE_FOUR_WIRE, PKCFG_OPEN_MIN, HSTAT_ROUND_POS, HSTAT_RTD_NEXT, HSTAT_REF_FAIL, HSTAT_OPEN_CNT] ++
  ((List.range 64).flatMap fun i => [RES_RESULT i]) ++
  ((List.range 12).flatMap fun n => [RTD_T_TEMP n]) ++
  ((List.range 12).flatMap fun n => [RTD_T_VALID n])

end HKP

namespace THM

/-- `TH_A.WARN` (R260). -/
abbrev TH_A_WARN : Fld := ⟨0x51040 * 32 + 0, 8, 135, .rws, .imm, 3⟩
/-- `TH_A.STEP1` (R260). -/
abbrev TH_A_STEP1 : Fld := ⟨0x51040 * 32 + 8, 8, 140, .rws, .imm, 3⟩
/-- `TH_B.STEP2` (R260). -/
abbrev TH_B_STEP2 : Fld := ⟨0x51044 * 32 + 0, 8, 144, .rws, .imm, 3⟩
/-- `TH_B.STEP3` (R260). -/
abbrev TH_B_STEP3 : Fld := ⟨0x51044 * 32 + 8, 8, 147, .rws, .imm, 3⟩
/-- `TCFG.FORCE_STEP` (R260). -/
abbrev TCFG_FORCE_STEP : Fld := ⟨0x51048 * 32 + 0, 2, 0, .rws, .imm, 3⟩
/-- `TSTAT.LEVEL` (R260). -/
abbrev TSTAT_LEVEL : Fld := ⟨0x5104C * 32 + 0, 3, 0, .ro, .none, 7⟩
/-- `TSTAT.STEP` (R260). -/
abbrev TSTAT_STEP : Fld := ⟨0x5104C * 32 + 4, 2, 0, .ro, .none, 7⟩
/-- `TSTAT.SENSE_FAIL` (R260). -/
abbrev TSTAT_SENSE_FAIL : Fld := ⟨0x5104C * 32 + 6, 1, 0, .ro, .none, 7⟩
/-- `TSTAT.UP` (R260). -/
abbrev TSTAT_UP : Fld := ⟨0x5104C * 32 + 8, 3, 0, .ro, .none, 7⟩
/-- `TSTAT.DN` (R260). -/
abbrev TSTAT_DN : Fld := ⟨0x5104C * 32 + 11, 3, 0, .ro, .none, 7⟩
/-- `TSTAT.TMAX` (R260). -/
abbrev TSTAT_TMAX : Fld := ⟨0x5104C * 32 + 16, 16, 0, .ro, .none, 7⟩
/-- `SFAIL.MASK` (R260). -/
abbrev SFAIL_MASK : Fld := ⟨0x51050 * 32 + 0, 16, 0, .ro, .none, 7⟩
/-- `LATCH_INFO.TEMP` (R260). -/
abbrev LATCH_INFO_TEMP : Fld := ⟨0x51054 * 32 + 0, 16, 0, .ro, .none, 15⟩
/-- `LATCH_INFO.SENSOR` (R260). -/
abbrev LATCH_INFO_SENSOR : Fld := ⟨0x51054 * 32 + 16, 4, 0, .ro, .none, 15⟩
/-- `LATCH_INFO.FLASH_HELD` (R260). -/
abbrev LATCH_INFO_FLASH_HELD : Fld := ⟨0x51054 * 32 + 20, 1, 0, .ro, .none, 15⟩
/-- `LATCH_INFO.HOLD_TIMEOUT` (R260). -/
abbrev LATCH_INFO_HOLD_TIMEOUT : Fld := ⟨0x51054 * 32 + 21, 1, 0, .ro, .none, 15⟩
/-- `LATCH_INFO.LATCHED` (R260). -/
abbrev LATCH_INFO_LATCHED : Fld := ⟨0x51054 * 32 + 31, 1, 0, .ro, .none, 15⟩
/-- `SENS[s].TEMP` (R260). -/
abbrev SENS_TEMP (s : Nat) : Fld := ⟨(0x51000 + 0x80 + 0x4 * s) * 32 + 0, 16, 0, .ro, .none, 7⟩
/-- `SENS[s].VALID` (R260). -/
abbrev SENS_VALID (s : Nat) : Fld := ⟨(0x51000 + 0x80 + 0x4 * s) * 32 + 16, 1, 0, .ro, .none, 7⟩
/-- `SENS[s].FAILED` (R260). -/
abbrev SENS_FAILED (s : Nat) : Fld := ⟨(0x51000 + 0x80 + 0x4 * s) * 32 + 17, 1, 0, .ro, .none, 7⟩

/-- Every field of the page that R260 tables. -/
def fields : List Fld :=
  [TH_A_WARN, TH_A_STEP1, TH_B_STEP2, TH_B_STEP3, TCFG_FORCE_STEP, TSTAT_LEVEL, TSTAT_STEP, TSTAT_SENSE_FAIL, TSTAT_UP, TSTAT_DN, TSTAT_TMAX, SFAIL_MASK, LATCH_INFO_TEMP, LATCH_INFO_SENSOR, LATCH_INFO_FLASH_HELD, LATCH_INFO_HOLD_TIMEOUT, LATCH_INFO_LATCHED] ++
  ((List.range 16).flatMap fun s => [SENS_TEMP s]) ++
  ((List.range 16).flatMap fun s => [SENS_VALID s]) ++
  ((List.range 16).flatMap fun s => [SENS_FAILED s])

end THM

namespace CAL

/-- `MODE.AUTO_EN` (R277). -/
abbrev MODE_AUTO_EN : Fld := ⟨0x150040 * 32 + 0, 1, 1, .rws, .imm, 3⟩
/-- `MODE.REPEAT` (R277). -/
abbrev MODE_REPEAT : Fld := ⟨0x150040 * 32 + 1, 1, 0, .rws, .frame, 3⟩
/-- `MODE.KIND_EN` (R277). -/
abbrev MODE_KIND_EN : Fld := ⟨0x150040 * 32 + 2, 4, 15, .rws, .imm, 3⟩
/-- `TEMP_CFG.DELTA_T` (R277). -/
abbrev TEMP_CFG_DELTA_T : Fld := ⟨0x150044 * 32 + 0, 5, 4, .rws, .imm, 3⟩
/-- `TEMP_CFG.STALE_DT` (R277). -/
abbrev TEMP_CFG_STALE_DT : Fld := ⟨0x150044 * 32 + 8, 6, 8, .rws, .imm, 3⟩
/-- `AGE_LIM.SEC` (R277). -/
abbrev AGE_LIM_SEC : Fld := ⟨0x150048 * 32 + 0, 16, 3600, .rws, .imm, 3⟩
/-- `CMD.HEADS` (R277). -/
abbrev CMD_HEADS : Fld := ⟨0x15004C * 32 + 0, 8, 0, .wo, .imm, 0⟩
/-- `CMD.KINDS` (R277). -/
abbrev CMD_KINDS : Fld := ⟨0x15004C * 32 + 8, 4, 0, .wo, .imm, 0⟩
/-- `CMD.GO` (R277). -/
abbrev CMD_GO : Fld := ⟨0x15004C * 32 + 31, 1, 0, .wo, .imm, 0⟩
/-- `PEND.KINDS` (R277). -/
abbrev PEND_KINDS : Fld := ⟨0x150050 * 32 + 0, 32, 0, .ro, .none, 3⟩
/-- `BUSY.KINDS` (R277). -/
abbrev BUSY_KINDS : Fld := ⟨0x150054 * 32 + 0, 32, 0, .ro, .none, 3⟩
/-- `LIM_TDC.BIN_MIN` (R277). -/
abbrev LIM_TDC_BIN_MIN : Fld := ⟨0x150058 * 32 + 0, 8, 10, .rws, .imm, 3⟩
/-- `LIM_TDC.BIN_MAX` (R277). -/
abbrev LIM_TDC_BIN_MAX : Fld := ⟨0x150058 * 32 + 8, 8, 140, .rws, .imm, 3⟩
/-- `LIM_TDC.FT_STEP` (R277). -/
abbrev LIM_TDC_FT_STEP : Fld := ⟨0x150058 * 32 + 16, 16, 63, .rws, .imm, 3⟩
/-- `LIM_RFE.OFS_STEP` (R277). -/
abbrev LIM_RFE_OFS_STEP : Fld := ⟨0x15005C * 32 + 0, 8, 16, .rws, .imm, 3⟩
/-- `LIM_RFE.BASE_STEP` (R277). -/
abbrev LIM_RFE_BASE_STEP : Fld := ⟨0x15005C * 32 + 8, 8, 8, .rws, .imm, 3⟩
/-- `LIM_SKEW.SKEW_STEP` (R277). -/
abbrev LIM_SKEW_SKEW_STEP : Fld := ⟨0x150060 * 32 + 0, 16, 7, .rws, .imm, 3⟩
/-- `LIM_SKEW.SKEW_MAX` (R277). -/
abbrev LIM_SKEW_SKEW_MAX : Fld := ⟨0x150060 * 32 + 16, 16, 128, .rws, .imm, 3⟩
/-- `REP_TOL.TDC` (R277). -/
abbrev REP_TOL_TDC : Fld := ⟨0x150064 * 32 + 0, 8, 16, .rws, .imm, 3⟩
/-- `REP_TOL.RFE` (R277). -/
abbrev REP_TOL_RFE : Fld := ⟨0x150064 * 32 + 8, 8, 4, .rws, .imm, 3⟩
/-- `REP_TOL.SKEW` (R277). -/
abbrev REP_TOL_SKEW : Fld := ⟨0x150064 * 32 + 16, 8, 2, .rws, .imm, 3⟩
/-- `DEV_OFS.OFS` (R277). -/
abbrev DEV_OFS_OFS : Fld := ⟨0x150068 * 32 + 0, 20, 0, .rws, .imm, 15⟩
/-- `STORE.GO` (R277). -/
abbrev STORE_GO : Fld := ⟨0x15006C * 32 + 0, 1, 0, .wo, .imm, 0⟩
/-- `STORE.BUSY` (R277). -/
abbrev STORE_BUSY : Fld := ⟨0x15006C * 32 + 1, 1, 0, .ro, .none, 3⟩
/-- `STORE.CODE` (R277). -/
abbrev STORE_CODE : Fld := ⟨0x15006C * 32 + 8, 8, 0, .ro, .none, 3⟩
/-- `QUAL[h].TDC_RES` (R277). -/
abbrev QUAL_TDC_RES (h : Nat) : Fld := ⟨(0x150000 + 0x70 + 0x4 * h) * 32 + 0, 12, 0, .ro, .none, 7⟩
/-- `QUAL[h].WFL_RES` (R277). -/
abbrev QUAL_WFL_RES (h : Nat) : Fld := ⟨(0x150000 + 0x70 + 0x4 * h) * 32 + 12, 8, 0, .ro, .none, 7⟩
/-- `QUAL[h].SKEW_RES` (R277). -/
abbrev QUAL_SKEW_RES (h : Nat) : Fld := ⟨(0x150000 + 0x70 + 0x4 * h) * 32 + 20, 8, 0, .ro, .none, 7⟩
/-- `HSTAT[h].CAL_GEN` (R277). -/
abbrev HSTAT_CAL_GEN (h : Nat) : Fld := ⟨(0x150000 + 0x90 + 0x4 * h) * 32 + 0, 16, 0, .ro, .none, 7⟩
/-- `HSTAT[h].LAST_RESULT` (R277). -/
abbrev HSTAT_LAST_RESULT (h : Nat) : Fld := ⟨(0x150000 + 0x90 + 0x4 * h) * 32 + 16, 3, 0, .ro, .none, 3⟩
/-- `HSTAT[h].LAST_KIND` (R277). -/
abbrev HSTAT_LAST_KIND (h : Nat) : Fld := ⟨(0x150000 + 0x90 + 0x4 * h) * 32 + 20, 2, 0, .ro, .none, 3⟩
/-- `HSTAT[h].STALE_ROWS` (R277). -/
abbrev HSTAT_STALE_ROWS (h : Nat) : Fld := ⟨(0x150000 + 0x90 + 0x4 * h) * 32 + 24, 8, 0, .ro, .none, 3⟩
/-- `TBL_ADDR.ROW` (R277). -/
abbrev TBL_ADDR_ROW : Fld := ⟨0x1500B0 * 32 + 0, 7, 0, .rw, .imm, 3⟩
/-- `TBL_ADDR.HEAD` (R277). -/
abbrev TBL_ADDR_HEAD : Fld := ⟨0x1500B0 * 32 + 8, 3, 0, .rw, .imm, 3⟩
/-- `TBL_DATA.ROFS` (R277). -/
abbrev TBL_DATA_ROFS : Fld := ⟨0x1500B4 * 32 + 0, 20, 0, .rws, .coat, 15⟩
/-- `FAULT_STAT.PARITY` (R277). -/
abbrev FAULT_STAT_PARITY : Fld := ⟨0x1500B8 * 32 + 0, 16, 0, .ro, .none, 3⟩
/-- `FAULT_STAT.HALTED` (R277). -/
abbrev FAULT_STAT_HALTED : Fld := ⟨0x1500B8 * 32 + 31, 1, 0, .ro, .none, 7⟩

/-- Every field of the page that R277 tables. -/
def fields : List Fld :=
  [ MODE_AUTO_EN, MODE_REPEAT, MODE_KIND_EN, TEMP_CFG_DELTA_T, TEMP_CFG_STALE_DT, AGE_LIM_SEC, CMD_HEADS, CMD_KINDS, CMD_GO, PEND_KINDS, BUSY_KINDS, LIM_TDC_BIN_MIN, LIM_TDC_BIN_MAX, LIM_TDC_FT_STEP, LIM_RFE_OFS_STEP, LIM_RFE_BASE_STEP, LIM_SKEW_SKEW_STEP, LIM_SKEW_SKEW_MAX, REP_TOL_TDC, REP_TOL_RFE, REP_TOL_SKEW, DEV_OFS_OFS, STORE_GO, STORE_BUSY, STORE_CODE] ++
  ((List.range 8).flatMap fun h => [QUAL_TDC_RES h]) ++
  ((List.range 8).flatMap fun h => [QUAL_WFL_RES h]) ++
  ((List.range 8).flatMap fun h => [QUAL_SKEW_RES h]) ++
  ((List.range 8).flatMap fun h => [HSTAT_CAL_GEN h]) ++
  ((List.range 8).flatMap fun h => [HSTAT_LAST_RESULT h]) ++
  ((List.range 8).flatMap fun h => [HSTAT_LAST_KIND h]) ++
  ((List.range 8).flatMap fun h => [HSTAT_STALE_ROWS h]) ++
  [TBL_ADDR_ROW, TBL_ADDR_HEAD, TBL_DATA_ROFS, FAULT_STAT_PARITY, FAULT_STAT_HALTED]

end CAL

namespace SAF

/-- `MODE.CONFIG` (R309). -/
abbrev MODE_CONFIG : Fld := ⟨0x60040 * 32 + 0, 1, 0, .wo, .imm, 0⟩
/-- `MODE.STORE` (R309). -/
abbrev MODE_STORE : Fld := ⟨0x60040 * 32 + 8, 1, 0, .wo, .imm, 0⟩
/-- `MODE.STORE_BUSY` (R309). -/
abbrev MODE_STORE_BUSY : Fld := ⟨0x60040 * 32 + 9, 1, 0, .ro, .none, 7⟩
/-- `MODE.STORE_CODE` (R309). -/
abbrev MODE_STORE_CODE : Fld := ⟨0x60040 * 32 + 16, 8, 0, .ro, .none, 7⟩
/-- `STAT.STATE` (R309). -/
abbrev STAT_STATE : Fld := ⟨0x60044 * 32 + 0, 3, 0, .ro, .none, 7⟩
/-- `STAT.OSSD1_ON` (R309). -/
abbrev STAT_OSSD1_ON : Fld := ⟨0x60044 * 32 + 3, 1, 0, .ro, .none, 7⟩
/-- `STAT.OSSD2_ON` (R309). -/
abbrev STAT_OSSD2_ON : Fld := ⟨0x60044 * 32 + 4, 1, 0, .ro, .none, 7⟩
/-- `STAT.PF_DEM` (R309). -/
abbrev STAT_PF_DEM : Fld := ⟨0x60044 * 32 + 5, 1, 0, .ro, .none, 7⟩
/-- `STAT.WF_DEM` (R309). -/
abbrev STAT_WF_DEM : Fld := ⟨0x60044 * 32 + 6, 1, 0, .ro, .none, 7⟩
/-- `STAT.RESTART_REQ` (R309). -/
abbrev STAT_RESTART_REQ : Fld := ⟨0x60044 * 32 + 7, 1, 1, .ro, .none, 7⟩
/-- `STAT.FSET` (R309). -/
abbrev STAT_FSET : Fld := ⟨0x60044 * 32 + 8, 3, 0, .ro, .none, 7⟩
/-- `STAT.SEL_INVALID` (R309). -/
abbrev STAT_SEL_INVALID : Fld := ⟨0x60044 * 32 + 11, 1, 0, .ro, .none, 7⟩
/-- `STAT.MEAS_STOP` (R309). -/
abbrev STAT_MEAS_STOP : Fld := ⟨0x60044 * 32 + 12, 1, 0, .ro, .none, 7⟩
/-- `STAT.COATS` (R309). -/
abbrev STAT_COATS : Fld := ⟨0x60044 * 32 + 16, 16, 0, .ro, .none, 7⟩
/-- `FAULT.DISC` (R309). -/
abbrev FAULT_DISC : Fld := ⟨0x60048 * 32 + 0, 4, 0, .ro, .none, 7⟩
/-- `FAULT.OSSD` (R309). -/
abbrev FAULT_OSSD : Fld := ⟨0x60048 * 32 + 4, 2, 0, .ro, .none, 7⟩
/-- `FAULT.EMIT` (R309). -/
abbrev FAULT_EMIT : Fld := ⟨0x60048 * 32 + 6, 1, 0, .ro, .none, 7⟩
/-- `FAULT.CONN` (R309). -/
abbrev FAULT_CONN : Fld := ⟨0x60048 * 32 + 7, 1, 0, .ro, .none, 7⟩
/-- `FAULT.CROSS` (R309). -/
abbrev FAULT_CROSS : Fld := ⟨0x60048 * 32 + 8, 1, 0, .ro, .none, 7⟩
/-- `FAULT.CLOCK` (R309). -/
abbrev FAULT_CLOCK : Fld := ⟨0x60048 * 32 + 9, 1, 0, .ro, .none, 7⟩
/-- `FAULT.SELFTEST` (R309). -/
abbrev FAULT_SELFTEST : Fld := ⟨0x60048 * 32 + 10, 1, 0, .ro, .none, 7⟩
/-- `FAULT.TABLE` (R309). -/
abbrev FAULT_TABLE : Fld := ⟨0x60048 * 32 + 11, 1, 0, .ro, .none, 7⟩
/-- `SCID_A.SCID` (R309). -/
abbrev SCID_A_SCID : Fld := ⟨0x6004C * 32 + 0, 32, 0, .ro, .none, 7⟩
/-- `SCID_B.SCID` (R309). -/
abbrev SCID_B_SCID : Fld := ⟨0x60050 * 32 + 0, 32, 0, .ro, .none, 7⟩
/-- `CONFIRM.SCID` (R309). -/
abbrev CONFIRM_SCID : Fld := ⟨0x60054 * 32 + 0, 32, 0, .wo, .imm, 0⟩
/-- `FLOAD.GO` (R309). -/
abbrev FLOAD_GO : Fld := ⟨0x60058 * 32 + 0, 1, 0, .wo, .imm, 0⟩
/-- `FLOAD.FLASH` (R309). -/
abbrev FLOAD_FLASH : Fld := ⟨0x60058 * 32 + 1, 1, 0, .wo, .imm, 0⟩
/-- `FLOAD.BUSY` (R309). -/
abbrev FLOAD_BUSY : Fld := ⟨0x60058 * 32 + 2, 1, 0, .ro, .none, 7⟩
/-- `FLOAD.CODE` (R309). -/
abbrev FLOAD_CODE : Fld := ⟨0x60058 * 32 + 8, 8, 0, .ro, .none, 7⟩
/-- `FL_ADDR.ADDR` (R309). -/
abbrev FL_ADDR_ADDR : Fld := ⟨0x6005C * 32 + 0, 28, 0, .rw, .imm, 7⟩
/-- `SEL.SRC` (R309). -/
abbrev SEL_SRC : Fld := ⟨0x60060 * 32 + 0, 1, 0, .rwl, .imm, 7⟩
/-- `SEL.CONN` (R309). -/
abbrev SEL_CONN : Fld := ⟨0x60060 * 32 + 1, 4, 0, .rwl, .imm, 7⟩
/-- `EVAL.N` (R309). -/
abbrev EVAL_N : Fld := ⟨0x60064 * 32 + 0, 3, 2, .rwl, .imm, 7⟩
/-- `EVAL.CLR_COATS` (R309). -/
abbrev EVAL_CLR_COATS : Fld := ⟨0x60064 * 32 + 4, 4, 2, .rwl, .imm, 7⟩
/-- `EVAL.DIV_COATS` (R309). -/
abbrev EVAL_DIV_COATS : Fld := ⟨0x60064 * 32 + 8, 4, 8, .rwl, .imm, 7⟩
/-- `OSSD_CFG.AUTO1` (R309). -/
abbrev OSSD_CFG_AUTO1 : Fld := ⟨0x60068 * 32 + 0, 1, 0, .rwl, .imm, 7⟩
/-- `OSSD_CFG.AUTO2` (R309). -/
abbrev OSSD_CFG_AUTO2 : Fld := ⟨0x60068 * 32 + 1, 1, 0, .rwl, .imm, 7⟩
/-- `OSSD_CFG.OSSD2_SRC` (R309). -/
abbrev OSSD_CFG_OSSD2_SRC : Fld := ⟨0x60068 * 32 + 2, 1, 1, .rwl, .imm, 7⟩
/-- `OSSD_CFG.OSSD2_EN` (R309). -/
abbrev OSSD_CFG_OSSD2_EN : Fld := ⟨0x60068 * 32 + 3, 1, 0, .rwl, .imm, 7⟩
/-- `OSSD_CFG.START_AUTO` (R309). -/
abbrev OSSD_CFG_START_AUTO : Fld := ⟨0x60068 * 32 + 4, 1, 0, .rwl, .imm, 7⟩
/-- `DIAG_ACT.DIRT` (R309). -/
abbrev DIAG_ACT_DIRT : Fld := ⟨0x6006C * 32 + 0, 2, 1, .rwl, .imm, 7⟩
/-- `DIAG_ACT.DISP` (R309). -/
abbrev DIAG_ACT_DISP : Fld := ⟨0x6006C * 32 + 2, 2, 1, .rwl, .imm, 7⟩
/-- `DIAG_ACT.ESTOP_EMIT` (R309). -/
abbrev DIAG_ACT_ESTOP_EMIT : Fld := ⟨0x6006C * 32 + 4, 1, 1, .rwl, .imm, 7⟩
/-- `EMIT.REQ` (R309). -/
abbrev EMIT_REQ : Fld := ⟨0x60070 * 32 + 0, 1, 0, .rw, .imm, 7⟩
/-- `EMIT.HS_EN` (R309). -/
abbrev EMIT_HS_EN : Fld := ⟨0x60070 * 32 + 8, 1, 0, .ro, .none, 7⟩
/-- `EMIT.LS_EN` (R309). -/
abbrev EMIT_LS_EN : Fld := ⟨0x60070 * 32 + 9, 1, 0, .ro, .none, 7⟩
/-- `EMIT.HS_RB` (R309). -/
abbrev EMIT_HS_RB : Fld := ⟨0x60070 * 32 + 10, 1, 0, .ro, .none, 7⟩
/-- `EMIT.LS_RB` (R309). -/
abbrev EMIT_LS_RB : Fld := ⟨0x60070 * 32 + 11, 1, 0, .ro, .none, 7⟩
/-- `INSTAT.STATE` (R309). -/
abbrev INSTAT_STATE : Fld := ⟨0x60074 * 32 + 0, 16, 0, .ro, .none, 7⟩
/-- `VERDICT.PF_A` (R309). -/
abbrev VERDICT_PF_A : Fld := ⟨0x60078 * 32 + 0, 8, 0, .ro, .none, 7⟩
/-- `VERDICT.PF_B` (R309). -/
abbrev VERDICT_PF_B : Fld := ⟨0x60078 * 32 + 8, 8, 0, .ro, .none, 7⟩
/-- `VERDICT.UNMON` (R309). -/
abbrev VERDICT_UNMON : Fld := ⟨0x60078 * 32 + 16, 8, 0, .ro, .none, 7⟩
/-- `VERDICT.WF_A` (R309). -/
abbrev VERDICT_WF_A : Fld := ⟨0x60078 * 32 + 24, 8, 0, .ro, .none, 7⟩
/-- `INCFG[n].FUNC` (R309). -/
abbrev INCFG_FUNC (n : Nat) : Fld := ⟨(0x60000 + 0x80 + 0x4 * n) * 32 + 0, 3, 0, .rwl, .imm, 7⟩
/-- `INCFG[n].ANTIVAL` (R309). -/
abbrev INCFG_ANTIVAL (n : Nat) : Fld := ⟨(0x60000 + 0x80 + 0x4 * n) * 32 + 3, 1, 0, .rwl, .imm, 7⟩
/-- `INCFG[n].DISC_TIME` (R309). -/
abbrev INCFG_DISC_TIME (n : Nat) : Fld := ⟨(0x60000 + 0x80 + 0x4 * n) * 32 + 8, 10, 50, .rwl, .imm, 7⟩
/-- `FSET[s].EN` (R309). -/
abbrev FSET_EN (s : Nat) : Fld := ⟨(0x60000 + 0x90 + 0x4 * s) * 32 + 0, 1, 0, .ro, .none, 7⟩
/-- `FSET[s].FIELD_CNT` (R309). -/
abbrev FSET_FIELD_CNT (s : Nat) : Fld := ⟨(0x60000 + 0x90 + 0x4 * s) * 32 + 1, 2, 0, .ro, .none, 7⟩
/-- `FSET[s].SCALE` (R309). -/
abbrev FSET_SCALE (s : Nat) : Fld := ⟨(0x60000 + 0x90 + 0x4 * s) * 32 + 16, 16, 0, .ro, .none, 7⟩
/-- `HCFG[h].NEAR_RANGE` (R309). -/
abbrev HCFG_NEAR_RANGE (h : Nat) : Fld := ⟨(0x60000 + 0xB0 + 0x4 * h) * 32 + 0, 8, 26, .rwl, .imm, 7⟩
/-- `HCFG[h].PERMIT4` (R309). -/
abbrev HCFG_PERMIT4 (h : Nat) : Fld := ⟨(0x60000 + 0xB0 + 0x4 * h) * 32 + 8, 1, 0, .rwl, .imm, 7⟩
/-- `HCFG[h].PERMIT5` (R309). -/
abbrev HCFG_PERMIT5 (h : Nat) : Fld := ⟨(0x60000 + 0xB0 + 0x4 * h) * 32 + 9, 1, 0, .rwl, .imm, 7⟩
/-- `CONN_CFG[c].EN` (R309). -/
abbrev CONN_CFG_EN (c : Nat) : Fld := ⟨(0x60000 + 0x100 + 0x8 * c) * 32 + 0, 1, 0, .rwl, .imm, 7⟩
/-- `CONN_CFG[c].TRANSPORT` (R309). -/
abbrev CONN_CFG_TRANSPORT (c : Nat) : Fld := ⟨(0x60000 + 0x100 + 0x8 * c) * 32 + 1, 1, 0, .rwl, .imm, 7⟩
/-- `CONN_CFG[c].PORT` (R309). -/
abbrev CONN_CFG_PORT (c : Nat) : Fld := ⟨(0x60000 + 0x100 + 0x8 * c) * 32 + 2, 2, 0, .rwl, .imm, 7⟩
/-- `CONN_CFG[c].ROLE` (R309). -/
abbrev CONN_CFG_ROLE (c : Nat) : Fld := ⟨(0x60000 + 0x100 + 0x8 * c) * 32 + 4, 2, 1, .rwl, .imm, 7⟩
/-- `CONN_CFG[c].REACT` (R309). -/
abbrev CONN_CFG_REACT (c : Nat) : Fld := ⟨(0x60000 + 0x100 + 0x8 * c) * 32 + 6, 2, 0, .rwl, .imm, 7⟩
/-- `CONN_CFG[c].OWNER` (R309). -/
abbrev CONN_CFG_OWNER (c : Nat) : Fld := ⟨(0x60000 + 0x100 + 0x8 * c) * 32 + 8, 1, 1, .rwl, .imm, 7⟩
/-- `CONN_CFG[c].OWN_IDX` (R309). -/
abbrev CONN_CFG_OWN_IDX (c : Nat) : Fld := ⟨(0x60000 + 0x100 + 0x8 * c) * 32 + 9, 4, 0, .rwl, .imm, 7⟩
/-- `CONN_CFG[c].PARTNER` (R309). -/
abbrev CONN_CFG_PARTNER (c : Nat) : Fld := ⟨(0x60000 + 0x100 + 0x8 * c) * 32 + 13, 14, 0, .rwl, .imm, 7⟩
/-- `CONN_TIM[c].WDOG` (R309). -/
abbrev CONN_TIM_WDOG (c : Nat) : Fld := ⟨(0x60000 + 0x104 + 0x8 * c) * 32 + 0, 10, 100, .rwl, .imm, 7⟩
/-- `CONN_TIM[c].TX_MS` (R309). -/
abbrev CONN_TIM_TX_MS (c : Nat) : Fld := ⟨(0x60000 + 0x104 + 0x8 * c) * 32 + 16, 10, 10, .rwl, .imm, 7⟩
/-- `CONN_STAT[c].STATE` (R309). -/
abbrev CONN_STAT_STATE (c : Nat) : Fld := ⟨(0x60000 + 0x180 + 0x4 * c) * 32 + 0, 2, 0, .ro, .none, 7⟩
/-- `CONN_STAT[c].MASQ` (R309). -/
abbrev CONN_STAT_MASQ (c : Nat) : Fld := ⟨(0x60000 + 0x180 + 0x4 * c) * 32 + 2, 1, 0, .ro, .none, 7⟩
/-- `CONN_STAT[c].BAD` (R309). -/
abbrev CONN_STAT_BAD (c : Nat) : Fld := ⟨(0x60000 + 0x180 + 0x4 * c) * 32 + 8, 8, 0, .ro, .none, 3⟩
/-- `CONN_STAT[c].GAP` (R309). -/
abbrev CONN_STAT_GAP (c : Nat) : Fld := ⟨(0x60000 + 0x180 + 0x4 * c) * 32 + 16, 8, 0, .ro, .none, 3⟩
/-- `CONN_STAT[c].LATE` (R309). -/
abbrev CONN_STAT_LATE (c : Nat) : Fld := ⟨(0x60000 + 0x180 + 0x4 * c) * 32 + 24, 8, 0, .ro, .none, 3⟩

/-- Every field of the page that R309 tables. -/
def fields : List Fld :=
  [ MODE_CONFIG, MODE_STORE, MODE_STORE_BUSY, MODE_STORE_CODE, STAT_STATE, STAT_OSSD1_ON, STAT_OSSD2_ON, STAT_PF_DEM, STAT_WF_DEM, STAT_RESTART_REQ, STAT_FSET, STAT_SEL_INVALID, STAT_MEAS_STOP, STAT_COATS, FAULT_DISC, FAULT_OSSD, FAULT_EMIT, FAULT_CONN, FAULT_CROSS, FAULT_CLOCK, FAULT_SELFTEST, FAULT_TABLE, SCID_A_SCID, SCID_B_SCID, CONFIRM_SCID, FLOAD_GO, FLOAD_FLASH, FLOAD_BUSY, FLOAD_CODE, FL_ADDR_ADDR, SEL_SRC, SEL_CONN, EVAL_N, EVAL_CLR_COATS, EVAL_DIV_COATS, OSSD_CFG_AUTO1, OSSD_CFG_AUTO2, OSSD_CFG_OSSD2_SRC, OSSD_CFG_OSSD2_EN, OSSD_CFG_START_AUTO, DIAG_ACT_DIRT, DIAG_ACT_DISP, DIAG_ACT_ESTOP_EMIT, EMIT_REQ, EMIT_HS_EN, EMIT_LS_EN, EMIT_HS_RB, EMIT_LS_RB, INSTAT_STATE, VERDICT_PF_A, VERDICT_PF_B, VERDICT_UNMON, VERDICT_WF_A] ++
  ((List.range 4).flatMap fun n => [INCFG_FUNC n]) ++
  ((List.range 4).flatMap fun n => [INCFG_ANTIVAL n]) ++
  ((List.range 4).flatMap fun n => [INCFG_DISC_TIME n]) ++
  ((List.range 8).flatMap fun s => [FSET_EN s]) ++
  ((List.range 8).flatMap fun s => [FSET_FIELD_CNT s]) ++
  ((List.range 8).flatMap fun s => [FSET_SCALE s]) ++
  ((List.range 8).flatMap fun h => [HCFG_NEAR_RANGE h]) ++
  ((List.range 8).flatMap fun h => [HCFG_PERMIT4 h]) ++
  ((List.range 8).flatMap fun h => [HCFG_PERMIT5 h]) ++
  ((List.range 16).flatMap fun c => [CONN_CFG_EN c]) ++
  ((List.range 16).flatMap fun c => [CONN_CFG_TRANSPORT c]) ++
  ((List.range 16).flatMap fun c => [CONN_CFG_PORT c]) ++
  ((List.range 16).flatMap fun c => [CONN_CFG_ROLE c]) ++
  ((List.range 16).flatMap fun c => [CONN_CFG_REACT c]) ++
  ((List.range 16).flatMap fun c => [CONN_CFG_OWNER c]) ++
  ((List.range 16).flatMap fun c => [CONN_CFG_OWN_IDX c]) ++
  ((List.range 16).flatMap fun c => [CONN_CFG_PARTNER c]) ++
  ((List.range 16).flatMap fun c => [CONN_TIM_WDOG c]) ++
  ((List.range 16).flatMap fun c => [CONN_TIM_TX_MS c]) ++
  ((List.range 16).flatMap fun c => [CONN_STAT_STATE c]) ++
  ((List.range 16).flatMap fun c => [CONN_STAT_MASQ c]) ++
  ((List.range 16).flatMap fun c => [CONN_STAT_BAD c]) ++
  ((List.range 16).flatMap fun c => [CONN_STAT_GAP c]) ++
  ((List.range 16).flatMap fun c => [CONN_STAT_LATE c])

end SAF

namespace TWN

/-- `CFG.TWIN_EN` (R333). -/
abbrev CFG_TWIN_EN : Fld := ⟨0x70040 * 32 + 0, 1, 0, .ro, .none, 31⟩
/-- `CFG.START_ROLE` (R333). -/
abbrev CFG_START_ROLE : Fld := ⟨0x70040 * 32 + 1, 1, 0, .ro, .none, 31⟩
/-- `CTRL.REVERT_EN` (R333). -/
abbrev CTRL_REVERT_EN : Fld := ⟨0x70044 * 32 + 0, 1, 1, .rws, .imm, 31⟩
/-- `CTRL.DEGR_HANDOVER` (R333). -/
abbrev CTRL_DEGR_HANDOVER : Fld := ⟨0x70044 * 32 + 1, 1, 1, .rws, .imm, 31⟩
/-- `CTRL.AUTO_WARM` (R333). -/
abbrev CTRL_AUTO_WARM : Fld := ⟨0x70044 * 32 + 2, 1, 1, .rws, .imm, 31⟩
/-- `CTRL.TAKEOVER_INH` (R333). -/
abbrev CTRL_TAKEOVER_INH : Fld := ⟨0x70044 * 32 + 3, 1, 0, .rws, .imm, 31⟩
/-- `CTRL.SWAP` (R333). -/
abbrev CTRL_SWAP : Fld := ⟨0x70044 * 32 + 31, 1, 0, .wo, .imm, 0⟩
/-- `STAT.ROLE` (R333). -/
abbrev STAT_ROLE : Fld := ⟨0x70048 * 32 + 0, 3, 0, .ro, .none, 31⟩
/-- `STAT.LINK` (R333). -/
abbrev STAT_LINK : Fld := ⟨0x70048 * 32 + 3, 1, 0, .ro, .none, 7⟩
/-- `STAT.ALIVE` (R333). -/
abbrev STAT_ALIVE : Fld := ⟨0x70048 * 32 + 4, 1, 0, .ro, .none, 7⟩
/-- `STAT.PARTNER` (R333). -/
abbrev STAT_PARTNER : Fld := ⟨0x70048 * 32 + 5, 1, 0, .ro, .none, 7⟩
/-- `STAT.POS` (R333). -/
abbrev STAT_POS : Fld := ⟨0x70048 * 32 + 6, 1, 0, .ro, .none, 0⟩
/-- `STAT.CFG_STALE` (R333). -/
abbrev STAT_CFG_STALE : Fld := ⟨0x70048 * 32 + 7, 1, 0, .ro, .none, 15⟩
/-- `STAT.SHADOW_FRAMES` (R333). -/
abbrev STAT_SHADOW_FRAMES : Fld := ⟨0x70048 * 32 + 8, 4, 0, .ro, .none, 7⟩
/-- `EVENTS.LINK_LOST` (R333). -/
abbrev EVENTS_LINK_LOST : Fld := ⟨0x7004C * 32 + 0, 1, 0, .w1c, .imm, 15⟩
/-- `EVENTS.ALIVE_LOST` (R333). -/
abbrev EVENTS_ALIVE_LOST : Fld := ⟨0x7004C * 32 + 1, 1, 0, .w1c, .imm, 15⟩
/-- `EVENTS.PARTNER_LOST` (R333). -/
abbrev EVENTS_PARTNER_LOST : Fld := ⟨0x7004C * 32 + 2, 1, 0, .w1c, .imm, 15⟩
/-- `EVENTS.TAKEOVER` (R333). -/
abbrev EVENTS_TAKEOVER : Fld := ⟨0x7004C * 32 + 3, 1, 0, .w1c, .imm, 15⟩
/-- `EVENTS.DENIED` (R333). -/
abbrev EVENTS_DENIED : Fld := ⟨0x7004C * 32 + 4, 1, 0, .w1c, .imm, 15⟩
/-- `EVENTS.TAKE_FAIL` (R333). -/
abbrev EVENTS_TAKE_FAIL : Fld := ⟨0x7004C * 32 + 5, 1, 0, .w1c, .imm, 15⟩
/-- `EVENTS.LATE` (R333). -/
abbrev EVENTS_LATE : Fld := ⟨0x7004C * 32 + 6, 1, 0, .w1c, .imm, 15⟩
/-- `EVENTS.HANDOVER` (R333). -/
abbrev EVENTS_HANDOVER : Fld := ⟨0x7004C * 32 + 7, 1, 0, .w1c, .imm, 15⟩
/-- `EVENTS.BLIP` (R333). -/
abbrev EVENTS_BLIP : Fld := ⟨0x7004C * 32 + 8, 1, 0, .w1c, .imm, 15⟩
/-- `CAUSE.CODE` (R333). -/
abbrev CAUSE_CODE : Fld := ⟨0x70050 * 32 + 0, 8, 0, .ro, .none, 31⟩
/-- `CAUSE.PERMANENT` (R333). -/
abbrev CAUSE_PERMANENT : Fld := ⟨0x70050 * 32 + 8, 1, 0, .ro, .none, 31⟩
/-- `CAUSE.FAIL_STEP` (R333). -/
abbrev CAUSE_FAIL_STEP : Fld := ⟨0x70050 * 32 + 12, 4, 0, .ro, .none, 31⟩
/-- `TAKE_INFO.TICK` (R333). -/
abbrev TAKE_INFO_TICK : Fld := ⟨0x70054 * 32 + 0, 9, 0, .ro, .none, 15⟩
/-- `TAKE_INFO.FRAME` (R333). -/
abbrev TAKE_INFO_FRAME : Fld := ⟨0x70054 * 32 + 9, 15, 0, .ro, .none, 15⟩
/-- `TAKE_INFO.DUR` (R333). -/
abbrev TAKE_INFO_DUR : Fld := ⟨0x70054 * 32 + 24, 8, 0, .ro, .none, 15⟩
/-- `TOKENS.REQ` (R333). -/
abbrev TOKENS_REQ : Fld := ⟨0x70058 * 32 + 0, 8, 0, .ro, .none, 7⟩
/-- `TOKENS.GRANT` (R333). -/
abbrev TOKENS_GRANT : Fld := ⟨0x70058 * 32 + 8, 8, 0, .ro, .none, 7⟩
/-- `CKPT_ADDR_LO.ADDR` (R333). -/
abbrev CKPT_ADDR_LO_ADDR : Fld := ⟨0x7005C * 32 + 12, 20, 0, .rws, .frame, 15⟩
/-- `CKPT_ADDR_HI.ADDR` (R333). -/
abbrev CKPT_ADDR_HI_ADDR : Fld := ⟨0x70060 * 32 + 0, 32, 0, .rws, .frame, 15⟩
/-- `CKPT_STAT.FRAME` (R333). -/
abbrev CKPT_STAT_FRAME : Fld := ⟨0x70064 * 32 + 0, 15, 0, .ro, .none, 7⟩
/-- `CKPT_STAT.BUSY` (R333). -/
abbrev CKPT_STAT_BUSY : Fld := ⟨0x70064 * 32 + 16, 1, 0, .ro, .none, 7⟩
/-- `CKPT_STAT.FAILS` (R333). -/
abbrev CKPT_STAT_FAILS : Fld := ⟨0x70064 * 32 + 24, 8, 0, .ro, .none, 3⟩
/-- `ALIGN.OFFSET` (R333). -/
abbrev ALIGN_OFFSET : Fld := ⟨0x70068 * 32 + 0, 16, 0, .ro, .none, 3⟩
/-- `ALIGN.LOCK` (R333). -/
abbrev ALIGN_LOCK : Fld := ⟨0x70068 * 32 + 16, 1, 0, .ro, .none, 3⟩
/-- `COUNT.TAKEOVERS` (R333). -/
abbrev COUNT_TAKEOVERS : Fld := ⟨0x7006C * 32 + 0, 8, 0, .ro, .none, 31⟩
/-- `COUNT.HANDOVERS` (R333). -/
abbrev COUNT_HANDOVERS : Fld := ⟨0x7006C * 32 + 8, 8, 0, .ro, .none, 31⟩
/-- `COUNT.BLIPS` (R333). -/
abbrev COUNT_BLIPS : Fld := ⟨0x7006C * 32 + 16, 16, 0, .ro, .none, 31⟩

/-- Every field of the page that R333 tables. -/
def fields : List Fld :=
  [CFG_TWIN_EN, CFG_START_ROLE, CTRL_REVERT_EN, CTRL_DEGR_HANDOVER, CTRL_AUTO_WARM, CTRL_TAKEOVER_INH, CTRL_SWAP, STAT_ROLE, STAT_LINK, STAT_ALIVE, STAT_PARTNER, STAT_POS, STAT_CFG_STALE, STAT_SHADOW_FRAMES, EVENTS_LINK_LOST, EVENTS_ALIVE_LOST, EVENTS_PARTNER_LOST, EVENTS_TAKEOVER, EVENTS_DENIED, EVENTS_TAKE_FAIL, EVENTS_LATE, EVENTS_HANDOVER, EVENTS_BLIP, CAUSE_CODE, CAUSE_PERMANENT, CAUSE_FAIL_STEP, TAKE_INFO_TICK, TAKE_INFO_FRAME, TAKE_INFO_DUR, TOKENS_REQ, TOKENS_GRANT, CKPT_ADDR_LO_ADDR, CKPT_ADDR_HI_ADDR, CKPT_STAT_FRAME, CKPT_STAT_BUSY, CKPT_STAT_FAILS, ALIGN_OFFSET, ALIGN_LOCK, COUNT_TAKEOVERS, COUNT_HANDOVERS, COUNT_BLIPS]

end TWN

namespace CXL0

/-- `LINK_STAT.SPEED` (R357). -/
abbrev LINK_STAT_SPEED : Fld := ⟨0xF0040 * 32 + 0, 3, 0, .ro, .none, 0⟩
/-- `LINK_STAT.WIDTH` (R357). -/
abbrev LINK_STAT_WIDTH : Fld := ⟨0xF0040 * 32 + 3, 5, 0, .ro, .none, 0⟩
/-- `LINK_STAT.FLIT256` (R357). -/
abbrev LINK_STAT_FLIT256 : Fld := ⟨0xF0040 * 32 + 8, 1, 0, .ro, .none, 0⟩
/-- `LINK_STAT.LOPT` (R357). -/
abbrev LINK_STAT_LOPT : Fld := ⟨0xF0040 * 32 + 9, 1, 0, .ro, .none, 0⟩
/-- `LINK_STAT.CXL` (R357). -/
abbrev LINK_STAT_CXL : Fld := ⟨0xF0040 * 32 + 10, 1, 0, .ro, .none, 0⟩
/-- `LINK_STAT.CACHE_EN` (R357). -/
abbrev LINK_STAT_CACHE_EN : Fld := ⟨0xF0040 * 32 + 11, 1, 0, .ro, .none, 0⟩
/-- `LINK_STAT.MEM_EN` (R357). -/
abbrev LINK_STAT_MEM_EN : Fld := ⟨0xF0040 * 32 + 12, 1, 0, .ro, .none, 0⟩
/-- `LINK_STAT.STATE` (R357). -/
abbrev LINK_STAT_STATE : Fld := ⟨0xF0040 * 32 + 13, 2, 2, .ro, .none, 0⟩
/-- `IDE_STAT.IO` (R357). -/
abbrev IDE_STAT_IO : Fld := ⟨0xF0044 * 32 + 0, 1, 0, .ro, .none, 0⟩
/-- `IDE_STAT.CM` (R357). -/
abbrev IDE_STAT_CM : Fld := ⟨0xF0044 * 32 + 1, 1, 0, .ro, .none, 0⟩
/-- `IDE_STAT.ERR` (R357). -/
abbrev IDE_STAT_ERR : Fld := ⟨0xF0044 * 32 + 8, 8, 0, .ro, .none, 3⟩
/-- `BI_STAT.TIMEOUT` (R357). -/
abbrev BI_STAT_TIMEOUT : Fld := ⟨0xF0048 * 32 + 0, 16, 0, .ro, .none, 3⟩
/-- `BI_STAT.EVICT` (R357). -/
abbrev BI_STAT_EVICT : Fld := ⟨0xF0048 * 32 + 16, 16, 0, .ro, .none, 3⟩
/-- `ERR_CNT.POISON` (R357). -/
abbrev ERR_CNT_POISON : Fld := ⟨0xF004C * 32 + 0, 16, 0, .ro, .none, 3⟩
/-- `ERR_CNT.HM` (R357). -/
abbrev ERR_CNT_HM : Fld := ⟨0xF004C * 32 + 16, 16, 0, .ro, .none, 3⟩
/-- `LINK_CNT.DOWN` (R357). -/
abbrev LINK_CNT_DOWN : Fld := ⟨0xF0050 * 32 + 0, 16, 0, .ro, .none, 3⟩
/-- `LINK_CNT.RECOV` (R357). -/
abbrev LINK_CNT_RECOV : Fld := ⟨0xF0050 * 32 + 16, 16, 0, .ro, .none, 3⟩
/-- `DOE_STAT.DISC` (R357). -/
abbrev DOE_STAT_DISC : Fld := ⟨0xF0054 * 32 + 0, 16, 0, .ro, .none, 3⟩
/-- `ROUTE_SEL.PAGE` (R357). -/
abbrev ROUTE_SEL_PAGE : Fld := ⟨0xF0058 * 32 + 0, 9, 0, .rw, .imm, 0⟩
/-- `ROUTE_DATA.VEC` (R357). -/
abbrev ROUTE_DATA_VEC : Fld := ⟨0xF005C * 32 + 0, 6, 0, .rw, .imm, 0⟩
/-- `MOD.TICKS` (R357). -/
abbrev MOD_TICKS : Fld := ⟨0xF0060 * 32 + 0, 8, 0, .rw, .imm, 0⟩

/-- Every field of the page that R357 tables. -/
def fields : List Fld :=
  [LINK_STAT_SPEED, LINK_STAT_WIDTH, LINK_STAT_FLIT256, LINK_STAT_LOPT, LINK_STAT_CXL, LINK_STAT_CACHE_EN, LINK_STAT_MEM_EN, LINK_STAT_STATE, IDE_STAT_IO, IDE_STAT_CM, IDE_STAT_ERR, BI_STAT_TIMEOUT, BI_STAT_EVICT, ERR_CNT_POISON, ERR_CNT_HM, LINK_CNT_DOWN, LINK_CNT_RECOV, DOE_STAT_DISC, ROUTE_SEL_PAGE, ROUTE_DATA_VEC, MOD_TICKS]

end CXL0

namespace CXL1

/-- `PT_RD[h].IDX` (R358). -/
abbrev PT_RD_IDX (h : Nat) : Fld := ⟨(0xF1000 + 0x40 + 0x4 * h) * 32 + 0, 32, 0, .rw, .imm, 0⟩
/-- `PT_WMARK[h].RECORDS` (R358). -/
abbrev PT_WMARK_RECORDS (h : Nat) : Fld := ⟨(0xF1000 + 0x60 + 0x4 * h) * 32 + 0, 24, 0, .rw, .imm, 0⟩
/-- `PT_LOST[h].COUNT` (R358). -/
abbrev PT_LOST_COUNT (h : Nat) : Fld := ⟨(0xF1000 + 0x80 + 0x4 * h) * 32 + 0, 32, 0, .ro, .none, 0⟩
/-- `FH_RD.IDX` (R358). -/
abbrev FH_RD_IDX : Fld := ⟨0xF10A0 * 32 + 0, 32, 0, .rw, .imm, 0⟩
/-- `FH_LOST.COUNT` (R358). -/
abbrev FH_LOST_COUNT : Fld := ⟨0xF10A4 * 32 + 0, 32, 0, .ro, .none, 0⟩
/-- `EVT_BASE_LO.ADDR` (R358). -/
abbrev EVT_BASE_LO_ADDR : Fld := ⟨0xF10A8 * 32 + 12, 20, 0, .rws, .imm, 0⟩
/-- `EVT_BASE_HI.ADDR` (R358). -/
abbrev EVT_BASE_HI_ADDR : Fld := ⟨0xF10AC * 32 + 0, 32, 0, .rws, .imm, 0⟩
/-- `EVT_SIZE.SIZE` (R358). -/
abbrev EVT_SIZE_SIZE : Fld := ⟨0xF10B0 * 32 + 0, 16, 0, .rws, .imm, 0⟩
/-- `EVT_RD.IDX` (R358). -/
abbrev EVT_RD_IDX : Fld := ⟨0xF10B4 * 32 + 0, 32, 0, .rw, .imm, 0⟩
/-- `EVT_WR.IDX` (R358). -/
abbrev EVT_WR_IDX : Fld := ⟨0xF10B8 * 32 + 0, 32, 0, .ro, .none, 0⟩
/-- `EVT_LOST.COUNT` (R358). -/
abbrev EVT_LOST_COUNT : Fld := ⟨0xF10BC * 32 + 0, 32, 0, .ro, .none, 0⟩
/-- `CMD_BASE_LO.ADDR` (R358). -/
abbrev CMD_BASE_LO_ADDR : Fld := ⟨0xF10C0 * 32 + 12, 20, 0, .rws, .imm, 0⟩
/-- `CMD_BASE_HI.ADDR` (R358). -/
abbrev CMD_BASE_HI_ADDR : Fld := ⟨0xF10C4 * 32 + 0, 32, 0, .rws, .imm, 0⟩
/-- `CMD_SIZE.SIZE` (R358). -/
abbrev CMD_SIZE_SIZE : Fld := ⟨0xF10C8 * 32 + 0, 16, 0, .rws, .imm, 0⟩
/-- `CMD_WR.IDX` (R358). -/
abbrev CMD_WR_IDX : Fld := ⟨0xF10CC * 32 + 0, 32, 0, .rw, .imm, 0⟩
/-- `CMD_RD.IDX` (R358). -/
abbrev CMD_RD_IDX : Fld := ⟨0xF10D0 * 32 + 0, 32, 0, .ro, .none, 0⟩
/-- `CMD_STAT.BUSY` (R358). -/
abbrev CMD_STAT_BUSY : Fld := ⟨0xF10D4 * 32 + 0, 1, 0, .ro, .none, 0⟩
/-- `CMD_STAT.OVF` (R358). -/
abbrev CMD_STAT_OVF : Fld := ⟨0xF10D4 * 32 + 1, 1, 0, .ro, .none, 0⟩
/-- `CMD_STAT.WAITING` (R358). -/
abbrev CMD_STAT_WAITING : Fld := ⟨0xF10D4 * 32 + 2, 1, 0, .ro, .none, 0⟩
/-- `MIR_LO.EN` (R358). -/
abbrev MIR_LO_EN : Fld := ⟨0xF10D8 * 32 + 0, 1, 0, .rws, .imm, 0⟩
/-- `MIR_LO.ADDR` (R358). -/
abbrev MIR_LO_ADDR : Fld := ⟨0xF10D8 * 32 + 6, 26, 0, .rws, .imm, 0⟩
/-- `MIR_HI.ADDR` (R358). -/
abbrev MIR_HI_ADDR : Fld := ⟨0xF10DC * 32 + 0, 32, 0, .rws, .imm, 0⟩

/-- Every field of the page that R358 tables. -/
def fields : List Fld :=
  ((List.range 8).flatMap fun h => [PT_RD_IDX h]) ++
  ((List.range 8).flatMap fun h => [PT_WMARK_RECORDS h]) ++
  ((List.range 8).flatMap fun h => [PT_LOST_COUNT h]) ++
  [FH_RD_IDX, FH_LOST_COUNT, EVT_BASE_LO_ADDR, EVT_BASE_HI_ADDR, EVT_SIZE_SIZE, EVT_RD_IDX, EVT_WR_IDX, EVT_LOST_COUNT, CMD_BASE_LO_ADDR, CMD_BASE_HI_ADDR, CMD_SIZE_SIZE, CMD_WR_IDX, CMD_RD_IDX, CMD_STAT_BUSY, CMD_STAT_OVF, CMD_STAT_WAITING, MIR_LO_EN, MIR_LO_ADDR, MIR_HI_ADDR]

end CXL1

namespace GSL

/-- `IDENT.DOMAIN_ID` (R387). -/
abbrev IDENT_DOMAIN_ID : Fld := ⟨0x100040 * 32 + 0, 14, 0, .rws, .frame, 31⟩
/-- `IDENT.BOARD_VAR` (R387). -/
abbrev IDENT_BOARD_VAR : Fld := ⟨0x100040 * 32 + 16, 4, 0, .ro, .none, 0⟩
/-- `IDENT.DUP_ID` (R387). -/
abbrev IDENT_DUP_ID : Fld := ⟨0x100040 * 32 + 31, 1, 0, .ro, .none, 3⟩
/-- `CLUSTER.SIZE` (R387). -/
abbrev CLUSTER_SIZE : Fld := ⟨0x100044 * 32 + 0, 7, 1, .rws, .frame, 7⟩
/-- `CLUSTER.FOLLOWED` (R387). -/
abbrev CLUSTER_FOLLOWED : Fld := ⟨0x100044 * 32 + 8, 1, 0, .ro, .none, 7⟩
/-- `MEMB.LIVE` (R387). -/
abbrev MEMB_LIVE : Fld := ⟨0x100048 * 32 + 0, 7, 0, .ro, .none, 7⟩
/-- `MEMB.QUORUM` (R387). -/
abbrev MEMB_QUORUM : Fld := ⟨0x100048 * 32 + 7, 1, 0, .ro, .none, 7⟩
/-- `MEMB.IS_MASTER` (R387). -/
abbrev MEMB_IS_MASTER : Fld := ⟨0x100048 * 32 + 8, 1, 0, .ro, .none, 7⟩
/-- `MEMB.MASTER_VALID` (R387). -/
abbrev MEMB_MASTER_VALID : Fld := ⟨0x100048 * 32 + 9, 1, 0, .ro, .none, 7⟩
/-- `MEMB.MASTER_ID` (R387). -/
abbrev MEMB_MASTER_ID : Fld := ⟨0x100048 * 32 + 10, 14, 0, .ro, .none, 7⟩
/-- `MEMB.UP_PORT` (R387). -/
abbrev MEMB_UP_PORT : Fld := ⟨0x100048 * 32 + 24, 2, 0, .ro, .none, 7⟩
/-- `MEMB.HOPS` (R387). -/
abbrev MEMB_HOPS : Fld := ⟨0x100048 * 32 + 26, 6, 0, .ro, .none, 7⟩
/-- `EPOCH.CUR` (R387). -/
abbrev EPOCH_CUR : Fld := ⟨0x10004C * 32 + 0, 16, 0, .ro, .none, 15⟩
/-- `EPOCH.NEXT` (R387). -/
abbrev EPOCH_NEXT : Fld := ⟨0x10004C * 32 + 16, 16, 0, .ro, .none, 7⟩
/-- `EPOCH_AT.AT_FRAME` (R387). -/
abbrev EPOCH_AT_AT_FRAME : Fld := ⟨0x100050 * 32 + 0, 15, 0, .ro, .none, 7⟩
/-- `EPOCH_AT.PENDING` (R387). -/
abbrev EPOCH_AT_PENDING : Fld := ⟨0x100050 * 32 + 16, 1, 0, .ro, .none, 7⟩
/-- `EPOCH_CTL.BUMP` (R387). -/
abbrev EPOCH_CTL_BUMP : Fld := ⟨0x100054 * 32 + 0, 1, 0, .wo, .imm, 0⟩
/-- `EYE_MIN.HEIGHT` (R387). -/
abbrev EYE_MIN_HEIGHT : Fld := ⟨0x100058 * 32 + 0, 8, 0, .rws, .imm, 3⟩
/-- `EYE_MIN.WIDTH` (R387). -/
abbrev EYE_MIN_WIDTH : Fld := ⟨0x100058 * 32 + 8, 8, 0, .rws, .imm, 3⟩
/-- `TRIG_CFG.LAT` (R387). -/
abbrev TRIG_CFG_LAT : Fld := ⟨0x10005C * 32 + 0, 10, 25, .rws, .imm, 3⟩
/-- `TRIG_STAT.LATE` (R387). -/
abbrev TRIG_STAT_LATE : Fld := ⟨0x100060 * 32 + 0, 16, 0, .ro, .none, 3⟩
/-- `TRIG_STAT.UNTRUSTED` (R387). -/
abbrev TRIG_STAT_UNTRUSTED : Fld := ⟨0x100060 * 32 + 16, 16, 0, .ro, .none, 3⟩
/-- `PORT_CFG[p].EN` (R387). -/
abbrev PORT_CFG_EN (p : Nat) : Fld := ⟨(0x100000 + 0x70 + 0x4 * p) * 32 + 0, 1, 1, .rws, .imm, 3⟩
/-- `PORT_CFG[p].LOOP` (R387). -/
abbrev PORT_CFG_LOOP (p : Nat) : Fld := ⟨(0x100000 + 0x70 + 0x4 * p) * 32 + 1, 2, 0, .rws, .imm, 3⟩
/-- `PORT_CFG[p].PRBS` (R387). -/
abbrev PORT_CFG_PRBS (p : Nat) : Fld := ⟨(0x100000 + 0x70 + 0x4 * p) * 32 + 3, 1, 0, .rws, .imm, 3⟩
/-- `PORT_CFG[p].RETRAIN` (R387). -/
abbrev PORT_CFG_RETRAIN (p : Nat) : Fld := ⟨(0x100000 + 0x70 + 0x4 * p) * 32 + 4, 1, 0, .wo, .imm, 0⟩
/-- `PORT_STAT[p].WIDTH` (R387). -/
abbrev PORT_STAT_WIDTH (p : Nat) : Fld := ⟨(0x100000 + 0x80 + 0x4 * p) * 32 + 0, 3, 0, .ro, .none, 3⟩
/-- `PORT_STAT[p].UP` (R387). -/
abbrev PORT_STAT_UP (p : Nat) : Fld := ⟨(0x100000 + 0x80 + 0x4 * p) * 32 + 3, 1, 0, .ro, .none, 3⟩
/-- `PORT_STAT[p].LOS` (R387). -/
abbrev PORT_STAT_LOS (p : Nat) : Fld := ⟨(0x100000 + 0x80 + 0x4 * p) * 32 + 4, 4, 0, .ro, .none, 3⟩
/-- `PORT_STAT[p].LOL` (R387). -/
abbrev PORT_STAT_LOL (p : Nat) : Fld := ⟨(0x100000 + 0x80 + 0x4 * p) * 32 + 8, 4, 0, .ro, .none, 3⟩
/-- `PORT_STAT[p].TRUNK` (R387). -/
abbrev PORT_STAT_TRUNK (p : Nat) : Fld := ⟨(0x100000 + 0x80 + 0x4 * p) * 32 + 12, 1, 0, .ro, .none, 3⟩
/-- `PORT_STAT[p].TWIN` (R387). -/
abbrev PORT_STAT_TWIN (p : Nat) : Fld := ⟨(0x100000 + 0x80 + 0x4 * p) * 32 + 13, 1, 0, .ro, .none, 3⟩
/-- `PORT_STAT[p].NBR_ID` (R387). -/
abbrev PORT_STAT_NBR_ID (p : Nat) : Fld := ⟨(0x100000 + 0x80 + 0x4 * p) * 32 + 16, 14, 0, .ro, .none, 3⟩
/-- `PORT_STAT[p].NBR_VALID` (R387). -/
abbrev PORT_STAT_NBR_VALID (p : Nat) : Fld := ⟨(0x100000 + 0x80 + 0x4 * p) * 32 + 30, 1, 0, .ro, .none, 3⟩
/-- `LINK_ERR[p].CRC` (R387). -/
abbrev LINK_ERR_CRC (p : Nat) : Fld := ⟨(0x100000 + 0x90 + 0x4 * p) * 32 + 0, 16, 0, .ro, .none, 3⟩
/-- `LINK_ERR[p].REPLAY` (R387). -/
abbrev LINK_ERR_REPLAY (p : Nat) : Fld := ⟨(0x100000 + 0x90 + 0x4 * p) * 32 + 16, 16, 0, .ro, .none, 3⟩
/-- `LINK_DLY[p].PS` (R387). -/
abbrev LINK_DLY_PS (p : Nat) : Fld := ⟨(0x100000 + 0xA0 + 0x4 * p) * 32 + 0, 24, 0, .ro, .none, 3⟩
/-- `EYE[p].HEIGHT` (R387). -/
abbrev EYE_HEIGHT (p : Nat) : Fld := ⟨(0x100000 + 0xB0 + 0x4 * p) * 32 + 0, 8, 0, .ro, .none, 3⟩
/-- `EYE[p].WIDTH` (R387). -/
abbrev EYE_WIDTH (p : Nat) : Fld := ⟨(0x100000 + 0xB0 + 0x4 * p) * 32 + 8, 8, 0, .ro, .none, 3⟩
/-- `EYE[p].LANE` (R387). -/
abbrev EYE_LANE (p : Nat) : Fld := ⟨(0x100000 + 0xB0 + 0x4 * p) * 32 + 16, 2, 0, .ro, .none, 3⟩
/-- `EYE[p].VALID` (R387). -/
abbrev EYE_VALID (p : Nat) : Fld := ⟨(0x100000 + 0xB0 + 0x4 * p) * 32 + 31, 1, 0, .ro, .none, 3⟩

/-- Every field of the page that R387 tables. -/
def fields : List Fld :=
  [IDENT_DOMAIN_ID, IDENT_BOARD_VAR, IDENT_DUP_ID, CLUSTER_SIZE, CLUSTER_FOLLOWED, MEMB_LIVE, MEMB_QUORUM, MEMB_IS_MASTER, MEMB_MASTER_VALID, MEMB_MASTER_ID, MEMB_UP_PORT, MEMB_HOPS, EPOCH_CUR, EPOCH_NEXT, EPOCH_AT_AT_FRAME, EPOCH_AT_PENDING, EPOCH_CTL_BUMP, EYE_MIN_HEIGHT, EYE_MIN_WIDTH, TRIG_CFG_LAT, TRIG_STAT_LATE, TRIG_STAT_UNTRUSTED] ++
  ((List.range 4).flatMap fun p => [PORT_CFG_EN p]) ++
  ((List.range 4).flatMap fun p => [PORT_CFG_LOOP p]) ++
  ((List.range 4).flatMap fun p => [PORT_CFG_PRBS p]) ++
  ((List.range 4).flatMap fun p => [PORT_CFG_RETRAIN p]) ++
  ((List.range 4).flatMap fun p => [PORT_STAT_WIDTH p]) ++
  ((List.range 4).flatMap fun p => [PORT_STAT_UP p]) ++
  ((List.range 4).flatMap fun p => [PORT_STAT_LOS p]) ++
  ((List.range 4).flatMap fun p => [PORT_STAT_LOL p]) ++
  ((List.range 4).flatMap fun p => [PORT_STAT_TRUNK p]) ++
  ((List.range 4).flatMap fun p => [PORT_STAT_TWIN p]) ++
  ((List.range 4).flatMap fun p => [PORT_STAT_NBR_ID p]) ++
  ((List.range 4).flatMap fun p => [PORT_STAT_NBR_VALID p]) ++
  ((List.range 4).flatMap fun p => [LINK_ERR_CRC p]) ++
  ((List.range 4).flatMap fun p => [LINK_ERR_REPLAY p]) ++
  ((List.range 4).flatMap fun p => [LINK_DLY_PS p]) ++
  ((List.range 4).flatMap fun p => [EYE_HEIGHT p]) ++
  ((List.range 4).flatMap fun p => [EYE_WIDTH p]) ++
  ((List.range 4).flatMap fun p => [EYE_LANE p]) ++
  ((List.range 4).flatMap fun p => [EYE_VALID p])

end GSL

namespace DST

/-- `ARM.GO` (R405). -/
abbrev ARM_GO : Fld := ⟨0x120040 * 32 + 0, 1, 0, .wo, .tick, 0⟩
/-- `ARM.STOP` (R405). -/
abbrev ARM_STOP : Fld := ⟨0x120040 * 32 + 1, 1, 0, .wo, .imm, 0⟩
/-- `TRIG_EN.SRC_EN` (R405). -/
abbrev TRIG_EN_SRC_EN : Fld := ⟨0x120044 * 32 + 0, 16, 0, .rws, .tick, 3⟩
/-- `TRIG_EN.BUS_MASK` (R405). -/
abbrev TRIG_EN_BUS_MASK : Fld := ⟨0x120044 * 32 + 16, 16, 0, .rws, .tick, 3⟩
/-- `TRIG_CFG.MODE` (R405). -/
abbrev TRIG_CFG_MODE : Fld := ⟨0x120048 * 32 + 0, 1, 0, .rws, .tick, 3⟩
/-- `TRIG_CFG.STREAMS` (R405). -/
abbrev TRIG_CFG_STREAMS : Fld := ⟨0x120048 * 32 + 4, 4, 0, .rws, .tick, 3⟩
/-- `TRIG_CFG.HEADS` (R405). -/
abbrev TRIG_CFG_HEADS : Fld := ⟨0x120048 * 32 + 8, 8, 255, .rws, .tick, 3⟩
/-- `TRIG_CFG.REQ_EN` (R405). -/
abbrev TRIG_CFG_REQ_EN : Fld := ⟨0x120048 * 32 + 16, 1, 0, .rws, .tick, 3⟩
/-- `TRIG_CFG.REQ_ROW` (R405). -/
abbrev TRIG_CFG_REQ_ROW : Fld := ⟨0x120048 * 32 + 17, 7, 0, .rws, .tick, 3⟩
/-- `TRIG_CFG.BUS_OUT` (R405). -/
abbrev TRIG_CFG_BUS_OUT : Fld := ⟨0x120048 * 32 + 24, 4, 0, .rws, .tick, 3⟩
/-- `TRIG_CFG.BUS_OUT_EN` (R405). -/
abbrev TRIG_CFG_BUS_OUT_EN : Fld := ⟨0x120048 * 32 + 28, 1, 0, .rws, .tick, 3⟩
/-- `HOLDOFF.VALUE` (R405). -/
abbrev HOLDOFF_VALUE : Fld := ⟨0x12004C * 32 + 0, 24, 0, .rws, .tick, 3⟩
/-- `HOLDOFF.KIND` (R405). -/
abbrev HOLDOFF_KIND : Fld := ⟨0x12004C * 32 + 31, 1, 0, .rws, .tick, 3⟩
/-- `MEAS_TRIG.QTY` (R405). -/
abbrev MEAS_TRIG_QTY : Fld := ⟨0x120050 * 32 + 0, 3, 1, .rws, .tick, 3⟩
/-- `MEAS_TRIG.BELOW` (R405). -/
abbrev MEAS_TRIG_BELOW : Fld := ⟨0x120050 * 32 + 3, 1, 0, .rws, .tick, 3⟩
/-- `MEAS_TRIG.LIMIT` (R405). -/
abbrev MEAS_TRIG_LIMIT : Fld := ⟨0x120050 * 32 + 16, 16, 0, .rws, .tick, 3⟩
/-- `CLS_TRIG.MTHR` (R405). -/
abbrev CLS_TRIG_MTHR : Fld := ⟨0x120054 * 32 + 0, 16, 256, .rws, .tick, 3⟩
/-- `CLS_TRIG.CLASS` (R405). -/
abbrev CLS_TRIG_CLASS : Fld := ⟨0x120054 * 32 + 16, 4, 5, .rws, .tick, 3⟩
/-- `CLS_TRIG.MIN` (R405). -/
abbrev CLS_TRIG_MIN : Fld := ⟨0x120054 * 32 + 20, 3, 1, .rws, .tick, 3⟩
/-- `RGATE_LO.RANGE` (R405). -/
abbrev RGATE_LO_RANGE : Fld := ⟨0x120058 * 32 + 0, 20, 0, .rws, .tick, 3⟩
/-- `RGATE_HI.RANGE` (R405). -/
abbrev RGATE_HI_RANGE : Fld := ⟨0x12005C * 32 + 0, 20, 0, .rws, .tick, 3⟩
/-- `TRIG_CMD.LINE` (R405). -/
abbrev TRIG_CMD_LINE : Fld := ⟨0x120060 * 32 + 0, 4, 0, .wo, .imm, 0⟩
/-- `TRIG_CMD.BUS` (R405). -/
abbrev TRIG_CMD_BUS : Fld := ⟨0x120060 * 32 + 4, 1, 0, .wo, .imm, 0⟩
/-- `TRIG_CMD.GO` (R405). -/
abbrev TRIG_CMD_GO : Fld := ⟨0x120060 * 32 + 31, 1, 0, .wo, .imm, 0⟩
/-- `DSTAT.ARMED` (R405). -/
abbrev DSTAT_ARMED : Fld := ⟨0x120064 * 32 + 0, 1, 0, .ro, .none, 3⟩
/-- `DSTAT.OPEN` (R405). -/
abbrev DSTAT_OPEN : Fld := ⟨0x120064 * 32 + 1, 1, 0, .ro, .none, 3⟩
/-- `DSTAT.HOLD` (R405). -/
abbrev DSTAT_HOLD : Fld := ⟨0x120064 * 32 + 2, 1, 0, .ro, .none, 3⟩
/-- `DSTAT.STOPPED` (R405). -/
abbrev DSTAT_STOPPED : Fld := ⟨0x120064 * 32 + 3, 1, 0, .ro, .none, 3⟩
/-- `DESC_CFG.COUNT` (R405). -/
abbrev DESC_CFG_COUNT : Fld := ⟨0x120068 * 32 + 0, 16, 0, .rws, .tick, 3⟩
/-- `DESC_WR.IDX` (R405). -/
abbrev DESC_WR_IDX : Fld := ⟨0x12006C * 32 + 0, 32, 0, .ro, .none, 7⟩
/-- `DESC_RD.IDX` (R405). -/
abbrev DESC_RD_IDX : Fld := ⟨0x120070 * 32 + 0, 32, 0, .rw, .imm, 7⟩
/-- `MISSED.BUSY` (R405). -/
abbrev MISSED_BUSY : Fld := ⟨0x120074 * 32 + 0, 16, 0, .ro, .none, 3⟩
/-- `MISSED.HOLD` (R405). -/
abbrev MISSED_HOLD : Fld := ⟨0x120074 * 32 + 16, 16, 0, .ro, .none, 3⟩
/-- `SCFG[s].EN` (R405). -/
abbrev SCFG_EN (s : Nat) : Fld := ⟨(0x120000 + 0x80 + 0x20 * s) * 32 + 0, 1, 0, .rws, .frame, 3⟩
/-- `SCFG[s].TAP` (R405). -/
abbrev SCFG_TAP (s : Nat) : Fld := ⟨(0x120000 + 0x80 + 0x20 * s) * 32 + 1, 1, 1, .rws, .frame, 3⟩
/-- `SCFG[s].HELD` (R405). -/
abbrev SCFG_HELD (s : Nat) : Fld := ⟨(0x120000 + 0x80 + 0x20 * s) * 32 + 2, 1, 0, .rws, .frame, 3⟩
/-- `SCFG[s].HEAD` (R405). -/
abbrev SCFG_HEAD (s : Nat) : Fld := ⟨(0x120000 + 0x80 + 0x20 * s) * 32 + 4, 3, 0, .rws, .frame, 3⟩
/-- `SCFG[s].SHARE` (R405). -/
abbrev SCFG_SHARE (s : Nat) : Fld := ⟨(0x120000 + 0x80 + 0x20 * s) * 32 + 8, 5, 4, .rws, .frame, 3⟩
/-- `SEL[0].LANE_MASK` (R405). -/
abbrev SEL_LANE_MASK : Fld := ⟨0x120084 * 32 + 0, 8, 255, .rws, .frame, 3⟩
/-- `SEL[1–2].ROW_LO` (R405). -/
abbrev SEL_ROW_LO (s : Nat) : Fld := ⟨(0x120000 + 0x84 + 0x20 * s) * 32 + 0, 7, 0, .rws, .frame, 3⟩
/-- `SEL[1–2].ROW_HI` (R405). -/
abbrev SEL_ROW_HI (s : Nat) : Fld := ⟨(0x120000 + 0x84 + 0x20 * s) * 32 + 8, 7, 127, .rws, .frame, 3⟩
/-- `SEL[3].HEAD_MASK` (R405). -/
abbrev SEL_HEAD_MASK : Fld := ⟨0x1200E4 * 32 + 0, 8, 255, .rws, .frame, 3⟩
/-- `RING_OFS[s].MIB` (R405). -/
abbrev RING_OFS_MIB (s : Nat) : Fld := ⟨(0x120000 + 0x88 + 0x20 * s) * 32 + 0, 16, 0, .rws, .frame, 3⟩
/-- `RING_SIZE[s].MIB` (R405). -/
abbrev RING_SIZE_MIB (s : Nat) : Fld := ⟨(0x120000 + 0x8C + 0x20 * s) * 32 + 0, 16, 0, .rws, .frame, 3⟩
/-- `PRE[s].ITEMS` (R405). -/
abbrev PRE_ITEMS (s : Nat) : Fld := ⟨(0x120000 + 0x90 + 0x20 * s) * 32 + 0, 32, 0, .rws, .tick, 3⟩
/-- `POST[s].ITEMS` (R405). -/
abbrev POST_ITEMS (s : Nat) : Fld := ⟨(0x120000 + 0x94 + 0x20 * s) * 32 + 0, 32, 0, .rws, .tick, 3⟩
/-- `WR_LO[s].IDX` (R405). -/
abbrev WR_LO_IDX (s : Nat) : Fld := ⟨(0x120000 + 0x98 + 0x20 * s) * 32 + 0, 32, 0, .ro, .none, 7⟩
/-- `WR_HI[s].IDX` (R405). -/
abbrev WR_HI_IDX (s : Nat) : Fld := ⟨(0x120000 + 0x9C + 0x20 * s) * 32 + 0, 32, 0, .ro, .none, 7⟩
/-- `SSTAT[s].DECIM` (R405). -/
abbrev SSTAT_DECIM (s : Nat) : Fld := ⟨(0x120000 + 0x100 + 0x4 * s) * 32 + 0, 3, 0, .ro, .none, 3⟩
/-- `SSTAT[s].DROP` (R405). -/
abbrev SSTAT_DROP (s : Nat) : Fld := ⟨(0x120000 + 0x100 + 0x4 * s) * 32 + 16, 16, 0, .ro, .none, 3⟩

/-- Every field of the page that R405 tables. -/
def fields : List Fld :=
  [ARM_GO, ARM_STOP, TRIG_EN_SRC_EN, TRIG_EN_BUS_MASK, TRIG_CFG_MODE, TRIG_CFG_STREAMS, TRIG_CFG_HEADS, TRIG_CFG_REQ_EN, TRIG_CFG_REQ_ROW, TRIG_CFG_BUS_OUT, TRIG_CFG_BUS_OUT_EN, HOLDOFF_VALUE, HOLDOFF_KIND, MEAS_TRIG_QTY, MEAS_TRIG_BELOW, MEAS_TRIG_LIMIT, CLS_TRIG_MTHR, CLS_TRIG_CLASS, CLS_TRIG_MIN, RGATE_LO_RANGE, RGATE_HI_RANGE, TRIG_CMD_LINE, TRIG_CMD_BUS, TRIG_CMD_GO, DSTAT_ARMED, DSTAT_OPEN, DSTAT_HOLD, DSTAT_STOPPED, DESC_CFG_COUNT, DESC_WR_IDX, DESC_RD_IDX, MISSED_BUSY, MISSED_HOLD] ++
  ((List.range 4).flatMap fun s => [SCFG_EN s]) ++
  ((List.range 4).flatMap fun s => [SCFG_TAP s]) ++
  ((List.range 4).flatMap fun s => [SCFG_HELD s]) ++
  ((List.range 4).flatMap fun s => [SCFG_HEAD s]) ++
  ((List.range 4).flatMap fun s => [SCFG_SHARE s]) ++
  [SEL_LANE_MASK] ++
  (((List.range 2).map (· + 1)).flatMap fun s => [SEL_ROW_LO s]) ++
  (((List.range 2).map (· + 1)).flatMap fun s => [SEL_ROW_HI s]) ++
  [SEL_HEAD_MASK] ++
  ((List.range 4).flatMap fun s => [RING_OFS_MIB s]) ++
  ((List.range 4).flatMap fun s => [RING_SIZE_MIB s]) ++
  ((List.range 4).flatMap fun s => [PRE_ITEMS s]) ++
  ((List.range 4).flatMap fun s => [POST_ITEMS s]) ++
  ((List.range 4).flatMap fun s => [WR_LO_IDX s]) ++
  ((List.range 4).flatMap fun s => [WR_HI_IDX s]) ++
  ((List.range 4).flatMap fun s => [SSTAT_DECIM s]) ++
  ((List.range 4).flatMap fun s => [SSTAT_DROP s])

end DST

namespace RND

/-- `OUT.EN` (R420). -/
abbrev OUT_EN : Fld := ⟨0x130040 * 32 + 0, 1, 0, .rws, .imm, 3⟩
/-- `LINK_CFG.MAX_RATE` (R420). -/
abbrev LINK_CFG_MAX_RATE : Fld := ⟨0x130044 * 32 + 0, 2, 2, .rws, .imm, 3⟩
/-- `LINK_CFG.MAX_LANES` (R420). -/
abbrev LINK_CFG_MAX_LANES : Fld := ⟨0x130044 * 32 + 2, 3, 4, .rws, .imm, 3⟩
/-- `LINK_STAT.STATE` (R420). -/
abbrev LINK_STAT_STATE : Fld := ⟨0x130048 * 32 + 0, 3, 0, .ro, .none, 3⟩
/-- `LINK_STAT.RATE` (R420). -/
abbrev LINK_STAT_RATE : Fld := ⟨0x130048 * 32 + 3, 2, 0, .ro, .none, 3⟩
/-- `LINK_STAT.LANES` (R420). -/
abbrev LINK_STAT_LANES : Fld := ⟨0x130048 * 32 + 5, 3, 0, .ro, .none, 3⟩
/-- `LINK_STAT.HPD` (R420). -/
abbrev LINK_STAT_HPD : Fld := ⟨0x130048 * 32 + 8, 1, 0, .ro, .none, 3⟩
/-- `PCLK.KHZ` (R420). -/
abbrev PCLK_KHZ : Fld := ⟨0x13004C * 32 + 0, 19, 241500, .rws, .imm, 3⟩
/-- `PCLK.SLOT` (R420). -/
abbrev PCLK_SLOT : Fld := ⟨0x13004C * 32 + 20, 4, 0, .rws, .imm, 3⟩
/-- `HTIM0.HACT` (R420). -/
abbrev HTIM0_HACT : Fld := ⟨0x130050 * 32 + 0, 12, 2560, .rws, .imm, 3⟩
/-- `HTIM0.HFP` (R420). -/
abbrev HTIM0_HFP : Fld := ⟨0x130050 * 32 + 16, 10, 48, .rws, .imm, 3⟩
/-- `HTIM1.HSW` (R420). -/
abbrev HTIM1_HSW : Fld := ⟨0x130054 * 32 + 0, 10, 32, .rws, .imm, 3⟩
/-- `HTIM1.HBP` (R420). -/
abbrev HTIM1_HBP : Fld := ⟨0x130054 * 32 + 16, 10, 80, .rws, .imm, 3⟩
/-- `HTIM1.HNEG` (R420). -/
abbrev HTIM1_HNEG : Fld := ⟨0x130054 * 32 + 31, 1, 0, .rws, .imm, 3⟩
/-- `VTIM0.VACT` (R420). -/
abbrev VTIM0_VACT : Fld := ⟨0x130058 * 32 + 0, 12, 1440, .rws, .imm, 3⟩
/-- `VTIM0.VFP` (R420). -/
abbrev VTIM0_VFP : Fld := ⟨0x130058 * 32 + 16, 10, 3, .rws, .imm, 3⟩
/-- `VTIM1.VSW` (R420). -/
abbrev VTIM1_VSW : Fld := ⟨0x13005C * 32 + 0, 10, 5, .rws, .imm, 3⟩
/-- `VTIM1.VBP` (R420). -/
abbrev VTIM1_VBP : Fld := ⟨0x13005C * 32 + 16, 10, 33, .rws, .imm, 3⟩
/-- `VTIM1.VNEG` (R420). -/
abbrev VTIM1_VNEG : Fld := ⟨0x13005C * 32 + 31, 1, 1, .rws, .imm, 3⟩
/-- `GL_CFG.EN` (R420). -/
abbrev GL_CFG_EN : Fld := ⟨0x130060 * 32 + 0, 1, 0, .rws, .imm, 3⟩
/-- `GL_CFG.FALL` (R420). -/
abbrev GL_CFG_FALL : Fld := ⟨0x130060 * 32 + 1, 1, 0, .rws, .imm, 3⟩
/-- `GL_CFG.GL_DELAY` (R420). -/
abbrev GL_CFG_GL_DELAY : Fld := ⟨0x130060 * 32 + 16, 12, 0, .rws, .imm, 3⟩
/-- `GL_STAT.LOCKED` (R420). -/
abbrev GL_STAT_LOCKED : Fld := ⟨0x130064 * 32 + 0, 1, 0, .ro, .none, 3⟩
/-- `GL_STAT.LOST` (R420). -/
abbrev GL_STAT_LOST : Fld := ⟨0x130064 * 32 + 16, 16, 0, .ro, .none, 3⟩
/-- `BG.RGB` (R420). -/
abbrev BG_RGB : Fld := ⟨0x130068 * 32 + 0, 24, 0, .rws, .refresh, 3⟩
/-- `FETCH.WMARK` (R420). -/
abbrev FETCH_WMARK : Fld := ⟨0x13006C * 32 + 0, 8, 40, .rws, .imm, 3⟩
/-- `OV_CFG.EN` (R420). -/
abbrev OV_CFG_EN : Fld := ⟨0x130070 * 32 + 0, 1, 0, .rws, .refresh, 3⟩
/-- `OV_CFG.FMT` (R420). -/
abbrev OV_CFG_FMT : Fld := ⟨0x130070 * 32 + 1, 2, 2, .rws, .refresh, 3⟩
/-- `OV_CFG.PACK` (R420). -/
abbrev OV_CFG_PACK : Fld := ⟨0x130070 * 32 + 3, 1, 0, .rws, .refresh, 3⟩
/-- `OV_CFG.KEY_EN` (R420). -/
abbrev OV_CFG_KEY_EN : Fld := ⟨0x130070 * 32 + 4, 1, 0, .rws, .refresh, 3⟩
/-- `OV_CFG.GALPHA` (R420). -/
abbrev OV_CFG_GALPHA : Fld := ⟨0x130070 * 32 + 8, 8, 255, .rws, .refresh, 3⟩
/-- `OV_CFG.KEY` (R420). -/
abbrev OV_CFG_KEY : Fld := ⟨0x130070 * 32 + 16, 16, 0, .rws, .refresh, 3⟩
/-- `OV_BASE.ADDR` (R420). -/
abbrev OV_BASE_ADDR : Fld := ⟨0x130074 * 32 + 0, 28, 0, .rws, .refresh, 3⟩
/-- `OV_HDR.ADDR` (R420). -/
abbrev OV_HDR_ADDR : Fld := ⟨0x130078 * 32 + 0, 28, 0, .rws, .refresh, 3⟩
/-- `OV_SEQ.SEQ` (R420). -/
abbrev OV_SEQ_SEQ : Fld := ⟨0x13007C * 32 + 0, 32, 0, .rws, .refresh, 3⟩
/-- `FRZ_CFG.REGIONS` (R420). -/
abbrev FRZ_CFG_REGIONS : Fld := ⟨0x130080 * 32 + 0, 9, 0, .rws, .imm, 3⟩
/-- `FRZ_CFG.N` (R420). -/
abbrev FRZ_CFG_N : Fld := ⟨0x130080 * 32 + 8, 8, 8, .rws, .imm, 3⟩
/-- `FRZ_CFG.ROUTE` (R420). -/
abbrev FRZ_CFG_ROUTE : Fld := ⟨0x130080 * 32 + 16, 1, 0, .rws, .imm, 3⟩
/-- `FRZ_STAT.FREEZE` (R420). -/
abbrev FRZ_STAT_FREEZE : Fld := ⟨0x130084 * 32 + 0, 1, 0, .ro, .none, 3⟩
/-- `FRZ_STAT.STALL` (R420). -/
abbrev FRZ_STAT_STALL : Fld := ⟨0x130084 * 32 + 1, 1, 0, .ro, .none, 3⟩
/-- `FRZ_STAT.REGIONS` (R420). -/
abbrev FRZ_STAT_REGIONS : Fld := ⟨0x130084 * 32 + 16, 9, 0, .ro, .none, 3⟩
/-- `STAT.UNDERRUN` (R420). -/
abbrev STAT_UNDERRUN : Fld := ⟨0x130088 * 32 + 0, 16, 0, .ro, .none, 3⟩
/-- `STAT.TILE_ERR` (R420). -/
abbrev STAT_TILE_ERR : Fld := ⟨0x130088 * 32 + 16, 16, 0, .ro, .none, 3⟩
/-- `REFRESH.COUNT` (R420). -/
abbrev REFRESH_COUNT : Fld := ⟨0x13008C * 32 + 0, 32, 0, .ro, .none, 3⟩
/-- `AUX_CMD.ADDR` (R420). -/
abbrev AUX_CMD_ADDR : Fld := ⟨0x130090 * 32 + 0, 20, 0, .rw, .imm, 3⟩
/-- `AUX_CMD.LEN` (R420). -/
abbrev AUX_CMD_LEN : Fld := ⟨0x130090 * 32 + 20, 4, 1, .rw, .imm, 3⟩
/-- `AUX_CMD.OP` (R420). -/
abbrev AUX_CMD_OP : Fld := ⟨0x130090 * 32 + 24, 3, 0, .rw, .imm, 3⟩
/-- `AUX_CMD.CODE` (R420). -/
abbrev AUX_CMD_CODE : Fld := ⟨0x130090 * 32 + 27, 3, 0, .ro, .none, 3⟩
/-- `AUX_CMD.BUSY` (R420). -/
abbrev AUX_CMD_BUSY : Fld := ⟨0x130090 * 32 + 30, 1, 0, .ro, .none, 3⟩
/-- `AUX_CMD.GO` (R420). -/
abbrev AUX_CMD_GO : Fld := ⟨0x130090 * 32 + 31, 1, 0, .wo, .imm, 0⟩
/-- `AUX_DATA[n].DATA` (R420). -/
abbrev AUX_DATA_DATA (n : Nat) : Fld := ⟨(0x130000 + 0x94 + 0x4 * n) * 32 + 0, 32, 0, .rw, .imm, 3⟩
/-- `PAL_ADDR.INDEX` (R420). -/
abbrev PAL_ADDR_INDEX : Fld := ⟨0x1300A4 * 32 + 0, 8, 0, .rw, .imm, 3⟩
/-- `PAL_ADDR.SEL` (R420). -/
abbrev PAL_ADDR_SEL : Fld := ⟨0x1300A4 * 32 + 8, 1, 0, .rw, .imm, 3⟩
/-- `PAL_DATA.RGBA` (R420). -/
abbrev PAL_DATA_RGBA : Fld := ⟨0x1300A8 * 32 + 0, 32, 0, .rws, .refresh, 3⟩
/-- `RWIN_POS[w].X` (R420). -/
abbrev RWIN_POS_X (w : Nat) : Fld := ⟨(0x130000 + 0xC0 + 0x8 * w) * 32 + 0, 12, 0, .rws, .refresh, 3⟩
/-- `RWIN_POS[w].Y` (R420). -/
abbrev RWIN_POS_Y (w : Nat) : Fld := ⟨(0x130000 + 0xC0 + 0x8 * w) * 32 + 16, 12, 0, .rws, .refresh, 3⟩
/-- `RWIN_CFG[w].EN` (R420). -/
abbrev RWIN_CFG_EN (w : Nat) : Fld := ⟨(0x130000 + 0xC4 + 0x8 * w) * 32 + 0, 1, 0, .rws, .refresh, 3⟩
/-- `RWIN_CFG[w].HEAD` (R420). -/
abbrev RWIN_CFG_HEAD (w : Nat) : Fld := ⟨(0x130000 + 0xC4 + 0x8 * w) * 32 + 1, 3, 0, .rws, .refresh, 3⟩
/-- `RWIN_CFG[w].SX` (R420). -/
abbrev RWIN_CFG_SX (w : Nat) : Fld := ⟨(0x130000 + 0xC4 + 0x8 * w) * 32 + 4, 1, 0, .rws, .refresh, 3⟩
/-- `RWIN_CFG[w].SY` (R420). -/
abbrev RWIN_CFG_SY (w : Nat) : Fld := ⟨(0x130000 + 0xC4 + 0x8 * w) * 32 + 5, 2, 0, .rws, .refresh, 3⟩
/-- `RWIN_CFG[w].FLIPX` (R420). -/
abbrev RWIN_CFG_FLIPX (w : Nat) : Fld := ⟨(0x130000 + 0xC4 + 0x8 * w) * 32 + 7, 1, 0, .rws, .refresh, 3⟩
/-- `SIG[r].CRC` (R420). -/
abbrev SIG_CRC (r : Nat) : Fld := ⟨(0x130000 + 0x100 + 0x4 * r) * 32 + 0, 32, 0, .ro, .none, 3⟩

/-- Every field of the page that R420 tables. -/
def fields : List Fld :=
  [OUT_EN, LINK_CFG_MAX_RATE, LINK_CFG_MAX_LANES, LINK_STAT_STATE, LINK_STAT_RATE, LINK_STAT_LANES, LINK_STAT_HPD, PCLK_KHZ, PCLK_SLOT, HTIM0_HACT, HTIM0_HFP, HTIM1_HSW, HTIM1_HBP, HTIM1_HNEG, VTIM0_VACT, VTIM0_VFP, VTIM1_VSW, VTIM1_VBP, VTIM1_VNEG, GL_CFG_EN, GL_CFG_FALL, GL_CFG_GL_DELAY, GL_STAT_LOCKED, GL_STAT_LOST, BG_RGB, FETCH_WMARK, OV_CFG_EN, OV_CFG_FMT, OV_CFG_PACK, OV_CFG_KEY_EN, OV_CFG_GALPHA, OV_CFG_KEY, OV_BASE_ADDR, OV_HDR_ADDR, OV_SEQ_SEQ, FRZ_CFG_REGIONS, FRZ_CFG_N, FRZ_CFG_ROUTE, FRZ_STAT_FREEZE, FRZ_STAT_STALL, FRZ_STAT_REGIONS, STAT_UNDERRUN, STAT_TILE_ERR, REFRESH_COUNT, AUX_CMD_ADDR, AUX_CMD_LEN, AUX_CMD_OP, AUX_CMD_CODE, AUX_CMD_BUSY, AUX_CMD_GO] ++
  ((List.range 4).flatMap fun n => [AUX_DATA_DATA n]) ++
  [PAL_ADDR_INDEX, PAL_ADDR_SEL, PAL_DATA_RGBA] ++
  ((List.range 8).flatMap fun w => [RWIN_POS_X w]) ++
  ((List.range 8).flatMap fun w => [RWIN_POS_Y w]) ++
  ((List.range 8).flatMap fun w => [RWIN_CFG_EN w]) ++
  ((List.range 8).flatMap fun w => [RWIN_CFG_HEAD w]) ++
  ((List.range 8).flatMap fun w => [RWIN_CFG_SX w]) ++
  ((List.range 8).flatMap fun w => [RWIN_CFG_SY w]) ++
  ((List.range 8).flatMap fun w => [RWIN_CFG_FLIPX w]) ++
  ((List.range 9).flatMap fun r => [SIG_CRC r])

end RND

namespace CTL

/-- `BOOT_STAT.STAGE` (R447). -/
abbrev BOOT_STAT_STAGE : Fld := ⟨0x10040 * 32 + 0, 3, 0, .ro, .none, 7⟩
/-- `BOOT_STAT.FW_SLOT` (R447). -/
abbrev BOOT_STAT_FW_SLOT : Fld := ⟨0x10040 * 32 + 3, 1, 0, .ro, .none, 7⟩
/-- `BOOT_STAT.FALLBACK` (R447). -/
abbrev BOOT_STAT_FALLBACK : Fld := ⟨0x10040 * 32 + 4, 1, 0, .ro, .none, 7⟩
/-- `BOOT_STAT.CFG_COPY` (R447). -/
abbrev BOOT_STAT_CFG_COPY : Fld := ⟨0x10040 * 32 + 5, 1, 0, .ro, .none, 7⟩
/-- `BOOT_STAT.CFG_DEFAULT` (R447). -/
abbrev BOOT_STAT_CFG_DEFAULT : Fld := ⟨0x10040 * 32 + 6, 1, 0, .ro, .none, 7⟩
/-- `BOOT_STAT.FLASH_SLOW` (R447). -/
abbrev BOOT_STAT_FLASH_SLOW : Fld := ⟨0x10040 * 32 + 7, 1, 0, .ro, .none, 7⟩
/-- `BOOT_STAT.CFG_REJ` (R447). -/
abbrev BOOT_STAT_CFG_REJ : Fld := ⟨0x10040 * 32 + 8, 8, 0, .ro, .none, 7⟩
/-- `BOOT_STAT.BOOT_TRY` (R447). -/
abbrev BOOT_STAT_BOOT_TRY : Fld := ⟨0x10040 * 32 + 16, 2, 0, .ro, .none, 15⟩
/-- `BOOT_CTL.BOOT_OK` (R447). -/
abbrev BOOT_CTL_BOOT_OK : Fld := ⟨0x10044 * 32 + 0, 1, 0, .wo, .imm, 0⟩
/-- `FLASH_CMD.AREA` (R447). -/
abbrev FLASH_CMD_AREA : Fld := ⟨0x10048 * 32 + 0, 3, 0, .wo, .imm, 0⟩
/-- `FLASH_CMD.GO` (R447). -/
abbrev FLASH_CMD_GO : Fld := ⟨0x10048 * 32 + 31, 1, 0, .wo, .imm, 0⟩
/-- `FL_SRC_LO.ADDR` (R447). -/
abbrev FL_SRC_LO_ADDR : Fld := ⟨0x1004C * 32 + 6, 26, 0, .rw, .imm, 3⟩
/-- `FL_SRC_HI.ADDR` (R447). -/
abbrev FL_SRC_HI_ADDR : Fld := ⟨0x10050 * 32 + 0, 8, 0, .rw, .imm, 3⟩
/-- `FL_LEN.LEN` (R447). -/
abbrev FL_LEN_LEN : Fld := ⟨0x10054 * 32 + 0, 24, 0, .rw, .imm, 3⟩
/-- `FLASH_STAT.BUSY` (R447). -/
abbrev FLASH_STAT_BUSY : Fld := ⟨0x10058 * 32 + 0, 1, 0, .ro, .none, 3⟩
/-- `FLASH_STAT.CODE` (R447). -/
abbrev FLASH_STAT_CODE : Fld := ⟨0x10058 * 32 + 8, 8, 0, .ro, .none, 3⟩
/-- `FLASH_STAT.HELD` (R447). -/
abbrev FLASH_STAT_HELD : Fld := ⟨0x10058 * 32 + 16, 1, 0, .ro, .none, 7⟩
/-- `LOCKSTEP.RESTARTS` (R447). -/
abbrev LOCKSTEP_RESTARTS : Fld := ⟨0x1005C * 32 + 0, 16, 0, .ro, .none, 7⟩
/-- `LOCKSTEP.HELD` (R447). -/
abbrev LOCKSTEP_HELD : Fld := ⟨0x1005C * 32 + 16, 1, 0, .ro, .none, 7⟩
/-- `LOG_PTR.OFS` (R447). -/
abbrev LOG_PTR_OFS : Fld := ⟨0x10060 * 32 + 0, 23, 0, .ro, .none, 15⟩

/-- Every field of the page that R447 tables. -/
def fields : List Fld :=
  [BOOT_STAT_STAGE, BOOT_STAT_FW_SLOT, BOOT_STAT_FALLBACK, BOOT_STAT_CFG_COPY, BOOT_STAT_CFG_DEFAULT, BOOT_STAT_FLASH_SLOW, BOOT_STAT_CFG_REJ, BOOT_STAT_BOOT_TRY, BOOT_CTL_BOOT_OK, FLASH_CMD_AREA, FLASH_CMD_GO, FL_SRC_LO_ADDR, FL_SRC_HI_ADDR, FL_LEN_LEN, FLASH_STAT_BUSY, FLASH_STAT_CODE, FLASH_STAT_HELD, LOCKSTEP_RESTARTS, LOCKSTEP_HELD, LOG_PTR_OFS]

end CTL

namespace CLK

/-- `UPDATE.GO` (R448). -/
abbrev UPDATE_GO : Fld := ⟨0x30040 * 32 + 0, 1, 0, .wo, .tick, 0⟩
/-- `UPDATE.PENDING` (R448). -/
abbrev UPDATE_PENDING : Fld := ⟨0x30040 * 32 + 1, 1, 0, .ro, .none, 3⟩
/-- `SYNC_EN0.MASK` (R448). -/
abbrev SYNC_EN0_MASK : Fld := ⟨0x30044 * 32 + 0, 32, 4294967295, .rws, .tick, 3⟩
/-- `SYNC_EN1.MASK` (R448). -/
abbrev SYNC_EN1_MASK : Fld := ⟨0x30048 * 32 + 0, 16, 0, .rws, .tick, 3⟩
/-- `PHY_LOCK.DDR` (R448). -/
abbrev PHY_LOCK_DDR : Fld := ⟨0x3004C * 32 + 0, 4, 0, .ro, .none, 3⟩
/-- `PHY_LOCK.CXL` (R448). -/
abbrev PHY_LOCK_CXL : Fld := ⟨0x3004C * 32 + 4, 1, 0, .ro, .none, 0⟩
/-- `PHY_LOCK.GOSIA` (R448). -/
abbrev PHY_LOCK_GOSIA : Fld := ⟨0x3004C * 32 + 5, 4, 0, .ro, .none, 3⟩
/-- `PHY_LOCK.DP` (R448). -/
abbrev PHY_LOCK_DP : Fld := ⟨0x3004C * 32 + 9, 1, 0, .ro, .none, 3⟩
/-- `SYN_STAT[s].LOCK` (R448). -/
abbrev SYN_STAT_LOCK (s : Nat) : Fld := ⟨(0x30000 + 0x50 + 0x4 * s) * 32 + 0, 1, 0, .ro, .none, 3⟩
/-- `SYN_STAT[s].STORED` (R448). -/
abbrev SYN_STAT_STORED (s : Nat) : Fld := ⟨(0x30000 + 0x50 + 0x4 * s) * 32 + 1, 1, 0, .ro, .none, 3⟩
/-- `SYN_STAT[s].SLOT` (R448). -/
abbrev SYN_STAT_SLOT (s : Nat) : Fld := ⟨(0x30000 + 0x50 + 0x4 * s) * 32 + 2, 4, 0, .ro, .none, 3⟩
/-- `SYN_STAT[s].BAND` (R448). -/
abbrev SYN_STAT_BAND (s : Nat) : Fld := ⟨(0x30000 + 0x50 + 0x4 * s) * 32 + 8, 8, 0, .ro, .none, 15⟩
/-- `OUT[o].DIV` (R448). -/
abbrev OUT_DIV (o : Nat) : Fld := ⟨(0x30000 + 0x80 + 0x4 * o) * 32 + 0, 10, (CLK.divReset o), .rws, .tick, 7⟩
/-- `OUT[o].FDELAY` (R448). -/
abbrev OUT_FDELAY (o : Nat) : Fld := ⟨(0x30000 + 0x80 + 0x4 * o) * 32 + 10, 6, 0, .rws, .tick, 7⟩
/-- `OUT[o].EN` (R448). -/
abbrev OUT_EN (o : Nat) : Fld := ⟨(0x30000 + 0x80 + 0x4 * o) * 32 + 16, 1, (CLK.enReset o), .rws, .tick, 7⟩

/-- Every field of the page that R448 tables. -/
def fields : List Fld :=
  [UPDATE_GO, UPDATE_PENDING, SYNC_EN0_MASK, SYNC_EN1_MASK, PHY_LOCK_DDR, PHY_LOCK_CXL, PHY_LOCK_GOSIA, PHY_LOCK_DP] ++
  ((List.range 6).flatMap fun s => [SYN_STAT_LOCK s]) ++
  ((List.range 6).flatMap fun s => [SYN_STAT_STORED s]) ++
  ((List.range 6).flatMap fun s => [SYN_STAT_SLOT s]) ++
  ((List.range 6).flatMap fun s => [SYN_STAT_BAND s]) ++
  ((List.range 48).flatMap fun o => [OUT_DIV o]) ++
  ((List.range 48).flatMap fun o => [OUT_FDELAY o]) ++
  ((List.range 48).flatMap fun o => [OUT_EN o])

end CLK

namespace PWR

/-- `STATE.STATE` (R449). -/
abbrev STATE_STATE : Fld := ⟨0x40040 * 32 + 0, 2, 0, .ro, .none, 7⟩
/-- `STATE.BY_EXPIRY` (R449). -/
abbrev STATE_BY_EXPIRY : Fld := ⟨0x40040 * 32 + 2, 1, 0, .ro, .none, 7⟩
/-- `PARK.GO` (R449). -/
abbrev PARK_GO : Fld := ⟨0x40044 * 32 + 0, 1, 0, .wo, .imm, 0⟩
/-- `PARK.EXIT` (R449). -/
abbrev PARK_EXIT : Fld := ⟨0x40044 * 32 + 1, 1, 0, .wo, .imm, 0⟩
/-- `DOM_ON_LO.ON` (R449). -/
abbrev DOM_ON_LO_ON : Fld := ⟨0x40048 * 32 + 0, 32, 1, .ro, .none, 0⟩
/-- `DOM_ON_HI.ON` (R449). -/
abbrev DOM_ON_HI_ON : Fld := ⟨0x4004C * 32 + 0, 18, 65536, .ro, .none, 0⟩
/-- `RESET_CAUSE.POR` (R449). -/
abbrev RESET_CAUSE_POR : Fld := ⟨0x40050 * 32 + 0, 1, 1, .w1c, .imm, 31⟩
/-- `RESET_CAUSE.WARM` (R449). -/
abbrev RESET_CAUSE_WARM : Fld := ⟨0x40050 * 32 + 1, 1, 0, .w1c, .imm, 31⟩
/-- `RESET_CAUSE.TAKEOVER` (R449). -/
abbrev RESET_CAUSE_TAKEOVER : Fld := ⟨0x40050 * 32 + 2, 1, 0, .w1c, .imm, 31⟩
/-- `RESET_CAUSE.HOST` (R449). -/
abbrev RESET_CAUSE_HOST : Fld := ⟨0x40050 * 32 + 3, 1, 0, .w1c, .imm, 30⟩
/-- `RESET_CAUSE.FLR` (R449). -/
abbrev RESET_CAUSE_FLR : Fld := ⟨0x40050 * 32 + 4, 1, 0, .w1c, .imm, 29⟩

/-- Every field of the page that R449 tables. -/
def fields : List Fld :=
  [STATE_STATE, STATE_BY_EXPIRY, PARK_GO, PARK_EXIT, DOM_ON_LO_ON, DOM_ON_HI_ON, RESET_CAUSE_POR, RESET_CAUSE_WARM, RESET_CAUSE_TAKEOVER, RESET_CAUSE_HOST, RESET_CAUSE_FLR]

end PWR

namespace SEC

/-- `SERIAL_LO.SN` (R450). -/
abbrev SERIAL_LO_SN : Fld := ⟨0x140040 * 32 + 0, 32, (Config.serialNumber.toNat % 4294967296), .ro, .none, 63⟩
/-- `SERIAL_HI.SN` (R450). -/
abbrev SERIAL_HI_SN : Fld := ⟨0x140044 * 32 + 0, 32, (Config.serialNumber.toNat / 4294967296), .ro, .none, 63⟩
/-- `LOG_CNT.COUNT` (R450). -/
abbrev LOG_CNT_COUNT : Fld := ⟨0x140048 * 32 + 0, 6, 0, .ro, .none, 7⟩
/-- `LOG_ADDR.WORD` (R450). -/
abbrev LOG_ADDR_WORD : Fld := ⟨0x14004C * 32 + 2, 9, 0, .rw, .imm, 3⟩
/-- `LOG_DATA.DATA` (R450). -/
abbrev LOG_DATA_DATA : Fld := ⟨0x140050 * 32 + 0, 32, 0, .ro, .none, 0⟩
/-- `MT_STAT.UNLOCKED` (R450). -/
abbrev MT_STAT_UNLOCKED : Fld := ⟨0x140054 * 32 + 0, 1, 0, .ro, .none, 7⟩
/-- `MT_STAT.FAILS` (R450). -/
abbrev MT_STAT_FAILS : Fld := ⟨0x140054 * 32 + 8, 8, 0, .ro, .none, 7⟩
/-- `MT_NONCE_LO.NONCE` (R450). -/
abbrev MT_NONCE_LO_NONCE : Fld := ⟨0x140058 * 32 + 0, 32, 0, .ro, .none, 7⟩
/-- `MT_NONCE_HI.NONCE` (R450). -/
abbrev MT_NONCE_HI_NONCE : Fld := ⟨0x14005C * 32 + 0, 32, 0, .ro, .none, 7⟩
/-- `MT_PORT.DATA` (R450). -/
abbrev MT_PORT_DATA : Fld := ⟨0x140060 * 32 + 0, 32, 0, .wo, .imm, 0⟩
/-- `MT_LOCK.LOCK` (R450). -/
abbrev MT_LOCK_LOCK : Fld := ⟨0x140064 * 32 + 0, 1, 0, .wo, .imm, 0⟩
/-- `MR[i].W[n].VALUE` (R450). -/
abbrev MR_W (i n : Nat) : Fld := ⟨(0x140100 + 0x40 * (i - 1) + 4 * n) * 32 + 0, 32, 0, .ro, .none, 7⟩

/-- Every field of the page that R450 tables. -/
def fields : List Fld :=
  [SERIAL_LO_SN, SERIAL_HI_SN, LOG_CNT_COUNT, LOG_ADDR_WORD, LOG_DATA_DATA, MT_STAT_UNLOCKED, MT_STAT_FAILS, MT_NONCE_LO_NONCE, MT_NONCE_HI_NONCE, MT_PORT_DATA, MT_LOCK_LOCK] ++
  (((List.range 5).map (· + 1)).flatMap fun i => (List.range 12).flatMap fun n => [MR_W i n])

end SEC

namespace HDR

/-- `PAGE_ID.VERSION` (R458). -/
abbrev PAGE_ID_VERSION (p : Page) : Fld := ⟨(p.base + 0x0) * 32 + 0, 8, 1, .ro, .none, 63⟩
/-- `PAGE_ID.TYPE` (R458). -/
abbrev PAGE_ID_TYPE (p : Page) : Fld := ⟨(p.base + 0x0) * 32 + 8, 8, p.type, .ro, .none, 63⟩
/-- `PAGE_ID.INST` (R458). -/
abbrev PAGE_ID_INST (p : Page) : Fld := ⟨(p.base + 0x0) * 32 + 16, 8, p.instNo, .ro, .none, 63⟩
/-- `PAGE_ID.BLOCK` (R458). -/
abbrev PAGE_ID_BLOCK (p : Page) : Fld := ⟨(p.base + 0x0) * 32 + 24, 8, p.blockCode, .ro, .none, 63⟩
/-- `NEXT_CAP.OFS` (R458). -/
abbrev NEXT_CAP_OFS (p : Page) : Fld := ⟨(p.base + 0x4) * 32 + 0, 24, p.nextCap, .ro, .none, 63⟩
/-- `CTRL.EN` (R458). -/
abbrev CTRL_EN (p : Page) : Fld := ⟨(p.base + 0x8) * 32 + 0, 1, 0, .ro, .none, 3⟩
/-- `CTRL.SOFT_RESET` (R458). -/
abbrev CTRL_SOFT_RESET (p : Page) : Fld := ⟨(p.base + 0x8) * 32 + 1, 1, 0, .wo, .imm, 0⟩
/-- `CTRL.LOCK` (R458). -/
abbrev CTRL_LOCK (p : Page) : Fld := ⟨(p.base + 0x8) * 32 + 2, 1, 0, .rw, .imm, 7⟩
/-- `CTRL.VIEW_SHADOW` (R458). -/
abbrev CTRL_VIEW_SHADOW (p : Page) : Fld := ⟨(p.base + 0x8) * 32 + 3, 1, 0, .rw, .imm, 7⟩
/-- `STAT.BUSY` (R458). -/
abbrev STAT_BUSY (p : Page) : Fld := ⟨(p.base + 0xC) * 32 + 0, 1, 0, .ro, .none, 3⟩
/-- `STAT.ERROR` (R458). -/
abbrev STAT_ERROR (p : Page) : Fld := ⟨(p.base + 0xC) * 32 + 1, 1, 0, .ro, .none, 3⟩
/-- `STAT.COMMIT_PENDING` (R458). -/
abbrev STAT_COMMIT_PENDING (p : Page) : Fld := ⟨(p.base + 0xC) * 32 + 2, 1, 0, .ro, .none, 3⟩
/-- `STAT.RESET_PENDING` (R458). -/
abbrev STAT_RESET_PENDING (p : Page) : Fld := ⟨(p.base + 0xC) * 32 + 3, 1, 0, .ro, .none, 3⟩
/-- `IRQ_STAT.IRQ` (R458). -/
abbrev IRQ_STAT_IRQ (p : Page) : Fld := ⟨(p.base + 0x10) * 32 + 0, 32, 0, .w1c, .imm, 3⟩
/-- `IRQ_EN.EN` (R458). -/
abbrev IRQ_EN_EN (p : Page) : Fld := ⟨(p.base + 0x14) * 32 + 0, 32, 0, .rw, .imm, 3⟩
/-- `IRQ_FORCE.FORCE` (R458). -/
abbrev IRQ_FORCE_FORCE (p : Page) : Fld := ⟨(p.base + 0x18) * 32 + 0, 32, 0, .wo, .imm, 0⟩
/-- `ERR_CODE.CODE` (R458). -/
abbrev ERR_CODE_CODE (p : Page) : Fld := ⟨(p.base + 0x1C) * 32 + 0, 8, 0, .ro, .none, 3⟩
/-- `ERR_CODE.WORD` (R458). -/
abbrev ERR_CODE_WORD (p : Page) : Fld := ⟨(p.base + 0x1C) * 32 + 8, 10, 0, .ro, .none, 3⟩
/-- `COMMIT.KEY` (R458). -/
abbrev COMMIT_KEY (p : Page) : Fld := ⟨(p.base + 0x20) * 32 + 0, 32, p.commitKey, .rw, .imm, 63⟩
/-- `COMMIT_AT.AT` (R458). -/
abbrev COMMIT_AT_AT (p : Page) : Fld := ⟨(p.base + 0x24) * 32 + 0, 2, 0, .rw, .imm, 7⟩
/-- `SHADOW_SEQ.SEQ` (R458). -/
abbrev SHADOW_SEQ_SEQ (p : Page) : Fld := ⟨(p.base + 0x28) * 32 + 0, 32, 0, .ro, .none, 7⟩
/-- `PARITY_LOG.COUNT` (R458). -/
abbrev PARITY_LOG_COUNT (p : Page) : Fld := ⟨(p.base + 0x2C) * 32 + 0, 16, 0, .ro, .none, 3⟩
/-- `PARITY_LOG.WORD` (R458). -/
abbrev PARITY_LOG_WORD (p : Page) : Fld := ⟨(p.base + 0x2C) * 32 + 16, 10, 0, .ro, .none, 3⟩
/-- `PARITY_LOG.NEW` (R458). -/
abbrev PARITY_LOG_NEW (p : Page) : Fld := ⟨(p.base + 0x2C) * 32 + 31, 1, 0, .w1c, .imm, 3⟩

/-- Every field of the page that R458 tables. -/
def fields (p : Page) : List Fld :=
  [PAGE_ID_VERSION p, PAGE_ID_TYPE p, PAGE_ID_INST p, PAGE_ID_BLOCK p, NEXT_CAP_OFS p, CTRL_EN p, CTRL_SOFT_RESET p, CTRL_LOCK p, CTRL_VIEW_SHADOW p, STAT_BUSY p, STAT_ERROR p, STAT_COMMIT_PENDING p, STAT_RESET_PENDING p, IRQ_STAT_IRQ p, IRQ_EN_EN p, IRQ_FORCE_FORCE p, ERR_CODE_CODE p, ERR_CODE_WORD p, COMMIT_KEY p, COMMIT_AT_AT p, SHADOW_SEQ_SEQ p, PARITY_LOG_COUNT p, PARITY_LOG_WORD p, PARITY_LOG_NEW p]

end HDR

namespace CAP

/-- `IDENT.STEPPING` (R462). -/
abbrev IDENT_STEPPING : Fld := ⟨0x40 * 32 + 0, 8, 177, .ro, .none, 63⟩
/-- `IDENT.PART` (R462). -/
abbrev IDENT_PART : Fld := ⟨0x40 * 32 + 8, 16, 38464, .ro, .none, 63⟩
/-- `IDENT.FAMILY` (R462). -/
abbrev IDENT_FAMILY : Fld := ⟨0x40 * 32 + 24, 8, 77, .ro, .none, 63⟩
/-- `FEATURES.MAX_HEADS` (R462). -/
abbrev FEATURES_MAX_HEADS : Fld := ⟨0x44 * 32 + 0, 4, 8, .ro, .none, 63⟩
/-- `FEATURES.TWIN` (R462). -/
abbrev FEATURES_TWIN : Fld := ⟨0x44 * 32 + 4, 1, 1, .ro, .none, 63⟩
/-- `FEATURES.RENDER` (R462). -/
abbrev FEATURES_RENDER : Fld := ⟨0x44 * 32 + 5, 1, 1, .ro, .none, 63⟩
/-- `FEATURES.DDR_CH` (R462). -/
abbrev FEATURES_DDR_CH : Fld := ⟨0x44 * 32 + 8, 4, 4, .ro, .none, 63⟩
/-- `FEATURES.GSL_PORTS` (R462). -/
abbrev FEATURES_GSL_PORTS : Fld := ⟨0x44 * 32 + 12, 4, 4, .ro, .none, 63⟩
/-- `CONTRACTS.MASK` (R462). -/
abbrev CONTRACTS_MASK : Fld := ⟨0x48 * 32 + 0, 16, 7, .ro, .none, 63⟩
/-- `PAGES.COUNT` (R462). -/
abbrev PAGES_COUNT : Fld := ⟨0x4C * 32 + 0, 8, 60, .ro, .none, 63⟩
/-- `STRAPS.TWNPOS` (R462). -/
abbrev STRAPS_TWNPOS : Fld := ⟨0x50 * 32 + 0, 1, 0, .ro, .none, 63⟩
/-- `STRAPS.GSLVAR` (R462). -/
abbrev STRAPS_GSLVAR : Fld := ⟨0x50 * 32 + 1, 4, 0, .ro, .none, 63⟩
/-- `ACC_ERR.COUNT` (R462). -/
abbrev ACC_ERR_COUNT : Fld := ⟨0x54 * 32 + 0, 16, 0, .ro, .none, 7⟩
/-- `ACC_ERR.PATH` (R462). -/
abbrev ACC_ERR_PATH : Fld := ⟨0x54 * 32 + 16, 2, 0, .ro, .none, 7⟩
/-- `ACC_ERR.NEW` (R462). -/
abbrev ACC_ERR_NEW : Fld := ⟨0x54 * 32 + 31, 1, 0, .w1c, .imm, 7⟩
/-- `SCRATCH.VALUE` (R462). -/
abbrev SCRATCH_VALUE : Fld := ⟨0x58 * 32 + 0, 32, 0, .rw, .imm, 31⟩

/-- Every field of the page that R462 tables. -/
def fields : List Fld :=
  [IDENT_STEPPING, IDENT_PART, IDENT_FAMILY, FEATURES_MAX_HEADS, FEATURES_TWIN, FEATURES_RENDER, FEATURES_DDR_CH, FEATURES_GSL_PORTS, CONTRACTS_MASK, PAGES_COUNT, STRAPS_TWNPOS, STRAPS_GSLVAR, ACC_ERR_COUNT, ACC_ERR_PATH, ACC_ERR_NEW, SCRATCH_VALUE]

end CAP

end Sys2Proof.Machine

namespace Sys2Proof

open Sys2Proof.Machine

/-- The fields of a page: the common header (R458) and the page's own. -/
def Page.fields (p : Page) : List Fld :=
  HDR.fields p ++
  match p with
  | .cap => CAP.fields | .ctl => CTL.fields | .scd => SCD.fields | .clk => CLK.fields
  | .pwr => PWR.fields | .hkp => HKP.fields | .thm => THM.fields | .saf => SAF.fields
  | .twn => TWN.fields | .emt h => EMT.fields h | .rfe h => RFE.fields h | .tdc h => TDC.fields h
  | .wfl h => WFL.fields h | .stp => STP.fields | .scm => SCM.fields | .skm => SKM.fields
  | .flt => FLT.fields | .msk => MSK.fields | .ptb => PTB.fields | .lth => LTH.fields
  | .mem c => MEM.fields c | .cxl0 => CXL0.fields | .cxl1 => CXL1.fields | .gsl => GSL.fields
  | .tim => TIM.fields | .dst => DST.fields | .rnd => RND.fields | .sec => SEC.fields
  | .cal => CAL.fields

end Sys2Proof
end

