-- ==== Sys2Proof/Machine/Ops.lean ====
section
/-! DEFINITION. The named operations over registers, memory, interrupts and event records that every meaning is built from. -/

namespace Sys2Proof.Machine

/-! ## Register fields -/

/-- The live value of a field. -/
def State.rd (s : State) (f : Fld) : Nat := Sparse.get s.regs f.key f.reset

/-- The live value of a one-bit field. -/
def State.on (s : State) (f : Fld) : Bool := s.rd f == 1

/-- A field's live value set, cut to the field's width. -/
def State.wr (s : State) (f : Fld) (v : Nat) : State :=
  { s with regs := Sparse.set s.regs f.key (v % 2 ^ f.width) f.reset }

/-- A one-bit field set from a truth value. -/
def State.wrB (s : State) (f : Fld) (b : Bool) : State := s.wr f (b2n b)

/-- The shadow value of a field: the staged one, else the live value (log entry 7). -/
def State.rdSh (s : State) (f : Fld) : Nat := Sparse.get s.shadow f.key (s.rd f)

/-- Whether a commit that waits brings a value for a field (R22). -/
def State.waits (s : State) (key : Nat) : Bool := s.commits.any fun c => c.vals.any fun v => v.1 == key

/-- A value staged in the shadow. While a commit of the field waits, the live value is staged too: the live copy will change
under it, and the value written is what the next commit brings (R22). -/
def State.wrSh (s : State) (f : Fld) (v : Nat) : State :=
  { s with shadow := if s.waits f.key then Sparse.put s.shadow f.key (v % 2 ^ f.width)
                     else Sparse.set s.shadow f.key (v % 2 ^ f.width) (s.rd f) }

/-- A field as a signed number. -/
def State.rdI (s : State) (f : Fld) : Int := sgn f.width (s.rd f)

/-- A field of signed content set. -/
def State.wrI (s : State) (f : Fld) (v : Int) : State := s.wr f (unsgn f.width v)

/-- A count raised by `n`, stopping at the field's largest value. -/
def State.satAdd (s : State) (f : Fld) (n : Nat) : State := s.wr f (min (s.rd f + n) (2 ^ f.width - 1))

/-- A count raised by one, stopping at the field's largest value. -/
def State.satInc (s : State) (f : Fld) : State := s.satAdd f 1

/-- A count raised by one modulo the field's width. -/
def State.wrapInc (s : State) (f : Fld) : State := s.wr f (s.rd f + 1)

/-- Bits of a field set. -/
def State.orBits (s : State) (f : Fld) (m : Nat) : State := s.wr f (s.rd f ||| m)

/-- One bit of a field put at a truth value. -/
def State.bitPut (s : State) (f : Fld) (i : Nat) (b : Bool) : State := s.wr f (putBit (s.rd f) i b)

/-- A folded sequence of register changes. -/
def State.each {α : Type} (l : List α) (f : α → State → State) (s : State) : State :=
  l.foldl (fun s a => f a s) s

/-! ## Free values -/

/-- The free value that the counter now points to. -/
def State.freeVal (s : State) : Nat := Config.freeNat s.free

/-- The counter of free values advanced. -/
def State.freeNext (s : State) : State := { s with free := s.free + 1 }

/-- `n` free bytes from the counter on. -/
def State.freeBytes (s : State) (n : Nat) : List Byte := (List.range n).map fun i => Config.freeByte (s.free * 4096 + i)

/-! ## What leaves the device -/

/-- Something sent out. -/
def State.send (s : State) (o : Out) : State := { s with out := s.out ++ [o] }

/-! ## Power state and role -/

/-- The device is in HOLD (R441). -/
def State.inHold (s : State) : Bool := s.rd PWR.STATE_STATE == 2

/-- The device is in PARK (R441). -/
def State.inPark (s : State) : Bool := s.rd PWR.STATE_STATE == 1

/-- Whether the thermal latch is set (R256). -/
def State.latched (s : State) : Bool := s.on THM.LATCH_INFO_LATCHED

/-- The twin role (R314): 0 SINGLE, and the rest as R333 codes it. -/
def State.role (s : State) : Nat := s.rd TWN.STAT_ROLE

/-- The live settings of Scrim, Skim, Float, Masking and the point builder: the pages at 0x000C_1000 to 0x000C_5000 (R461). -/
def State.settings (s : State) : List (Nat × Nat) :=
  s.regs.filter fun e => decide (0xC1000 * 32 ≤ e.1) && decide (e.1 < 0xC6000 * 32)

/-- A setting in force when a window began (R21, R23). -/
def Win.rd (w : Win) (f : Fld) : Nat := Sparse.get w.set f.key f.reset

/-- A one-bit setting in force when a window began. -/
def Win.on (w : Win) (f : Fld) : Bool := w.rd f == 1

/-! ## Position in time -/

/-- Tick within the frame. -/
def State.tick (s : State) : Nat := s.rd SCD.TICK_POS_TICK

/-- Frame counter. -/
def State.frame (s : State) : Nat := s.rd SCD.TICK_POS_FRAME

/-- Tick within the coat, which is the mirror step (R12). -/
def State.step128 (s : State) : Nat := s.tick % 128

/-- Coat of the frame (R12). -/
def State.coat (s : State) : Nat := s.tick / 128

/-- The position word of records and messages: [8:0] tick, [23:9] frame (R343, R348). -/
def State.pos (s : State) : Nat := s.tick + 512 * s.frame

/-- The number of the next tick boundary a request received `ns` into the tick meets (R20). -/
def State.nextTick (s : State) (ns : Nat) : Nat := if ns ≤ 99000 then s.now + 1 else s.now + 2

/-- The number of the next coat boundary a request received `ns` into the tick meets (R20). -/
def State.nextCoat (s : State) (ns : Nat) : Nat :=
  let b := s.now + (128 - s.tick % 128)
  if s.now + 1 = b ∧ 99000 < ns then b + 128 else b

/-- The number of the next frame boundary a request received `ns` into the tick meets (R20). -/
def State.nextFrame (s : State) (ns : Nat) : Nat :=
  let b := s.now + (512 - s.tick)
  if s.now + 1 = b ∧ 99000 < ns then b + 512 else b

/-- The position within the frame of the tick with number `n`. -/
def State.tickOf (s : State) (n : Nat) : Nat := (s.tick + n + 512 * (s.now / 512 + 1) - s.now) % 512

/-- The frame counter at the tick with number `n`. -/
def State.frameOf (s : State) (n : Nat) : Nat := ((s.frame + 32768) * 512 + s.tick + n - s.now) / 512 % 32768

/-- Domain time as R111 lays it out, at the start of the tick in progress. -/
def State.dtime64 (s : State) : Nat := s.tim.dtime / 2 ^ 24 % 2 ^ 64

/-! ## Heads -/

/-- The heads of the image in force. -/
def State.headMask (s : State) : Nat := s.rd SCD.ACTIVE_HEAD_MASK

/-- Whether a head is present in the image in force. -/
def State.present (s : State) (h : Nat) : Bool := hasBit s.headMask h

/-- The numbers of the present heads. -/
def State.heads (s : State) : List (Fin 8) := (List.finRange 8).filter fun h => s.present h.val

/-! ## Device memory and flash -/

/-- A byte of device memory. -/
def State.ld (s : State) (a : Nat) : Byte := Sparse.get s.mem a 0

/-- A byte of device memory stored. -/
def State.st (s : State) (a : Nat) (b : Byte) : State := { s with mem := Sparse.set s.mem a b 0 }

/-- `n` bytes of device memory from an address. -/
def State.ldN (s : State) (a n : Nat) : List Byte := (List.range n).map fun i => s.ld (a + i)

/-- Bytes stored to device memory from an address. -/
def State.stN (s : State) (a : Nat) : List Byte → State
  | [] => s
  | b :: t => (s.st a b).stN (a + 1) t

/-- A byte of the configuration flash; erased flash reads 0xFF. -/
def State.fld (s : State) (a : Nat) : Byte := Sparse.get s.flash a 0xFF

/-- `n` bytes of the configuration flash. -/
def State.fldN (s : State) (a n : Nat) : List Byte := (List.range n).map fun i => s.fld (a + i)

/-- Bytes programmed into the configuration flash. -/
def State.fstN (s : State) (a : Nat) : List Byte → State
  | [] => s
  | b :: t => { s with flash := Sparse.set s.flash a b 0xFF }.fstN (a + 1) t

/-- A range of the configuration flash erased. -/
def State.ferase (s : State) (a n : Nat) : State :=
  { s with flash := s.flash.filter fun c => !(decide (a ≤ c.1) && decide (c.1 < a + n)) }

/-- Installed device memory in bytes (R237 `LTH.MEM_SIZE`, R339). -/
def State.memSize (s : State) : Nat := s.rd LTH.MEM_SIZE_MIB * 2 ^ 20

/-! ## Interrupts (R351, R457) -/

/-- The default vector of a page: 12 plus BAR0 offset bits [21:16] (R351, R461). -/
def defaultVec (slot : Nat) : Nat := 12 + slot * 4096 / 65536 % 64

/-- The vector of the page in a 4 KiB slot of BAR0. -/
def State.vecOf (s : State) (slot : Nat) : Nat := Sparse.get s.host.route slot (defaultVec slot)

/-- A word of the MSI-X table; every entry is masked at reset. Entry v has its address at words 4v and 4v + 1, its
data at 4v + 2 and its mask bit at 4v + 3 (R351). -/
def State.msixWord (s : State) (i : Nat) : Nat := Sparse.get s.host.msix i (if i % 4 = 3 then 1 else 0)

/-- The message of a vector sent, or its pending bit set while the vector is masked (R351). -/
def State.message (s : State) (v : Nat) : State :=
  if s.msixWord (4 * v + 3) % 2 = 1 then { s with host := { s.host with pba := setBit s.host.pba v } }
  else s.send (.msix v (s.msixWord (4 * v) + 4294967296 * s.msixWord (4 * v + 1)) (s.msixWord (4 * v + 2)))

/-- A vector signalled; vectors 0 to 10 at most once in `MOD` ticks (R351). -/
def State.signal (s : State) (v : Nat) : State :=
  if v ≤ 10 ∧ s.now < Sparse.get s.host.vecLast v 0 + s.rd CXL0.MOD_TICKS ∧ Sparse.get s.host.vecLast v 0 ≠ 0 then
    { s with host := { s.host with vecHeld := setBit s.host.vecHeld v } }
  else if v ≤ 10 then
    { s with host := { s.host with vecLast := Sparse.put s.host.vecLast v (s.now + 1) } }.message v
  else s.message v

/-- The vectors that `MOD` held back and may now be signalled. -/
def State.signalHeld (s : State) : State :=
  State.each ((List.range 11).filter fun v => hasBit s.host.vecHeld v &&
      decide (Sparse.get s.host.vecLast v 0 + s.rd CXL0.MOD_TICKS ≤ s.now))
    (fun v s => { s with host := { s.host with vecHeld := clrBit s.host.vecHeld v,
                                                vecLast := Sparse.put s.host.vecLast v (s.now + 1) } }.message v) s

/-- Whether a page interrupt is pending: IRQ_STAT AND IRQ_EN is not zero (R351). -/
def State.pageIrq (s : State) (p : Page) : Bool :=
  s.rd (HDR.IRQ_STAT_IRQ p) &&& s.rd (HDR.IRQ_EN_EN p) != 0

/-- A page's vector signalled when its interrupt became pending since `s0`. -/
def State.pageSignal (s : State) (s0 : State) (p : Page) : State :=
  if s.pageIrq p && !s0.pageIrq p then s.signal (s.vecOf (p.base / 4096)) else s

/-- Interrupt bits of a page set by hardware or by IRQ_FORCE (R457). -/
def State.irqMask (s : State) (p : Page) (m : Nat) : State :=
  (s.orBits (HDR.IRQ_STAT_IRQ p) m).pageSignal s p

/-- One interrupt bit of a page raised. -/
def State.irq (s : State) (p : Page) (b : Nat) : State := s.irqMask p (2 ^ b)

/-! ## Error codes (R9) -/

/-- The codes of R9 by name. -/
abbrev OK : Nat := 0
abbrev CFG_ZERO : Nat := 1
abbrev CFG_RANGE : Nat := 2
abbrev CFG_LOCKED : Nat := 3
abbrev CFG_BUSY : Nat := 4
abbrev PARITY : Nat := 5
abbrev SCHED_BUDGET : Nat := 6
abbrev SCHED_CONTRACT : Nat := 7
abbrev CAL_LIMIT : Nat := 8
abbrev TIMEOUT : Nat := 9
abbrev SAFETY_LOCK : Nat := 10
abbrev TWIN_ROLE : Nat := 11

/-- A result reported in a page's ERR_CODE, with the word of the field that set it (R9, R458). -/
def State.errCode (s : State) (p : Page) (code word : Nat) : State :=
  ((s.wr (HDR.ERR_CODE_CODE p) code).wr (HDR.ERR_CODE_WORD p) (if code = 0 then 0 else word)).wrB
    (HDR.STAT_ERROR p) (code != 0)

/-- The word offset of a field within its page (R458 `ERR_CODE.WORD`). -/
def Fld.word (f : Fld) : Nat := f.key / 32 % 4096 / 4

/-! ## Event records (R347, R348) -/

/-- A set of cells as CELLS0 and CELLS1 give it (R348). -/
structure CellSet where
  first : Nat
  rows  : Nat
  cols  : Nat
  step  : Nat
  deriving DecidableEq, Repr

/-- CELLS0 of a set (R348). -/
def CellSet.w0 (c : CellSet) : Nat := c.first % 2 ^ 20 + (c.rows - 1) % 128 * 2 ^ 20 + 2 ^ 27

/-- CELLS1 of a set (R348). -/
def CellSet.w1 (c : CellSet) : Nat := (c.cols - 1) % 1024 + c.step * 1024

/-- The cell number of a head, row and column (R5, R11). -/
def cellNo (h row col : Nat) : Nat := h * 131072 + row * 1024 + col

/-- A record entered in the event queue with the next SEQ, or dropped when the queue is full (R347). -/
def State.enqueue (s : State) (e : EventRec) : State :=
  if s.host.evq.length < 256 then
    { s with host := { s.host with evq := s.host.evq ++ [{ e with seq := s.host.evSeq }],
                                   evSeq := (s.host.evSeq + 1) % 2 ^ 32 } }
  else
    ({ s with host := { s.host with evSeq := (s.host.evSeq + 1) % 2 ^ 32 } }.satInc CXL1.EVT_LOST_COUNT).irq .cxl1 2

/-- The time field of an event record: within the tick in progress, its exact instant left free (log entry 8). -/
def State.eventTime (s : State) : Nat :=
  (s.tim.dtime + s.freeVal % (2 ^ 56 / 10000)) / 2 ^ 24 % 2 ^ 64

/-- Whether an event is also written to the flash event log: events of SAF, TWN, THM and CTL, and permanent faults
(R433). -/
def loggedBlock (p : Page) (permanent : Bool) : Bool :=
  permanent || p == .saf || p == .twn || p == .thm || p == .ctl

/-- One event record of a page, with its interrupt bit (255 for none), qualifier, cell sets and detail words. A device
in HOLD keeps no event records (R347). -/
def State.eventFull (s : State) (p : Page) (bit qual : Nat) (cells : List CellSet) (args : List Nat)
    (permanent : Bool) : State :=
  if s.inHold then s else
  let base : EventRec := {
    seq := 0, block := p.blockCode, inst := p.instNo, bit := bit, qual := qual, dtime := s.eventTime,
    pos := s.pos, epoch := s.rd GSL.EPOCH_CUR, part := 0, cells0 := 0, cells1 := 0, args := args.take 4 }
  let recs : List EventRec := match cells with
    | [] => [base]
    | _ => cells.zipIdx.map fun (c, i) =>
        { base with part := i % 128 + (if i + 1 < cells.length then 128 else 0), cells0 := c.w0, cells1 := c.w1 }
  let s := State.each recs (fun e s => s.enqueue e) s.freeNext
  if loggedBlock p permanent then { s with flq := s.flq ++ recs } else s

/-- An event record without cells. -/
def State.event (s : State) (p : Page) (bit : Nat) (args : List Nat) : State := s.eventFull p bit 0 [] args false

/-- The 64 bytes of an event record (R348). -/
def EventRec.bytes (e : EventRec) : List Byte :=
  let b := leBytes 4 e.seq ++ leBytes 1 e.block ++ leBytes 1 e.inst ++ leBytes 1 e.bit ++ leBytes 1 e.qual ++
    leBytes 8 e.dtime ++ leBytes 4 e.pos ++ leBytes 2 e.epoch ++ leBytes 1 e.part ++ zeros 1 ++
    leBytes 4 e.cells0 ++ leBytes 4 e.cells1 ++
    ((List.range 4).flatMap fun i => leBytes 4 (e.args.getD i 0)) ++ zeros 15
  b ++ [chkByte b]

/-- A parity error, an overrun or a misalignment makes the frame in progress unclean for SHADOW (R330). -/
def State.unclean (s : State) : State := { s with twn.unclean := true }

/-! ## Resets (R444, R458) -/

/-- The bit of a reset in the Kept over masks. -/
def ResetKind.bit : ResetKind → Nat
  | .host => 0 | .flr => 1 | .block => 2 | .warm => 3 | .takeover => 4 | .por => 5

/-- Whether a field keeps its value over a reset: its Kept over column, but for the header fields of `CXL[1]`, which
HOST and FLR reset with the page (R458); COMMIT.KEY and the identity fields are kept over every reset. -/
def keptOver (r : ResetKind) (p : Page) (f : Fld) : Bool :=
  if p = .cxl1 ∧ (r = .host ∨ r = .flr) ∧ f.kept < 63 then false
  else if r = .por then f.kept == 63
  else hasBit f.kept r.bit

/-- Whether a staged table entry is kept over a reset, as the table port's data field is (R149, R169, R216, R277, R411). -/
def tabKept (r : ResetKind) : TabId → Bool
  | .flt => r == .host || r == .flr || r == .block
  | .rofs | .skew => r == .host || r == .flr || r == .block || r == .warm
  | .coef | .pal => r == .host || r == .flr

/-- Whether a pending commit stands over a reset that drops the fields with the keys given: all it changes is kept
(R22). -/
def PendCommit.stands (c : PendCommit) (r : ResetKind) (drop : List Nat) : Bool :=
  (c.vals.all fun v => !drop.contains v.1) && c.tabs.all fun t => tabKept r t.1

/-- A page's fields returned to their reset values by a reset, but for those kept over it; a pending commit is
discarded unless all its fields are kept, and so are its staged values (R22, R458). -/
def State.resetPage (r : ResetKind) (s : State) (p : Page) : State :=
  let drop := (p.fields.filter fun f => !keptOver r p f).map Fld.key
  let keep := s.commits.filter fun c => c.page != p || c.stands r drop
  { s with
    regs := s.regs.filter fun e => !drop.contains e.1
    shadow := s.shadow.filter fun e => !drop.contains e.1
    shadowBad := s.shadowBad.filter fun w => !(drop.any fun k => k / 32 == w)
    stage := s.stage.filter fun e => e.1 != p || tabKept r e.2.1
    commits := keep
    resets := s.resets.filter fun x => x.page != p }.wrB (HDR.STAT_COMMIT_PENDING p)
      (keep.any fun c => c.page == p)

/-- The next state of a command: its effect, or none while only AON is powered after a thermal shutdown (R257). -/
def live (s t : State) : Host.Outcome State Fault Refusal := .next (if s.dark then s else t)

/-- Whether the page's registers are served: in HOLD only those of CAP, PWR and TWN (R316, R455). -/
def State.served (s : State) (p : Page) : Bool := !s.inHold || p == .cap || p == .pwr || p == .twn

/-- The next state of a command that is a register write of a page: in HOLD a page that is not served takes no write (R316). -/
def onPage (p : Page) (s t : State) : Host.Outcome State Fault Refusal := live s (if s.served p then t else s)

/-- The channel of a device address (R233). -/
def channelOf (a : Nat) : Nat := a / 256 % 4

/-- Whether a channel of device memory has failed (R236). -/
def State.chanFailed (s : State) (c : Nat) : Bool := hasBit (s.rd LTH.MEM_SIZE_FAILED) c

/-- Whether a range of device memory touches a failed channel (R233, R236). -/
def State.rangeFailed (s : State) (a len : Nat) : Bool :=
  (List.range 4).any fun c => s.chanFailed c && (List.range 4).any fun i =>
    decide (256 * i < a % 256 + len) && channelOf (a + 256 * i) == c

end Sys2Proof.Machine
end

