-- ==== Sys2Proof/Machine/Burst.lean ====
section
/-! DEFINITION. Bursts of device memory (R231, R232, R236): tags, check bytes, and what a read finds. -/

namespace Sys2Proof.Machine

/-! ## Tags (R231, R232) -/

/-- The 4-bit tag of a burst at a device address under a write sequence (R232). -/
def burstTag (a seq : Nat) : Nat :=
  (List.range 9).foldl (fun t i => Nat.xor t (a / 64 / 16 ^ i % 16)) (seq % 16)

/-- The odd parity bit of a byte (R231). -/
def oddParity (b : Byte) : Bool := popcount b.toNat 8 % 2 == 0

/-- The check byte of a beat: the odd parities of its 4 bytes in bits 3 to 0, the burst's tag in bits 7 to 4 (R231). -/
def checkByte (bytes : List Byte) (tag : Nat) : Nat :=
  ((List.range 4).map fun i => b2n (oddParity (bytes.getD i 0)) * 2 ^ i).sum + tag % 16 * 16

/-- A burst as a read finds it: its data, whether a byte fails its parity, and whether its tag is split or not the one expected
(R231, R232). -/
structure BurstRead where
  data   : List Byte
  parity : Bool
  tag    : Bool
  deriving DecidableEq, Repr

/-- Whether a burst fails its check. -/
def BurstRead.bad (r : BurstRead) : Bool := r.parity || r.tag

/-- A burst read back: `flips` are the beats and bits that come back other than written. Each tag bit is the majority of its 16
copies (R231). -/
def readBurst (data : List Byte) (tag expect : Nat) (flips : List (Nat × Nat)) : BurstRead :=
  if flips = [] then { data := data, parity := false, tag := tag % 16 != expect % 16 } else
  let byte (n i : Nat) : Byte :=
    data.getD (4 * n + i) 0 ^^^ BitVec.ofNat 8 (((List.range 8).filter fun k => flips.contains (n, 8 * i + k)).map fun k => 2 ^ k).sum
  let check (n j : Nat) : Bool := hasBit (checkByte (subBytes data (4 * n) 4) tag) j != flips.contains (n, 32 + j)
  let ones (k : Nat) : Nat := ((List.range 16).filter fun n => check n (4 + k)).length
  { data := (List.range 16).flatMap fun n => (List.range 4).map (byte n)
    parity := (List.range 16).any fun n => (List.range 4).any fun i => oddParity (byte n i) != check n i
    tag := (List.range 4).any fun k => ones k == 8 || (decide (8 < ones k) != hasBit expect k) }

/-- The flips of the burst at a device address. -/
def flipsAt (flips : List Flip) (a : Nat) : List (Nat × Nat) := (flips.filter fun f => f.burst == a / 64).map fun f => (f.beat, f.bit)

/-- The `n` bursts from a device address on as a read with write sequence 0 finds them; those of a failed channel fail their check
(R232, R236). -/
def State.readBursts (s : State) (flips : List Flip) (a n : Nat) : List BurstRead :=
  (List.range n).map fun i =>
    let p := a + 64 * i
    let r := readBurst (s.ldN p 64) (burstTag p 0) (burstTag p 0) (flipsAt flips p)
    if s.chanFailed (channelOf p) then { r with parity := true } else r

/-- The bytes of bursts. -/
def burstBytes (rs : List BurstRead) : List Byte := rs.flatMap BurstRead.data

/-- Bursts read from a device address on: those with a parity or a tag error enter their channel's counts, with its PAR interrupt
(R236, R238). -/
def State.countBursts (s : State) (a : Nat) (rs : List BurstRead) : State :=
  State.each (rs.zipIdx.filter fun x => x.1.bad) (fun x s =>
    let c := channelOf (a + 64 * x.2)
    let s := if x.1.parity then s.satInc (MEM.ERR_PARITY c) else s
    let s := if x.1.tag then s.satInc (MEM.ERR_TAG c) else s
    let s := { s with memErrs := s.memErrs.set (Fin.ofNat 4 c) (s.memErrs[Fin.ofNat 4 c] + b2n x.1.parity + b2n x.1.tag) }
    s.irq (.mem (Fin.ofNat 4 c)) 1) s

/-- The first of the `n` bursts from a device address on that fails its check, or lies in a failed channel (R231, R236). -/
def State.firstBad (s : State) (flips : List Flip) (a n : Nat) : Option Nat :=
  ((List.range n).map fun i => a + 64 * i).find? fun p =>
    s.chanFailed (channelOf p) || (flips.any (fun f => f.burst == p / 64) && (s.readBursts flips p 1).any BurstRead.bad)

/-- A burst at which a load stops, entered in its channel's counts (R38, R238, R282). -/
def State.countFirst (s : State) (flips : List Flip) (p : Option Nat) : State :=
  p.elim s fun p => s.countBursts p (s.readBursts flips p 1)

/-- Device memory as reads with these flips find it. -/
def State.asRead (s : State) (flips : List Flip) : State :=
  State.each flips (fun f t => t.stN (64 * f.burst) (burstBytes (s.readBursts flips (64 * f.burst) 1))) s

end Sys2Proof.Machine
end

