-- ==== Sys2Proof/Machine/Crypto.lean ====
section
/-! DEFINITION. The public algorithms the spec names, in full: SHA-256 (R33), SHA-384 (R433), AES-128 (R125) and CRC-32C (R304). Words are numbers cut to their width. -/

namespace Sys2Proof.Machine

/-- A 32-bit word rotated right. -/
def ror32 (x n : Nat) : Nat := (x / 2 ^ n) ||| (x * 2 ^ (32 - n) % 2 ^ 32)

/-- A 64-bit word rotated right. -/
def ror64 (x n : Nat) : Nat := (x / 2 ^ n) ||| (x * 2 ^ (64 - n) % 2 ^ 64)

/-- The round constants of SHA-256. -/
def sha256K : List Nat :=
  [0x428a2f98, 0x71374491, 0xb5c0fbcf, 0xe9b5dba5, 0x3956c25b, 0x59f111f1, 0x923f82a4, 0xab1c5ed5] ++
  [0xd807aa98, 0x12835b01, 0x243185be, 0x550c7dc3, 0x72be5d74, 0x80deb1fe, 0x9bdc06a7, 0xc19bf174] ++
  [0xe49b69c1, 0xefbe4786, 0x0fc19dc6, 0x240ca1cc, 0x2de92c6f, 0x4a7484aa, 0x5cb0a9dc, 0x76f988da] ++
  [0x983e5152, 0xa831c66d, 0xb00327c8, 0xbf597fc7, 0xc6e00bf3, 0xd5a79147, 0x06ca6351, 0x14292967] ++
  [0x27b70a85, 0x2e1b2138, 0x4d2c6dfc, 0x53380d13, 0x650a7354, 0x766a0abb, 0x81c2c92e, 0x92722c85] ++
  [0xa2bfe8a1, 0xa81a664b, 0xc24b8b70, 0xc76c51a3, 0xd192e819, 0xd6990624, 0xf40e3585, 0x106aa070] ++
  [0x19a4c116, 0x1e376c08, 0x2748774c, 0x34b0bcb5, 0x391c0cb3, 0x4ed8aa4a, 0x5b9cca4f, 0x682e6ff3] ++
  [0x748f82ee, 0x78a5636f, 0x84c87814, 0x8cc70208, 0x90befffa, 0xa4506ceb, 0xbef9a3f7, 0xc67178f2]

/-- The round constants of SHA-384. -/
def sha512K : List Nat :=
  [0x428a2f98d728ae22, 0x7137449123ef65cd, 0xb5c0fbcfec4d3b2f, 0xe9b5dba58189dbbc, 0x3956c25bf348b538] ++
  [0x59f111f1b605d019, 0x923f82a4af194f9b, 0xab1c5ed5da6d8118, 0xd807aa98a3030242, 0x12835b0145706fbe] ++
  [0x243185be4ee4b28c, 0x550c7dc3d5ffb4e2, 0x72be5d74f27b896f, 0x80deb1fe3b1696b1, 0x9bdc06a725c71235] ++
  [0xc19bf174cf692694, 0xe49b69c19ef14ad2, 0xefbe4786384f25e3, 0x0fc19dc68b8cd5b5, 0x240ca1cc77ac9c65] ++
  [0x2de92c6f592b0275, 0x4a7484aa6ea6e483, 0x5cb0a9dcbd41fbd4, 0x76f988da831153b5, 0x983e5152ee66dfab] ++
  [0xa831c66d2db43210, 0xb00327c898fb213f, 0xbf597fc7beef0ee4, 0xc6e00bf33da88fc2, 0xd5a79147930aa725] ++
  [0x06ca6351e003826f, 0x142929670a0e6e70, 0x27b70a8546d22ffc, 0x2e1b21385c26c926, 0x4d2c6dfc5ac42aed] ++
  [0x53380d139d95b3df, 0x650a73548baf63de, 0x766a0abb3c77b2a8, 0x81c2c92e47edaee6, 0x92722c851482353b] ++
  [0xa2bfe8a14cf10364, 0xa81a664bbc423001, 0xc24b8b70d0f89791, 0xc76c51a30654be30, 0xd192e819d6ef5218] ++
  [0xd69906245565a910, 0xf40e35855771202a, 0x106aa07032bbd1b8, 0x19a4c116b8d2d0c8, 0x1e376c085141ab53] ++
  [0x2748774cdf8eeb99, 0x34b0bcb5e19b48a8, 0x391c0cb3c5c95a63, 0x4ed8aa4ae3418acb, 0x5b9cca4f7763e373] ++
  [0x682e6ff3d6b2b8a3, 0x748f82ee5defb2fc, 0x78a5636f43172f60, 0x84c87814a1f0ab72, 0x8cc702081a6439ec] ++
  [0x90befffa23631e28, 0xa4506cebde82bde9, 0xbef9a3f7b2c67915, 0xc67178f2e372532b, 0xca273eceea26619c] ++
  [0xd186b8c721c0c207, 0xeada7dd6cde0eb1e, 0xf57d4f7fee6ed178, 0x06f067aa72176fba, 0x0a637dc5a2c898a6] ++
  [0x113f9804bef90dae, 0x1b710b35131c471b, 0x28db77f523047d84, 0x32caab7b40c72493, 0x3c9ebe0a15c9bebc] ++
  [0x431d67c49c100d4c, 0x4cc5d4becb3e42b6, 0x597f299cfc657e2a, 0x5fcb6fab3ad6faec, 0x6c44198c4a475817]

/-- What tells the two hash functions apart: word width in bits, constants, initial words, rotation amounts. -/
structure ShaParams where
  w   : Nat
  k   : List Nat
  h0  : List Nat
  s0  : Nat × Nat × Nat
  s1  : Nat × Nat × Nat
  e0  : Nat × Nat × Nat
  e1  : Nat × Nat × Nat

/-- SHA-256. -/
def sha256P : ShaParams where
  w := 32
  k := sha256K
  h0 := [0x6a09e667, 0xbb67ae85, 0x3c6ef372, 0xa54ff53a, 0x510e527f, 0x9b05688c, 0x1f83d9ab, 0x5be0cd19]
  s0 := (7, 18, 3)
  s1 := (17, 19, 10)
  e0 := (2, 13, 22)
  e1 := (6, 11, 25)

/-- SHA-384. -/
def sha384P : ShaParams where
  w := 64
  k := sha512K
  h0 := [0xcbbb9d5dc1059ed8, 0x629a292a367cd507, 0x9159015a3070dd17, 0x152fecd8f70e5939, 0x67332667ffc00b31, 0x8eb44a8768581511, 0xdb0c2e0d64f98fa7, 0x47b5481dbefa4fa4]
  s0 := (1, 8, 7)
  s1 := (19, 61, 6)
  e0 := (28, 34, 39)
  e1 := (14, 18, 41)

/-- A word rotated right, at either width. -/
def shaRor (p : ShaParams) (x n : Nat) : Nat := (x / 2 ^ n) ||| (x * 2 ^ (p.w - n) % 2 ^ p.w)

/-- The message schedule extended by one word; the newest word stands first. -/
def shaExtend (p : ShaParams) (m : List Nat) : List Nat :=
  let a := m.getD 14 0
  let b := m.getD 1 0
  let s0 := Nat.xor (Nat.xor (shaRor p a p.s0.1) (shaRor p a p.s0.2.1)) (a / 2 ^ p.s0.2.2)
  let s1 := Nat.xor (Nat.xor (shaRor p b p.s1.1) (shaRor p b p.s1.2.1)) (b / 2 ^ p.s1.2.2)
  ((m.getD 15 0 + s0 + m.getD 6 0 + s1) % 2 ^ p.w) :: m

/-- The message schedule, first word first. -/
def shaSchedule (p : ShaParams) (blk : List Nat) : List Nat :=
  ((List.range (p.k.length - 16)).foldl (fun m _ => shaExtend p m) blk.reverse).reverse

/-- One round on the eight working words. -/
def shaRound (p : ShaParams) (v : List Nat) (kw : Nat × Nat) : List Nat :=
  match v with
  | [a, b, c, d, e, f, g, h] =>
    let s1 := Nat.xor (Nat.xor (shaRor p e p.e1.1) (shaRor p e p.e1.2.1)) (shaRor p e p.e1.2.2)
    let ch := Nat.xor (Nat.land e f) (Nat.land (2 ^ p.w - 1 - e) g)
    let t1 := h + s1 + ch + kw.1 + kw.2
    let s0 := Nat.xor (Nat.xor (shaRor p a p.e0.1) (shaRor p a p.e0.2.1)) (shaRor p a p.e0.2.2)
    let mj := Nat.xor (Nat.xor (Nat.land a b) (Nat.land a c)) (Nat.land b c)
    [(t1 + s0 + mj) % 2 ^ p.w, a, b, c, (d + t1) % 2 ^ p.w, e, f, g]
  | v => v

/-- One block worked into the hash. -/
def shaBlock (p : ShaParams) (h : List Nat) (blk : List Nat) : List Nat :=
  let r := (p.k.zip (shaSchedule p blk)).foldl (shaRound p) h
  (h.zip r).map fun (a, b) => (a + b) % 2 ^ p.w

/-- Bytes cut into words, most significant byte first. -/
def beWords (n : Nat) : Nat → List Byte → List Nat
  | 0, _ => []
  | k + 1, b => beNat (b.take n) :: beWords n k (b.drop n)

/-- The padded message: a set bit, zeros, and the length in bits. -/
def shaPad (p : ShaParams) (b : List Byte) : List Byte :=
  let blk := 2 * p.w
  let lenB := p.w / 4
  let z := (2 * blk - (b.length + 1 + lenB) % blk) % blk
  b ++ [0x80] ++ List.replicate z 0 ++ beBytes lenB (8 * b.length)

/-- Every block of a padded message worked in. -/
def shaBlocks (p : ShaParams) : Nat → List Byte → List Nat → List Nat
  | 0, _, h => h
  | n + 1, b, h => shaBlocks p n (b.drop (2 * p.w)) (shaBlock p h (beWords (p.w / 8) 16 b))

/-- The hash of a byte string, cut to `n` bytes. -/
def sha (p : ShaParams) (n : Nat) (b : List Byte) : List Byte :=
  let m := shaPad p b
  ((shaBlocks p (m.length / (2 * p.w)) m p.h0).flatMap (beBytes (p.w / 8))).take n

/-- SHA-256. -/
def sha256 (b : List Byte) : List Byte := sha sha256P 32 b

/-- SHA-384. -/
def sha384 (b : List Byte) : List Byte := sha sha384P 48 b

/-- The AES S-box. -/
def aesSbox : List Nat :=
  [0x63, 0x7c, 0x77, 0x7b, 0xf2, 0x6b, 0x6f, 0xc5, 0x30, 0x01, 0x67, 0x2b, 0xfe, 0xd7, 0xab, 0x76] ++
  [0xca, 0x82, 0xc9, 0x7d, 0xfa, 0x59, 0x47, 0xf0, 0xad, 0xd4, 0xa2, 0xaf, 0x9c, 0xa4, 0x72, 0xc0] ++
  [0xb7, 0xfd, 0x93, 0x26, 0x36, 0x3f, 0xf7, 0xcc, 0x34, 0xa5, 0xe5, 0xf1, 0x71, 0xd8, 0x31, 0x15] ++
  [0x04, 0xc7, 0x23, 0xc3, 0x18, 0x96, 0x05, 0x9a, 0x07, 0x12, 0x80, 0xe2, 0xeb, 0x27, 0xb2, 0x75] ++
  [0x09, 0x83, 0x2c, 0x1a, 0x1b, 0x6e, 0x5a, 0xa0, 0x52, 0x3b, 0xd6, 0xb3, 0x29, 0xe3, 0x2f, 0x84] ++
  [0x53, 0xd1, 0x00, 0xed, 0x20, 0xfc, 0xb1, 0x5b, 0x6a, 0xcb, 0xbe, 0x39, 0x4a, 0x4c, 0x58, 0xcf] ++
  [0xd0, 0xef, 0xaa, 0xfb, 0x43, 0x4d, 0x33, 0x85, 0x45, 0xf9, 0x02, 0x7f, 0x50, 0x3c, 0x9f, 0xa8] ++
  [0x51, 0xa3, 0x40, 0x8f, 0x92, 0x9d, 0x38, 0xf5, 0xbc, 0xb6, 0xda, 0x21, 0x10, 0xff, 0xf3, 0xd2] ++
  [0xcd, 0x0c, 0x13, 0xec, 0x5f, 0x97, 0x44, 0x17, 0xc4, 0xa7, 0x7e, 0x3d, 0x64, 0x5d, 0x19, 0x73] ++
  [0x60, 0x81, 0x4f, 0xdc, 0x22, 0x2a, 0x90, 0x88, 0x46, 0xee, 0xb8, 0x14, 0xde, 0x5e, 0x0b, 0xdb] ++
  [0xe0, 0x32, 0x3a, 0x0a, 0x49, 0x06, 0x24, 0x5c, 0xc2, 0xd3, 0xac, 0x62, 0x91, 0x95, 0xe4, 0x79] ++
  [0xe7, 0xc8, 0x37, 0x6d, 0x8d, 0xd5, 0x4e, 0xa9, 0x6c, 0x56, 0xf4, 0xea, 0x65, 0x7a, 0xae, 0x08] ++
  [0xba, 0x78, 0x25, 0x2e, 0x1c, 0xa6, 0xb4, 0xc6, 0xe8, 0xdd, 0x74, 0x1f, 0x4b, 0xbd, 0x8b, 0x8a] ++
  [0x70, 0x3e, 0xb5, 0x66, 0x48, 0x03, 0xf6, 0x0e, 0x61, 0x35, 0x57, 0xb9, 0x86, 0xc1, 0x1d, 0x9e] ++
  [0xe1, 0xf8, 0x98, 0x11, 0x69, 0xd9, 0x8e, 0x94, 0x9b, 0x1e, 0x87, 0xe9, 0xce, 0x55, 0x28, 0xdf] ++
  [0x8c, 0xa1, 0x89, 0x0d, 0xbf, 0xe6, 0x42, 0x68, 0x41, 0x99, 0x2d, 0x0f, 0xb0, 0x54, 0xbb, 0x16]

/-- A byte through the S-box. -/
def aesSub (x : Nat) : Nat := aesSbox.getD x 0

/-- A byte times x in the AES field. -/
def aesX (a : Nat) : Nat := if a < 128 then 2 * a else Nat.xor (2 * a) 0x11b

/-- One column of MixColumns. -/
def aesMixCol : List Nat → List Nat
  | [a, b, c, d] =>
    let m (x y z w : Nat) : Nat := Nat.xor (Nat.xor (aesX x) (Nat.xor (aesX y) y)) (Nat.xor z w)
    [m a b c d, m b c d a, m c d a b, m d a b c]
  | l => l

/-- ShiftRows on the 16 bytes of the state, column by column. -/
def aesShift (s : List Nat) : List Nat :=
  [0, 5, 10, 15, 4, 9, 14, 3, 8, 13, 2, 7, 12, 1, 6, 11].map fun i => s.getD i 0

/-- The next round key. -/
def aesNextKey (k : List Nat) (rcon : Nat) : List Nat :=
  let t := [Nat.xor (aesSub (k.getD 13 0)) rcon, aesSub (k.getD 14 0), aesSub (k.getD 15 0), aesSub (k.getD 12 0)]
  let x (a b : List Nat) : List Nat := List.zipWith Nat.xor a b
  let w0 := x (k.take 4) t
  let w1 := x ((k.drop 4).take 4) w0
  let w2 := x ((k.drop 8).take 4) w1
  w0 ++ w1 ++ w2 ++ x (k.drop 12) w2

/-- The rounds of AES-128; the last one has no MixColumns. -/
def aesRounds : Nat → Nat → List Nat → List Nat → List Nat
  | 0, _, _, s => s
  | n + 1, rcon, k, s =>
    let k' := aesNextKey k rcon
    let t := aesShift (s.map aesSub)
    let t := if n = 0 then t else
      aesMixCol (t.take 4) ++ aesMixCol ((t.drop 4).take 4) ++ aesMixCol ((t.drop 8).take 4) ++ aesMixCol (t.drop 12)
    aesRounds n (aesX rcon) k' (List.zipWith Nat.xor t k')

/-- AES-128 of one block; key and block as 16 bytes (FIPS 197 order). -/
def aes128 (key blk : List Nat) : List Nat :=
  aesRounds 10 1 key (List.zipWith Nat.xor blk key)

/-- One byte worked into a reflected CRC-32C. -/
def crcByte (c : Nat) (b : Byte) : Nat :=
  (List.range 8).foldl (fun c _ => if c % 2 = 1 then Nat.xor (c / 2) 0x82F63B78 else c / 2) (Nat.xor c b.toNat)

/-- CRC-32C of a byte string: polynomial 0x1EDC6F41 reflected, start and final exclusive-or 0xFFFFFFFF (R304). -/
def crc32c (b : List Byte) : Nat := Nat.xor (b.foldl crcByte 0xFFFFFFFF) 0xFFFFFFFF

end Sys2Proof.Machine
end

