-- ==== Sys2Proof/Machine/Image.lean ====
section
/-! DEFINITION. The schedule image as bytes: header, partitions, slot entries and window geometry (R33, R34, R35), and the ordered checks of a load (R39, R44). -/

namespace Sys2Proof.Machine

/-! ## Engines (R31) -/

/-- Logical lanes of an engine (R31). -/
def engLanes (e : Nat) : Nat := [8, 8, 8, 4, 32, 8, 16, 16, 8, 4, 4, 2, 4, 4, 1].getD e 0

/-- Whether an engine's capacity is counted in bursts (R31). -/
def engBursts (e : Nat) : Bool := e == 10 || e == 12 || e == 13

/-- Share of a channel's bursts in per cent (R25, R31). -/
def engShare (e : Nat) : Nat := if e = 10 then 40 else if e = 12 then 15 else 5

/-- Bursts a DDR5 channel carries in one tick at a speed code (R31, R238). -/
def burstsPerTick (speed : Nat) : Nat := if speed = 0 then 60000 else if speed = 1 then 70000 else 80000

/-- Capacity of a lane in one tick, in cycles or in the bursts of its share (R31). -/
def engCapacity (speed e : Nat) : Nat :=
  if engBursts e then burstsPerTick speed * engShare e / 100
  else if e ≤ 2 ∨ e = 11 ∨ e = 14 then 40000 else 100000

/-- What START plus LENGTH may reach: the lane's capacity, or every burst of the channel (R44 rule 3). -/
def engEnd (speed e : Nat) : Nat := if engBursts e then burstsPerTick speed else engCapacity speed e

/-- The lane group of an engine's lane (R56), none for the engines without spares. -/
def laneGroup (e lane : Nat) : Option Nat :=
  match e with
  | 0 => some 0 | 1 => some 1 | 2 => some 2 | 3 => some 3
  | 4 => if lane < 32 then some (4 + lane / 8) else none
  | 5 => some 8
  | 6 => if lane < 16 then some (9 + lane / 8) else none
  | 7 => if lane < 16 then some (11 + lane / 8) else none
  | 8 => some 13 | 9 => some 14 | _ => none

/-- The highest logical lane of the group that a lane belongs to. -/
def groupTop (e lane : Nat) : Nat :=
  match e with
  | 3 => 3 | 9 => 3 | 4 => lane / 8 * 8 + 7 | 6 => lane / 8 * 8 + 7 | 7 => lane / 8 * 8 + 7 | _ => 7

/-- Units one lane's reserve replays in one tick (R50). -/
def replayPerLane (e : Nat) : Nat := [0, 0, 0, 0, 2, 32, 5, 8, 86, 195].getD e 0

/-! ## Layout -/

/-- A slot entry (R35). -/
structure Slot where
  engine : Nat
  lane   : Nat
  window : Nat
  group  : Nat
  head   : Nat
  kind   : Nat
  resv   : Nat
  start  : Nat
  len    : Nat
  deriving DecidableEq, Repr

/-- A slot entry from its 8 bytes (R35). -/
def parseSlot (b : List Byte) : Slot :=
  let w0 := u32 b 0
  let w1 := u32 b 4
  { engine := slice w0 0 4, lane := slice w0 4 5, window := slice w0 9 3, group := slice w0 12 3,
    head := slice w0 15 3, kind := slice w0 18 2, resv := slice w0 20 12, start := slice w1 0 17,
    len := slice w1 17 15 }

/-- `n` slot entries one after another. -/
def parseSlots : Nat → List Byte → List Slot
  | 0, _ => []
  | n + 1, b => parseSlot b :: parseSlots n (b.drop 8)

/-- The header fields of R33. -/
def hdrContract (h : List Byte) : Nat := u16 h 4
def hdrLen (h : List Byte) : Nat := u32 h 8
def hdrHeadMask (h : List Byte) : Nat := u8 h 12
def hdrInterleave (h : List Byte) : Nat := u8 h 13
def hdrCalShare (h : List Byte) : Nat := u16 h 14
def hdrImgSeq (h : List Byte) : Nat := u32 h 0x14
def hdrPartOfs (h : List Byte) (p : Nat) : Nat := u32 h (0x18 + 8 * p)
def hdrPartLen (h : List Byte) (p : Nat) : Nat := u32 h (0x1C + 8 * p)
def hdrBudget (h : List Byte) (p e : Nat) : Nat := u32 h (0x80 + (15 * p + e) * 8)
def hdrLaneMask (h : List Byte) (p e : Nat) : Nat := u32 h (0x84 + (15 * p + e) * 8)

/-- The partition header fields of R34. -/
def partFlags (b : List Byte) : Nat := u8 b 1
def partTables (b : List Byte) : Nat := u16 b 2
def partTickMap (b : List Byte) : Nat := u32 b 4
def partVarMap (b : List Byte) : Nat := u32 b 8
def partDir (b : List Byte) : Nat := u32 b 12
def partWinGeo (b : List Byte) : Nat := u32 b 16

/-- The tick table that a partition runs in tick `t` of the frame (R34). -/
def partTableOf (b : List Byte) (variant : Bool) (t : Nat) : Nat :=
  u16 b ((if variant && partVarMap b != 0 then partVarMap b else partTickMap b) + 2 * t)

/-- One engine's entries in one tick table (R34). -/
def partSlots (b : List Byte) (table e : Nat) : List Slot :=
  let d := u32 b (partDir b + 4 * (15 * table + e))
  parseSlots (d % 65536) (b.drop (d / 65536 * 8))

/-- The stop window of a pulse slot and row group: start and length in coarse bins (R34). -/
def partStop (b : List Byte) (k g : Nat) : Nat × Nat :=
  let o := partWinGeo b + 4 * (32 * k + g)
  (u16 b o, u16 b (o + 2))

/-- The windows that a partition's table measures: its EMT entries of KIND 0 (R482). -/
def measuredWindows (b : List Byte) (table : Nat) : List Nat :=
  ((partSlots b table 0).filter fun e => e.kind == 0).map Slot.window

/-! ## The checks of a load (R39) -/

/-- The first failing step's lowest code: the first list entry that fails, 0 when none does. -/
def firstFail : List (Bool × Nat) → Nat
  | [] => 0
  | (bad, c) :: t => if bad then c else firstFail t

/-- Step 1 of R39. `whole` is false when the address range reaches beyond installed memory. -/
def imgStep1 (mask len hdrL : Nat) (whole : Bool) : Nat :=
  firstFail [(mask == 0, 1), (len == 0, 1), (len < 2048, 2), (len > 1048576, 2), (len % 64 != 0, 2),
    (hdrL != len, 2), (!whole, 2)]

/-- Step 2 of R39. -/
def imgStep2 (img : List Byte) : Nat :=
  firstFail [(u32 img 0 != 0x4943535A, 7), (u16 img 6 != 0x800, 7),
    (hdrContract img == 0 || hdrContract img > 3, 7),
    (sha256 (img.take 0x60 ++ zeros 32 ++ img.drop 0x80) != (img.drop 0x60).take 32, 7)]

/-- The bytes of a partition of an image. -/
def imgPart (img : List Byte) (p : Nat) : List Byte := (img.drop (hdrPartOfs img p)).take (hdrPartLen img p)

/-- Every slot entry of a partition, over all its tick tables. -/
def partAllSlots (b : List Byte) : List Slot :=
  (List.range (partTables b)).flatMap fun t => (List.range 15).flatMap fun e => partSlots b t e

/-- The partitions that an image holds (R33). -/
def hdrParts (img : List Byte) : List Nat := (List.range 9).filter fun p => hdrPartLen img p != 0

/-- Whether a partition lies inside its image. -/
def partInside (img : List Byte) (p : Nat) : Bool := decide (hdrPartOfs img p + hdrPartLen img p ≤ img.length)

/-- Step 3 of R39: only what the image's contract includes, in every partition present (R36); one that lies outside the image
has no content to test, and step 4 refuses it. -/
def imgStep3 (img : List Byte) : Nat :=
  let c := hdrContract img
  let parts := ((hdrParts img).filter (partInside img)).map (imgPart img)
  firstFail [(c < 3 && hdrInterleave img == 1, 7),
    (c == 1 && parts.any fun b => partVarMap b != 0 || partFlags b % 2 == 1, 7),
    (c ≥ 2 && parts.any fun b => partVarMap b == 0 && partFlags b % 2 == 0, 7),
    (c < 3 && parts.any fun b => (partAllSlots b).any fun e => e.kind == 2, 7)]

/-- Whether entries of one list are sorted by LANE and then START (R35). -/
def slotsSorted : List Slot → Bool
  | a :: b :: t => (a.lane < b.lane || (a.lane == b.lane && a.start ≤ b.start)) && slotsSorted (b :: t)
  | _ => true

/-- Whether two slot entries of one lane overlap. -/
def slotsMeet (a b : Slot) : Bool :=
  a.lane == b.lane && a.start < b.start + b.len && b.start < a.start + a.len

/-- Whether any two entries of a sorted list overlap on one lane. -/
def slotsOverlap : List Slot → Bool
  | a :: b :: t => slotsMeet a b || slotsOverlap (b :: t)
  | _ => false

/-- Whether the offsets of a partition lie inside it. -/
def partShape (b : List Byte) (head : Bool) : Bool :=
  let n := b.length
  decide (64 ≤ n) && decide (partTickMap b + 1024 ≤ n) &&
  (partVarMap b == 0 || decide (partVarMap b + 1024 ≤ n)) &&
  decide (partDir b + 60 * partTables b ≤ n) &&
  (!head || decide (partWinGeo b + 1024 ≤ n)) &&
  (List.range (15 * partTables b)).all fun i =>
    let d := u32 b (partDir b + 4 * i)
    d % 65536 == 0 || decide (d / 65536 * 8 + d % 65536 * 8 ≤ n)

/-- The tick tables that a partition's tick maps select (R34, R44). -/
def partRunTables (b : List Byte) : List Nat :=
  ((List.range 512).flatMap fun t => [partTableOf b false t, partTableOf b true t]).eraseDups

/-- The largest work that a partition's entries place on one lane of an engine in any tick it runs. -/
def partWork (b : List Byte) (e lane : Nat) : Nat :=
  (partRunTables b).foldl (fun m t =>
    max m (((partSlots b t e).filter fun x => x.lane == lane).map Slot.len).sum) 0

/-- Whether a head partition's measured windows follow R482 under one of its maps. -/
def windowsAgree (b : List Byte) (head : Nat) (variant : Bool) : Bool :=
  (List.range 512).all fun t =>
    let tb := partTableOf b variant t
    let prev := partTableOf b variant ((t + 511) % 512)
    let next := partTableOf b variant ((t + 1) % 512)
    let ms := measuredWindows b tb
    let tdc := ((partSlots b tb 1).filter fun x => x.kind == 0).map Slot.window
    let stp := ((partSlots b tb 3).filter fun x => x.kind == 0 && x.head == head).map Slot.window
    let stpPrev := ((partSlots b prev 3).filter fun x => x.kind == 0 && x.head == head).map Slot.window
    ms.all (fun j => tdc.contains j && (if j = 0 then stpPrev.contains 7 else stp.contains (j - 1))) &&
    tdc.all ms.contains &&
    stp.all fun j => if j = 7 then (measuredWindows b next).contains 0 else ms.contains (j + 1)

/-- The zero rules of step 4 of R39 for a present partition; true when one is broken. A field that does not lie inside the image
is no zero: the range rules refuse it. -/
def partZero (b : List Byte) (head inside : Bool) : Bool :=
  (decide (64 ≤ b.length) && partTables b == 0) ||
  (inside && partShape b head && ((partAllSlots b).any (fun e => e.len == 0) ||
    (head && (List.range 256).any fun i => (partStop b (i / 32) (i % 32)).2 == 0)))

/-- The range rules of step 4 of R39 for a present partition; true when one is broken. -/
def partRange (hdr b : List Byte) (p : Nat) : Bool :=
  let head := p < 8
  !partShape b head || u8 b 0 != p || partTables b > 512 || partFlags b > 1 ||
  (partFlags b % 2 == 1) != (partVarMap b != 0) || (!head && partWinGeo b != 0) ||
  (b.drop 0x14 |>.take 44).any (fun x => x != 0) ||
  (List.range 512).any (fun t => decide (partTables b ≤ partTableOf b false t)
    || decide (partTables b ≤ partTableOf b true t)) ||
  (List.range (partTables b)).any (fun t => (List.range 15).any fun e =>
    let l := partSlots b t e
    !slotsSorted l || slotsOverlap l ||
    l.any fun x => x.engine != e || (head && x.head != p) || x.kind == 3 || x.resv != 0 ||
      !hasBit (hdrLaneMask hdr p e) x.lane) ||
  (List.range 15).any (fun e => (List.range 32).any fun lane =>
    hasBit (hdrLaneMask hdr p e) lane && decide (hdrBudget hdr p e < partWork b e lane)) ||
  (head && !(windowsAgree b p false && windowsAgree b p true))

/-- Whether two partitions of an image overlap. -/
def partsOverlap (img : List Byte) : Bool :=
  (List.range 9).any fun p => (List.range 9).any fun q =>
    decide (p < q) && hdrPartLen img p != 0 && hdrPartLen img q != 0 &&
    decide (hdrPartOfs img p < hdrPartOfs img q + hdrPartLen img q) &&
    decide (hdrPartOfs img q < hdrPartOfs img p + hdrPartLen img p)

/-- Step 4 of R39, over every partition present. -/
def imgStep4 (img : List Byte) (named : List Nat) : Nat :=
  let here := hdrParts img
  firstFail [
    (named.any fun p => decide (p < 8) && hdrPartLen img p == 0 && hasBit (hdrHeadMask img) p, 1),
    (named.contains 8 && hdrPartLen img 8 == 0, 1),
    (here.any fun p => partZero (imgPart img p) (decide (p < 8)) (partInside img p), 1),
    (hdrInterleave img > 1 || hdrCalShare img > 50 || ((img.drop 0x4B8).take 840).any (fun x => x != 0), 2),
    (here.any fun p => !partInside img p || decide (hdrPartOfs img p < 2048) ||
       decide (114688 < hdrPartLen img p) || (decide (p < 8) && !hasBit (hdrHeadMask img) p), 2),
    (partsOverlap img, 2),
    (here.any fun p => partRange img (imgPart img p) p, 2)]

/-- A partition of the image in force after a swap: its number, header and bytes. -/
structure PartInForce where
  no   : Nat
  hdr  : List Byte
  part : List Byte
  deriving DecidableEq, Repr

/-- Whether entries of the list from different partitions or engines overlap on one lane. -/
def anyMeet : List (Nat × Slot) → Bool
  | [] => false
  | a :: t => t.any (fun b => slotsMeet a.2 b.2) || anyMeet t

/-- Rule 3 of R44 in tick `t`, under the ordinary or the variant maps. -/
def rule3Tick (ps : List PartInForce) (variant : Bool) (t : Nat) : Bool :=
  let ent (e : Nat) : List (Nat × Slot) :=
    ps.flatMap fun p => (partSlots p.part (partTableOf p.part variant t) e).map fun x => (p.no, x)
  (List.range 15).all (fun e => engBursts e || !anyMeet (ent e)) &&
  !anyMeet (ent 10 ++ ent 12 ++ ent 13)

/-- Rule 5 of R44 in tick `t`. -/
def rule5Tick (ps : List PartInForce) (share : Nat) (variant : Bool) (t : Nat) : Bool :=
  [1, 2].all fun e => (List.range (engLanes e)).all fun lane =>
    !(ps.any fun p => hasBit (hdrLaneMask p.hdr p.no e) lane) ||
    decide (share * 40 ≤ ((ps.flatMap fun p => (partSlots p.part (partTableOf p.part variant t) e).filter
      fun x => x.kind == 1 && x.lane == lane).map Slot.len).sum)

/-- Step 5 of R39: the budget rules of R44 over the image in force after the swap. `exhausted` names the lane groups
that LANE_MAP shows exhausted. -/
def imgStep5 (ps : List PartInForce) (share speed exhausted : Nat) : Nat :=
  let laneOk (e lane : Nat) : Bool := decide (lane < engLanes e) &&
    match laneGroup e lane with
    | some g => !(hasBit exhausted g && lane == groupTop e lane)
    | none => true
  firstFail [
    ((List.range 15).any fun e => (List.range (engLanes e)).any fun lane =>
      decide (engCapacity speed e * 875 / 1000 < ((ps.filter fun p => hasBit (hdrLaneMask p.hdr p.no e) lane).map
        fun p => hdrBudget p.hdr p.no e).sum), 6),
    (ps.any fun p => (partRunTables p.part).any fun t => (List.range 15).any fun e =>
      (partSlots p.part t e).any fun x => decide (engEnd speed e < x.start + x.len), 6),
    ((List.range 512).any fun t => !rule3Tick ps false t || !rule3Tick ps true t, 6),
    (ps.any fun p => decide (p.no < 8) && (List.range 256).any fun i =>
      let w := partStop p.part (i / 32) (i % 32)
      decide (16000 < w.1 + w.2), 6),
    (share != 0 && (List.range 512).any fun t => !rule5Tick ps share false t || !rule5Tick ps share true t, 6),
    (ps.any fun p => (List.range 15).any fun e => (List.range 32).any fun lane =>
      hasBit (hdrLaneMask p.hdr p.no e) lane && !laneOk e lane, 6)]

end Sys2Proof.Machine
end

