-- ==== Sys2Proof/Machine/Screed.lean ====
section
/-! DEFINITION. Screed (R30 to R56, R481, R482): the image in force, loads and swaps, tick closure, replay and spare lanes, and the free-run horizon. -/

namespace Sys2Proof.Machine

/-! ## The image in force -/

/-- Whether partition `p` runs from slot B. -/
def State.slotB (s : State) (p : Nat) : Bool := hasBit (s.rd SCD.ACTIVE_SLOT) p

/-- The active or the other slot of a partition. -/
def State.imgSlot (s : State) (p : Nat) (active : Bool) : ImgSlot :=
  if h : p < 9 then
    if s.slotB p == active then s.scd.slots[9 + p] else s.scd.slots[p]
  else {}

/-- A slot of a partition put. -/
def State.putSlot (s : State) (p : Nat) (active : Bool) (x : ImgSlot) : State :=
  if h : p < 9 then
    let v := if s.slotB p == active then s.scd.slots.set (9 + p) x else s.scd.slots.set p x
    { s with scd.slots := v }
  else s

/-- The swap of SCD that waits for its boundary: its partitions and its tick. -/
def State.pendingSwap (s : State) : Option (Nat × Nat) :=
  s.commits.findSome? fun c =>
    match c.page, c.vals.find? (fun v => v.1 == SCD.SWAP_PART_MASK.key), c.due with
    | .scd, some v, .tick n => some (v.2, n)
    | _, _, _ => none

/-- The bytes of partition `p` under which the measurements of tick `m` are worked (R42): the old slot for
measurements made before the last swap, the staged one for the tick that a waiting swap begins. -/
def State.partFor (s : State) (p m : Nat) : List Byte :=
  let swapAt := if h : p < 9 then s.scd.swapAt[p] else 0
  let soon : Bool := match s.pendingSwap with
    | some (mask, n) => hasBit mask p && n ≤ m
    | none => false
  if soon then (s.imgSlot p false).part
  else if hasBit s.scd.held p && m < swapAt then (s.imgSlot p false).part
  else (s.imgSlot p true).part

/-- The tick table of partition `p` in the tick with number `n`, for measurements of tick `m`. -/
def State.tableFor (s : State) (p n m : Nat) : Nat :=
  partTableOf (s.partFor p m) (s.scd.variant && hdrContract s.scd.runHdr != 1) (s.tickOf n)

/-- One engine's entries in the tick in progress, for measurements of tick `m`. -/
def State.entries (s : State) (p e m : Nat) : List Slot :=
  partSlots (s.partFor p m) (s.tableFor p s.now m) e

/-- Whether the measurements of the tick in progress are masked away: coat 3 of a throttled frame under a ZC-1 image
(R37). -/
def State.coatMasked (s : State) : Bool :=
  s.scd.variant && hdrContract s.scd.runHdr == 1 && s.coat == 3

/-- The windows that a head measures in the tick in progress (R12, R482). -/
def State.measured (s : State) (h : Nat) : List Nat :=
  if s.scd.measuring && decide (s.scd.measureFrom ≤ s.now) && s.present h && !s.coatMasked then
    (((s.entries h 0 s.now).filter fun e => e.kind == 0).map Slot.window)
  else []

/-- The stop window of a head's partition for a pulse slot and row group (R98). -/
def State.stopWin (s : State) (h m k l : Nat) : Nat × Nat := partStop (s.partFor h m) k l

/-- The emitter column of a window: Zheob's default assignment, the only one an image states (R12, log entry 20). -/
def emitterColumn (window : Nat) : Nat := window

/-! ## Loads (R38, R39) -/

/-- The speed code at which the memory runs (R44 rule 2): that of a trained channel. -/
def State.memSpeed (s : State) : Nat :=
  match (List.range 4).find? fun c => s.on (MEM.STAT_TRAINED c) with
  | some c => s.rd (MEM.STAT_SPEED c)
  | none => s.rd (MEM.STAT_SPEED 0)

/-- The lane groups that LANE_MAP shows exhausted. -/
def State.exhausted (s : State) : Nat :=
  ((List.range 15).filter fun g => s.on (SCD.LANE_MAP_EXHAUSTED g)).foldl (fun m g => m + 2 ^ g) 0

/-- SCHED_LOAD: a write of LOAD with GO starts a load, or ends at once with CFG_BUSY (R38). -/
def schedLoadGo (mask : Nat) (flash : Bool) (s : State) : State :=
  if s.scd.load.isSome || s.on (HDR.STAT_COMMIT_PENDING .scd) || (mask &&& s.scd.held) != 0 then
    (s.wr SCD.LOAD_STAT_CODE CFG_BUSY).irq .scd 4
  else
    let len := if flash then u32 (s.fldN 0x1200000 12) 8 else s.rd SCD.IMG_LEN_LEN
    { s with scd := { s.scd with
        load := some { addr := s.rd SCD.IMG_ADDR_HI_ADDR * 2 ^ 32 + s.rd SCD.IMG_ADDR_LO_ADDR * 64
                       len := len, mask := mask, flash := flash } } }.wr SCD.LOAD_STAT_BUSY 1

/-- The numbers of the partitions in a mask. -/
def partsIn (mask : Nat) : List Nat := (List.range 9).filter fun p => hasBit mask p

/-- The image in force after a swap of the named partitions of an image (R44). -/
def State.forceAfter (s : State) (img : List Byte) (named : List Nat) : List PartInForce :=
  (List.range 9).filterMap fun p =>
    if named.contains p then
      if hdrPartLen img p = 0 then none else some { no := p, hdr := img.take 2048, part := imgPart img p }
    else if hasBit (s.rd SCD.ACTIVE_PRESENT) p then
      some { no := p, hdr := (s.imgSlot p true).hdr, part := (s.imgSlot p true).part }
    else none

/-- The result of a load: a read error, or the code of the first failing step (R38, R39). -/
def State.loadCode (s : State) (r : LoadReq) (img : List Byte) (readErr : Bool) : Nat :=
  let named := partsIn r.mask
  let c1 := imgStep1 r.mask r.len (hdrLen img) (r.flash || decide (r.addr + r.len ≤ s.memSize))
  if c1 ≠ 0 then c1 else if readErr then PARITY else
  let c2 := imgStep2 img
  if c2 ≠ 0 then c2 else
  let c3 := imgStep3 img
  if c3 ≠ 0 then c3 else
  let c4 := imgStep4 img named
  if c4 ≠ 0 then c4 else
  imgStep5 (s.forceAfter img named) (hdrCalShare img) s.memSpeed s.exhausted

/-- SCHED_LOAD_DONE: the running load ends, at the first burst that fails its check where it comes from device memory; verified partitions are staged, a failing load empties the inactive slots
it named (R38). -/
def schedLoadEnd (flips : List Flip) (s : State) : State :=
  match s.scd.load with
  | none => s
  | some r =>
    let bad := if r.flash || decide (2 ^ 20 < r.len) || decide (s.memSize < r.addr + r.len) then none
      else s.firstBad flips r.addr (divUp r.len 64)
    let s := s.countFirst flips bad
    let img := if 2 ^ 20 < r.len then [] else
      if r.flash then s.fldN 0x1200000 r.len else (s.asRead flips).ldN r.addr r.len
    let named := partsIn r.mask
    let code := s.loadCode r img bad.isSome
    let n := s.scd.loads + 1
    let s := { s with scd := { s.scd with load := none, loads := n } }
    let s := State.each named (fun p s => s.putSlot p false
      (if code = 0 then { hdr := img.take 2048, part := imgPart img p, load := n } else {})) s
    let good := named.foldl (fun m p => clrBit m (if s.slotB p then p else 9 + p)) s.scd.badSlots
    let s := { s with scd.badSlots := good }
    let s := (s.wr SCD.LOAD_STAT_BUSY 0).wr SCD.LOAD_STAT_CODE code
    let keep := (partsIn (s.rd SCD.LOAD_STAT_LOADED)).filter fun p => !named.contains p
    let s := s.wr SCD.LOAD_STAT_LOADED
      ((keep ++ if code = 0 then named else []).foldl (fun m p => setBit m p) 0)
    s.irq .scd 4

/-- OLD_SLOT_RELEASE: three ticks after its swap, a partition's old slot is released for new loads (R42). -/
def execOldSlotRelease (p : Fin 9) (s : State) : Host.Outcome State Fault Refusal :=
  live s (if hasBit s.scd.held p.val && decide (s.scd.swapAt[p] + 3 ≤ s.now) then
    { s with scd := { s.scd with held := clrBit s.scd.held p.val } } else s)

/-! ## Swaps (R40, R41) -/

/-- The header staged with the partitions of a mask: the one of the lowest partition named. -/
def State.stagedHdr (s : State) (mask : Nat) : List Byte :=
  match partsIn mask with
  | [] => []
  | p :: _ => (s.imgSlot p false).hdr

/-- The checks of a swap in the order of their codes (R40). -/
def State.swapCode (s : State) (mask : Nat) : Nat :=
  let named := partsIn mask
  let hdr := s.stagedHdr mask
  let run := s.scd.runHdr
  let has8 := hasBit mask 8 || hasBit (s.rd SCD.ACTIVE_PRESENT) 8
  let diff := Nat.xor (hdrHeadMask hdr) s.headMask
  firstFail [
    (!has8, 1),
    (named.any (fun p => !hasBit (s.rd SCD.LOAD_STAT_LOADED) p), 2),
    (named.any (fun p => named.any fun q => (s.imgSlot p false).load != (s.imgSlot q false).load), 2),
    ((List.range 8).any (fun h => hasBit diff h && !hasBit mask h), 2),
    (hdrContract hdr == 1 && mask != 0x1FF, 7),
    ((hdrContract hdr != hdrContract run || hdrInterleave hdr != hdrInterleave run ||
      hdrCalShare hdr != hdrCalShare run) && mask != 0x1FF, 7)]

/-- Whether a swap takes hold only at a frame boundary (R41). -/
def State.swapNeedsFrame (s : State) (mask : Nat) : Bool :=
  hdrHeadMask (s.stagedHdr mask) != s.headMask || hdrContract (s.stagedHdr mask) == 1

/-- The registers that show the running image (R40, R56). -/
def State.showRun (s : State) : State :=
  let h := s.scd.runHdr
  let s := State.each (List.range 8) (fun n s => s.wrB (EMT.HEAD_STAT_PRESENT n) (hasBit (hdrHeadMask h) n)) s
  ((((s.wr SCD.ACTIVE_HEAD_MASK (hdrHeadMask h)).wr SCD.RUN_INFO_CONTRACT (hdrContract h)).wr SCD.RUN_INFO_INTERLEAVE
    (hdrInterleave h)).wr SCD.RUN_INFO_CAL_SHARE (hdrCalShare h)).wr SCD.RUN_SEQ_IMG_SEQ (hdrImgSeq h)

/-! ## Dropped units and lanes (R47 to R52) -/

/-- The cells of a unit as an event record names them: 16 rows and 1 column (R348). -/
def State.unitCells (s : State) (u : WorkUnit) : CellSet :=
  { first := cellNo u.head (16 * u.group) (8 * (s.tickOf u.mtick % 128) + emitterColumn u.window)
    rows := 16, cols := 1, step := 0 }

/-- A page's register as one word: its fields in their places. -/
def State.word (s : State) (p : Page) (off : Nat) : Nat :=
  ((p.fields.filter fun f => f.key / 32 == off).map fun f => s.rd f * 2 ^ (f.key % 32)).sum

/-- Units dropped: counted, cleared by Scrim's bulk-clear engine, and marked in their windows, so that their placeholder
records are due; their contexts go back with the source unchanged (R47, R48, R130, R222). -/
def State.dropUnits (s : State) (us : List WorkUnit) : State :=
  let s := (s.satAdd SCD.REPLAY_STAT_DROPPED us.length).satAdd SCM.SCM_STAT_CLEARED us.length
  { s with
    scd.dropped := s.scd.dropped ++ us
    lth.cache := s.lth.cache.map fun x =>
      if us.contains x.wu then { x with rows := x.rows.map fun c => { c with upd := none } } else x
    wins := s.wins.map fun w =>
      let gs := (us.filter fun u => u.head == w.head && u.window == w.window && u.mtick == w.mtick).map WorkUnit.group
      { w with dropped := gs.foldl setBit w.dropped } }

/-- Units dropped without an overrun: counted in REPLAY_STAT.DROPPED and named in event records (R482). -/
def State.dropCounted (s : State) (us : List WorkUnit) : State :=
  if us = [] then s else
  let s := s.dropUnits us
  s.eventFull .scd 255 0 (us.map s.unitCells) [s.word .scd 0x2006C] false

/-- TICK_OVERRUN: unfinished work of a lane; its units are dropped under R47, and the engine and the tick recorded (log entry 92). -/
def State.overrun (s : State) (e lane : Nat) (us : List WorkUnit) : State :=
  let s := (s.dropUnits us).unclean
  let s := (((s.satInc SCD.OVERRUN_COUNT).wr SCD.OVERRUN_ENGINE e).wr SCD.OVERRUN_TICK s.tick).wr SCD.OVERRUN_NEW 1
  (s.irq .scd 0).eventFull .scd 0 lane (us.map s.unitCells) [s.word .scd 0x20068] false

/-- A lane of an engine declared faulty (R51), or its group exhausted (R52). -/
def State.laneFail (s : State) (e lane : Nat) : State :=
  match laneGroup e lane with
  | none => s
  | some g =>
    let used := s.on (SCD.LANE_MAP_PENDING g) || s.on (SCD.LANE_MAP_REMAPPED g)
    let off := 0x20080 + 4 * g
    if s.on (SCD.LANE_MAP_EXHAUSTED g) || (s.on (SCD.LANE_MAP_PENDING g) && s.rd (SCD.LANE_MAP_FAULTY g) == lane) then s
    else if used then
      let s := ((s.wr (SCD.LANE_MAP_EXHAUSTED g) 1).wr (SCD.LANE_MAP_SECOND g) lane).irq .scd 2
      let s := { s with scd.lostFrom := Sparse.put s.scd.lostFrom g (s.now + 1) }
      s.eventFull .scd 2 0 [] [s.word .scd off] true
    else
      let s := ((s.wr (SCD.LANE_MAP_FAULTY g) lane).wr (SCD.LANE_MAP_PENDING g) 1).irq .scd 2
      s.eventFull .scd 2 0 [] [s.word .scd off] true

/-- Whether the units of a lane are dropped: the second faulty lane from the tick after its declaration until the coat boundary, the
highest logical lane of an exhausted group after it (R52). -/
def State.laneLost (s : State) (e lane : Nat) : Bool :=
  match laneGroup e lane with
  | none => false
  | some g => s.on (SCD.LANE_MAP_EXHAUSTED g) &&
      (if hasBit s.scd.renumbered g then lane == groupTop e lane
       else s.rd (SCD.LANE_MAP_SECOND g) == lane && decide (Sparse.get s.scd.lostFrom g 0 ≤ s.now))

/-- The remap and the renumbering of a coat boundary (R51, R52). -/
def State.lanesAtCoat (s : State) : State :=
  State.each (List.range 15) (fun g s =>
    let s := if s.on (SCD.LANE_MAP_PENDING g) then (s.wr (SCD.LANE_MAP_PENDING g) 0).wr (SCD.LANE_MAP_REMAPPED g) 1 else s
    if s.on (SCD.LANE_MAP_EXHAUSTED g) then
      { s with scd := { s.scd with renumbered := setBit s.scd.renumbered g } } else s) s

/-- The measurement tick of the units that an engine works in the tick in progress (R15, R35): the tick before for the
processing engines, two before for Lath's writeback. -/
def State.unitTick (s : State) (e : Nat) : Nat := if e = 9 then s.now - 2 else s.now - 1

/-- Units to be replayed in the tick in progress that cannot be: dropped with an overrun of a lane (R49, R50). -/
def State.replayDrop (s : State) (which : ReplayMark → Bool) (e lane : Nat) : State :=
  let us := (s.scd.replays.filter which).map ReplayMark.wu
  let s := { s with scd.replays := s.scd.replays.map fun r => if which r then { r with ran := true } else r }
  if us = [] then s else s.overrun e lane us

/-- SLOT_PARITY_ERROR: a second read that also fails makes the partition's buffer slot faulty and its entry is skipped;
a good second read leaves no trace (R30). -/
def execSlotParityError (p : Fin 9) (e : Fin 15) (idx : Nat) (secondFails : Bool) (s : State) :
    Host.Outcome State Fault Refusal :=
  live s (let s := s.unclean
    if secondFails then
      let s := { s with scd := { s.scd with
        badSlots := setBit s.scd.badSlots (if s.slotB p.val then 9 + p.val else p.val)
        skips := s.scd.skips ++ [(p.val, e.val, idx)] } }
      (s.irq .scd 1).eventFull .scd 1 0 [] [s.word .scd 0x20058] true
    else s)

/-! ## What a tick works (R30, R47, R482) -/

/-- Whether an entry of the tick in progress is not worked: skipped after a failed second read, or without a working lane
(R30, R52). -/
def State.idleSlot (s : State) (p e i : Nat) (x : Slot) : Bool := s.scd.skips.contains (p, e, i) || s.laneLost e x.lane

/-- The entry of a window in the list of a window engine, with its place there (R32, R482). -/
def State.windowEntry (s : State) (h e window : Nat) : Option (Nat × Slot) :=
  ((s.entries h e s.now).zipIdx.find? fun x => x.1.kind == 0 && x.1.window == window).map fun x => (x.2, x.1)

/-- Whether a window engine does not work a window because its entry is skipped or has no working lane (R30, R52). -/
def State.windowIdle (s : State) (h e window : Nat) : Bool := (s.windowEntry h e window).any fun x => s.idleSlot h e x.1 x.2

/-- The entry of a unit in the list of a processing engine, with its place there (R35, R482). -/
def State.unitEntry (s : State) (e : Nat) (u : WorkUnit) : Option (Nat × Slot) :=
  ((s.entries u.head e u.mtick).zipIdx.find? fun x =>
    x.1.kind == 0 && x.1.window == u.window && x.1.group == u.group && x.1.head == u.head).map fun x => (x.2, x.1)

/-- Whether every processing engine before one has an entry for a unit, and a lane to work it: a unit is not worked from the
first engine on that lacks its entry (R30, R482). -/
def State.workable (s : State) (e : Nat) (u : WorkUnit) : Bool :=
  ([4, 5, 6, 7, 8].filter fun k => decide (k < e)).all fun k =>
    (s.unitEntry k u).any fun x => !s.idleSlot u.head k x.1 x.2

/-- The first engine of the pipeline from Scrim to the point builder that has not worked a unit in the tick in progress, and the
lane that the image gives the unit there, none where it has no entry. -/
def State.unfinished (s : State) (u : WorkUnit) : Option (Nat × Option Nat) :=
  [4, 5, 6, 7, 8].findSome? fun e =>
    match s.unitEntry e u with
    | none => some (e, none)
    | some (i, x) => if s.scd.done.contains (u.head, e, i) then none else some (e, some x.lane)

/-- The units measured in the tick before that the tick in progress has to work. -/
def State.unitsToWork (s : State) : List WorkUnit :=
  (s.wins.filter fun w => w.mtick + 1 == s.now && w.lit != 0).flatMap fun w =>
    ((List.range 8).filter fun g => !hasBit w.dropped g).map fun g =>
      { head := w.head, window := w.window, group := g, mtick := w.mtick }

/-! ## The lease (R53, R54, R55) -/

/-- LEASE_RENEW: AGE returns to 0 (R53). -/
def leaseRenew (s : State) : State :=
  ({ s with scd := { s.scd with renewed := true } }).wr SCD.LEASE_AGE 0

/-- LEASE_RENEW (R53). -/
def execLeaseRenew (s : State) : Host.Outcome State Fault Refusal := onPage .scd s (leaseRenew s)

end Sys2Proof.Machine
end

