-- ==== Sys2Proof/Machine/Emission.lean ====
section
/-! DEFINITION. Trowel (R57 to R85): shots and drive levels, derating, emission accumulators, interlock, gate-drive tests, the mirror servo, and the mirrors' ramps. -/

namespace Sys2Proof.Machine

/-- What Trowel holds for head `h`. -/
def State.emtOf (s : State) (h : Head) : EmtSt := s.emt[h]

/-- Trowel's state of a head put. -/
def State.putEmt (s : State) (h : Head) (e : EmtSt) : State := { s with emt := s.emt.set h e }

/-! ## Mirror targets (R13, R76) -/

/-- The coat offset in sixteenths of a mirror step times two, that is in 1/32 of a step: 0, 1/16, 1/32, 3/32 under
BITREV and 0 under FIXED (R13, R76). -/
def coatOffset32 (fixed : Bool) (coat : Nat) : Nat := if fixed then 0 else [0, 2, 1, 3].getD coat 0

/-- The drive target of tick `t` of the frame, rounded to the nearest code; a target half way between two codes takes the one
away from zero (R76; DESIGN CHOICE, log entry 138: the rule does not say which). -/
def State.target (s : State) (h : Head) (t : Nat) : Int :=
  let m := t % 128
  let c (i : Nat) : Int := s.rd (EMT.STEP_CODE_CODE h.val i)
  let d := if m = 127 then c 127 - c 126 else c (m + 1) - c m
  let f := coatOffset32 (s.on SCD.RUN_INFO_INTERLEAVE) (t / 128 % 4)
  divNearI (32 * c m + f * d) 32

/-- A DAC code held in range. -/
def dacClamp (x : Int) : Nat := (clampI 0 65535 x).toNat

/-- The code of a 64-tick ramp `n` ticks after its start: the nearest one, with 1/64 of the way at the first MIRROR_STEP (R81,
R82; DESIGN CHOICE, log entry 139: the rules say only that the ramp is linear). -/
def rampCode (fromCode : Nat) (dest : Int) (n : Nat) : Nat :=
  dacClamp (divNearI (64 * (fromCode : Int) + (dest - fromCode) * (min n 64 : Nat)) 64)

/-- The angle estimate of a pickup conversion in DAC codes, to the nearest code (R78, log entry 21); free where A + B
is 0. -/
def State.theta (s : State) (h : Head) (p : Pickup) : Int :=
  if p.a + p.b = 0 then s.freeVal else
  s.rd (EMT.PICK_CAL_PK_OFS h.val) +
    divNearI ((s.rd (EMT.PICK_CAL_PK_GAIN h.val) : Int) * (p.a - p.b) * (p.a + p.b).sign) (p.a + p.b).natAbs

/-- The windows that a head's Trowel entries of the tick in progress name, and the cycles they give (R35, R482). -/
def State.emtWork (s : State) (h : Head) : Nat × Nat :=
  let l := s.entries h.val 0 s.now
  ((((l.filter fun x => x.kind == 0).map Slot.window).eraseDups).length, (l.map Slot.len).sum)

/-- Whether a tick's table holds the mirror servo's work: cycles for it beside those of its windows (R45, R481; DEDUCED, log
entry 140). -/
def State.servoWork (s : State) (h : Head) : Bool := decide (1600 * (s.emtWork h).1 + 2400 ≤ (s.emtWork h).2)

/-- Whether a tick's table holds the gate-drive short detection too (R45, R481; log entry 140). -/
def State.shortWork (s : State) (h : Head) : Bool := decide (1600 * (s.emtWork h).1 + 16400 ≤ (s.emtWork h).2)

/-- The servo's step from an error: the integrator after it, and dac(n+1) to the nearest code. With SERVO_EN 0 the integrator
stands and the target is the code (R78; log entries 141 and 142). -/
def State.servoStep (s : State) (h : Head) (acc err : Int) (bad : Bool) : Int × Nat :=
  let next := s.target h ((s.tick + 1) % 512)
  if s.on (EMT.MIR_CTRL_SERVO_EN h.val) then
    let acc := if bad then acc else clampI (-4096 * 256) (4095 * 256) (acc + s.rd (EMT.MIR_GAIN_KI h.val) * err)
    (acc, dacClamp (divNearI (256 * next + s.rd (EMT.MIR_GAIN_KP h.val) * err + acc) 256))
  else (acc, dacClamp next)

/-- SERVO_UPDATE and ANGLE_ERROR at the strobe of the tick just begun, from the pickups converted there (R78, R79, R481). `v` is
the state with everything that takes hold at this boundary, under which the tick runs (R20, R23). LAST_ERR holds the error of
the codes as they were converted, one with OVR or OPEN too (log entry 143). -/
def State.servo (s v : State) (h : Head) : State :=
  let e := v.emtOf h
  if e.mir ≠ .run then s else
  if !v.servoWork h then s.putEmt h { s.emtOf h with mir := .run, angBad := false, dacNext := s.rd (EMT.MIR_DAC_CODE h.val) } else
  let p := s.emtOf h
  let err := v.target h v.tick - v.theta h p.pick
  let bad := p.pickBad || decide ((v.rd (EMT.ANG_LIM_LIM h.val) : Int) < err.natAbs)
  let next := v.servoStep h e.acc err bad
  let s := s.putEmt h { p with mir := .run, acc := next.1, angBad := bad, dacNext := next.2 }
  if bad then
    ((s.wrI (EMT.MIR_STAT_LAST_ERR h.val) err).satInc (EMT.MIR_STAT_ANG_FLAGS h.val)).irq (.emt h) 2
  else s

/-- MIRROR_STEP: at T+96.9 µs the DAC of a head changes to its next code, on the servo's path, on a ramp, or back to
PARK_CODE (R77, R81, R82). -/
def mirrorStep (h : Head) (s : State) : State :=
  let e := s.emtOf h
  let code := match e.mir with
    | .parked => s.rd (EMT.PARK_CODE_CODE h.val)
    | .out st c => rampCode c (s.target h 0) (s.now + 1 - st)
    | .home st c => rampCode c (s.rd (EMT.PARK_CODE_CODE h.val)) (s.now + 1 - st)
    | .run => e.dacNext
  s.wr (EMT.MIR_DAC_CODE h.val) code

/-- MIRROR_STEP (R77). -/
def execMirrorStep (h : Head) (s : State) : Host.Outcome State Fault Refusal := live s (mirrorStep h s)

/-- The mirror of a head starts its ramp from the code it stands at to target(0) (R81). -/
def State.mirrorOut (s : State) (h : Head) : State :=
  let e := s.emtOf h
  ((s.putEmt h { e with mir := .out s.now (s.rd (EMT.MIR_DAC_CODE h.val)) }).wr (EMT.HEAD_STAT_PARKED h.val) 0)

/-- The mirror of a head starts its ramp to PARK_CODE from its last target; from the code it stands at where it follows no
targets (R82). -/
def State.mirrorHome (s : State) (h : Head) : State :=
  let e := s.emtOf h
  let start := if e.mir = .run then dacClamp (s.target h s.tick) else s.rd (EMT.MIR_DAC_CODE h.val)
  s.putEmt h { e with mir := .home s.now start }

/-- MIRROR_RAMP_START: 64 ticks before the boundary at which an accepted swap adds head `h`, or at acceptance if that is
later, the mirror starts its ramp (R81). -/
def mirrorRampStart (h : Head) (s : State) : State :=
  match s.pendingSwap with
  | some (mask, n) =>
    if hasBit (hdrHeadMask (s.stagedHdr mask)) h.val && !s.present h.val && n ≤ s.now + 64 &&
        decide ((s.emtOf h).mir = .parked) then s.mirrorOut h
    else s
  | none => s

/-- MIRROR_RAMP_START (R81). -/
def execMirrorRampStart (h : Head) (s : State) : Host.Outcome State Fault Refusal := live s (mirrorRampStart h s)

/-- MIRROR_PARK_DONE: 64 ticks after a park ramp began, PARKED is set and raised (R82). -/
def mirrorParkDone (h : Head) (s : State) : State :=
  match (s.emtOf h).mir with
  | .home st _ =>
    if st + 64 ≤ s.now then
      let s := s.putEmt h { s.emtOf h with mir := .parked }
      ((s.wr (EMT.HEAD_STAT_PARKED h.val) 1).wr (EMT.MIR_DAC_CODE h.val) (s.rd (EMT.PARK_CODE_CODE h.val))).irq (.emt h) 5
    else s
  | _ => s

/-- MIRROR_PARK_DONE (R82). -/
def execMirrorParkDone (h : Head) (s : State) : Host.Outcome State Fault Refusal := live s (mirrorParkDone h s)

/-! ## Energy at coat boundaries (R65 to R70) -/

/-- A new ramp from the index in force to the committed target (R65). -/
def State.rampStart (s : State) (h : Head) : State :=
  let e := s.emtOf h
  let l := s.rd (EMT.REACH_RAMP_COATS h.val)
  (s.putEmt h { e with rampA := s.rd (EMT.REACH_STAT_RAMP_IDX h.val), rampB := s.rd (EMT.REACH_REACH_IDX h.val),
                       rampN := 0, rampL := l }).wr (EMT.REACH_STAT_COATS_LEFT h.val) l

/-- The ramp index n coats into a ramp from a to b over L coats, halves away from zero (R65). -/
def rampIndex (a b n l : Nat) : Nat := ((a : Int) + divNearI (((b : Int) - a) * n) l).toNat

/-- REACH_RAMP_STEP: the ramp index of the coat that begins (R65). -/
def State.rampStep (s : State) (h : Head) : State :=
  let e := s.emtOf h
  if e.rampN < e.rampL then
    let n := e.rampN + 1
    ((s.putEmt h { e with rampN := n }).wr (EMT.REACH_STAT_RAMP_IDX h.val)
      (rampIndex e.rampA e.rampB n e.rampL)).wr (EMT.REACH_STAT_COATS_LEFT h.val) (e.rampL - n)
  else s

/-- The cap that R67 computes from a board temperature in 1/16 °C; none for no emission. -/
def derateCap (t16 t0 step toff : Int) : Option Nat :=
  if toff * 16 ≤ t16 then none
  else if t16 ≤ t0 * 16 then some 63
  else some (63 - ((t16 - t0 * 16 + 16 * step - 1) / (16 * step)).toNat)

/-- Whether no RTD result serves head `h`: OPEN or OVR, or none valid younger than 100 ms (R68). -/
def State.rtdFails (s : State) (h : Head) : Bool :=
  !s.on (HKP.RTD_T_VALID h.val) ||
  match s.hkp.rtdAt[h.val]'(by omega) with
  | some n => decide (n + 1000 ≤ s.now)
  | none => true

/-- DERATE_CAP and RTD_FAIL at a coat boundary: a lower cap at once, a higher one by one index, and FAIL_IDX itself while no RTD
result serves (R67, R68; DEDUCED, log entry 173). The cap follows the temperature in 1/16 °C; BOARD_T shows its whole degrees, rounded down (R84; DESIGN CHOICE, log entry 144). -/
def State.derate (s : State) (h : Head) : State :=
  let old := s.rd (EMT.REACH_STAT_CAP_IDX h.val)
  let raise (c : Nat) : Nat := if c ≤ old then c else old + 1
  if s.rtdFails h then
    let s' := s.wr (EMT.HEAD_STAT_RTD_FAIL h.val) 1
    let s' := if s.on (EMT.HEAD_STAT_RTD_FAIL h.val) then s' else s'.irq (.emt h) 3
    (s'.wr (EMT.HEAD_STAT_DERATE_OFF h.val) 0).wr (EMT.REACH_STAT_CAP_IDX h.val) (s.rd (EMT.DERATE_FAIL_IDX h.val))
  else
    let t16 := s.rdI (HKP.RTD_T_TEMP h.val)
    let s := (s.wr (EMT.HEAD_STAT_RTD_FAIL h.val) 0).wrI (EMT.HEAD_STAT_BOARD_T h.val) (t16 / 16)
    match derateCap t16 (s.rdI (EMT.DERATE_T0 h.val)) (s.rd (EMT.DERATE_STEP h.val)) (s.rdI (EMT.DERATE_T_OFF h.val)) with
    | none => (s.wr (EMT.HEAD_STAT_DERATE_OFF h.val) 1).wr (EMT.REACH_STAT_CAP_IDX h.val) 0
    | some c => (s.wr (EMT.HEAD_STAT_DERATE_OFF h.val) 0).wr (EMT.REACH_STAT_CAP_IDX h.val) (raise c)

/-- EFF_IDX of the coat that begins (R66). -/
def State.effIdx (s : State) (h : Head) : State :=
  s.wr (EMT.REACH_STAT_EFF_IDX h.val) (min (s.rd (EMT.REACH_STAT_RAMP_IDX h.val)) (s.rd (EMT.REACH_STAT_CAP_IDX h.val)))

/-- The drive level in force for a head (R66). -/
def State.drive (s : State) (h : Head) : Nat :=
  s.rd (EMT.ECURVE_DRIVE h.val (s.rd (EMT.REACH_STAT_EFF_IDX h.val)))

/-- The accumulators' window lengths, contents and units: AEL0, AEL1, AEL2 (R69). -/
def State.aelParts (s : State) (h : Head) : List (Nat × List Nat × Nat × Nat) :=
  let e := s.emtOf h
  [(s.rd (EMT.AEL0_LEN_LEN h.val), e.ael0, s.rd (EMT.AEL0_LIMIT_LIMIT h.val), 1),
   (s.rd (EMT.AEL1_LEN_LEN h.val), e.ael1, s.rd (EMT.AEL1_LIMIT_LIMIT h.val), 4096),
   (s.rd (EMT.AEL2_LEN_LEN h.val), e.ael2, s.rd (EMT.AEL2_LIMIT_LIMIT h.val), 65536)]

/-- The accumulator sum over its window (R69). -/
def aelSum (len : Nat) (w : List Nat) : Nat := (w.take len).sum

/-- Whether `energy` more drive units would exceed a limit of an evaluated accumulator (R70). -/
def State.aelExceeds (s : State) (h : Head) (energy : Nat) : Bool :=
  (s.aelParts h).any fun (len, w, limit, unit) => len != 0 && decide (limit * unit < aelSum len w + energy)

/-- The sum registers, in the limit's unit, saturating (R84). -/
def State.aelShow (s : State) (h : Head) : State :=
  State.each (s.aelParts h).zipIdx (fun (p, n) s =>
    s.wr (EMT.AEL_SUM h.val n) (min (aelSum p.1 p.2.1 / p.2.2.2) (2 ^ 32 - 1))) s

/-- Drive units added to the newest entry of a window. -/
def addHead (n : Nat) : List Nat → List Nat
  | [] => [n]
  | a :: t => (a + n) :: t

/-- Shots of a window added to every accumulator (R69). -/
def State.aelAdd (s : State) (h : Head) (n : Nat) : State :=
  let e := s.emtOf h
  (s.putEmt h { e with ael0 := addHead n e.ael0, ael1 := addHead n e.ael1, ael2 := addHead n e.ael2 }).aelShow h

/-- AEL0 slides by a tick (R69). -/
def State.aelTick (s : State) (h : Head) : State :=
  let e := s.emtOf h
  (s.putEmt h { e with ael0 := (0 :: e.ael0).take 128 }).aelShow h

/-- AEL1 slides by a coat, AEL2 by a block of 64 coats; the blocks are counted from the reset that cleared the windows (R69;
DESIGN CHOICE, log entry 145: the rule does not say where a block begins). -/
def State.aelCoat (s : State) (h : Head) : State :=
  let e := s.emtOf h
  let e := { e with ael1 := (0 :: e.ael1).take 1024, blockCoats := e.blockCoats + 1 }
  let e := if e.blockCoats = 64 then { e with blockCoats := 0, ael2 := (0 :: e.ael2).take 256 } else e
  (s.putEmt h e).aelShow h

/-- The cells that a set of lines and columns of a head lights (R57, R348). -/
def pinCells (h : Nat) (pin : Nat) : CellSet :=
  if pin < 32 then { first := cellNo h (4 * pin) 0, rows := 4, cols := 1024, step := 0 }
  else { first := cellNo h 0 (pin - 32), rows := 128, cols := 128, step := 3 }

/-- PIN_FAULT and FAULT_CLR at a coat boundary: faults found in the last tick take hold, and pins that passed the test
after a FAULT_CLR are cleared (R74, R75). -/
def State.pinsAtCoat (s : State) (h : Head) : State :=
  let e := s.emtOf h
  if !e.tested then s else
  let old := s.rd (EMT.GD_FAULT_LINE_FAULT h.val) + s.rd (EMT.GD_FAULT_COL_FAULT h.val) * 2 ^ 32
  let clr := e.clrs.any fun n => decide (n < s.now)
  let kept := if clr then (List.range 40).foldl (fun m i => if hasBit e.pinsGood i then clrBit m i else m) old else old
  let new := kept ||| e.pinsBad
  let fresh := (List.range 40).filter fun i => hasBit new i && !hasBit old i
  let s := s.putEmt h { e with pinsBad := 0, pinsGood := 0, tested := false, clrs := e.clrs.filter fun n => !decide (n < s.now) }
  let s := ((s.wr (EMT.GD_FAULT_LINE_FAULT h.val) (new % 2 ^ 32)).wr (EMT.GD_FAULT_COL_FAULT h.val) (new / 2 ^ 32)).wr
    (EMT.GD_FAULT_COL_TESTED h.val) 1
  if fresh = [] then s else
  (s.irq (.emt h) 0).eventFull (.emt h) 0 0 (fresh.map (pinCells h.val))
    [s.rd (EMT.GD_FAULT_LINE_FAULT h.val), s.word (.emt h) (0x8005C + 0x1000 * h.val)] true

/-- GATE_DRIVE_TEST: what the tails of the last tick of a coat found on a head (R73). -/
def State.gateTest (s : State) (h : Head) (g : GateTest) : State :=
  let bad := (g.low ++ g.up.flatMap fun (p, n) => [p, n]).filter fun i => i < 40
  let m := bad.foldl setBit 0
  s.putEmt h { s.emtOf h with pinsBad := m, pinsGood := 2 ^ 40 - 1 - m, tested := true }

/-- FAULT_CLR: a write of CLR takes hold at the next coat boundary; the first complete test that ends after it clears
each faulty pin that passes (R75). -/
def faultClr (h : Head) (ns : Nat) (s : State) : State :=
  s.putEmt h { s.emtOf h with clrs := (s.emtOf h).clrs ++ [s.nextCoat ns] }

/-- FAULT_CLR (R75). -/
def execFaultClr (h : Head) (ns : Fin 100000) (s : State) : Host.Outcome State Fault Refusal :=
  onPage (.emt h) s (faultClr h ns.val s)

/-- A head that joins fires at ramp index 0 in its first coat, and ramps to its committed target from there (R65, R81). -/
def State.rampJoin (s : State) (h : Head) : State :=
  let e := s.emtOf h
  let l := s.rd (EMT.REACH_RAMP_COATS h.val)
  ((s.putEmt h { e with rampA := 0, rampB := s.rd (EMT.REACH_REACH_IDX h.val), rampN := 0, rampL := l }).wr
    (EMT.REACH_STAT_RAMP_IDX h.val) 0).wr (EMT.REACH_STAT_COATS_LEFT h.val) l

/-- What a coat boundary does for one head's emission (R65 to R70, R74). -/
def State.emtAtCoat (s : State) (h : Head) : State :=
  let s := ((((if (s.emtOf h).joinAt = some s.now then s.rampJoin h else s.rampStep h)).derate h).effIdx h).aelCoat h
  let s := s.pinsAtCoat h
  let e := s.emtOf h
  s.putEmt h { e with blanked := e.blanked && s.aelExceeds h (256 * s.drive h) }

/-! ## Firing (R60, R70, R71, R72) -/

/-- Whether a head's column is free to fire in a window apart from energy limits: no code, supply, token, time-base or
column cause stands against it. -/
def State.colFree (s : State) (h : Head) (col : Nat) : Bool :=
  hasBit (s.rd (EMT.COL_EN_EN h.val)) col && !hasBit (s.rd (EMT.GD_FAULT_COL_FAULT h.val)) col

/-- The lines of a head that are enabled and free of faults (R75). -/
def State.lines (s : State) (h : Head) : Nat :=
  s.rd (EMT.LINE_EN_EN h.val) &&& (2 ^ 32 - 1 - s.rd (EMT.GD_FAULT_LINE_FAULT h.val))

/-- SUPPLY_TOKEN_CHECK: the conditions of R71 evaluated before a window; SUPPLY is raised when one of them changed. -/
def State.supplyToken (s : State) (h : Head) (hsRb lsRb : Bool) : State :=
  let ok := s.on SAF.EMIT_HS_EN && s.on SAF.EMIT_LS_EN && hsRb && lsRb
  let tok := !s.on TWN.CFG_TWIN_EN || hasBit (s.rd TWN.TOKENS_GRANT) h.val
  let moved := ok != s.on (EMT.HEAD_STAT_SUPPLY_OK h.val) || tok != s.on (EMT.HEAD_STAT_TOKEN h.val)
  let s := (s.wrB (EMT.HEAD_STAT_SUPPLY_OK h.val) ok).wrB (EMT.HEAD_STAT_TOKEN h.val) tok
  if moved then s.irq (.emt h) 4 else s

/-- AEL_BLANK: a window whose energy would exceed a limit blanks the head to the end of the coat (R70). -/
def State.aelCheck (s : State) (h : Head) : State :=
  let e := s.emtOf h
  if e.blanked then s
  else if s.aelExceeds h (256 * s.drive h) then
    ((s.putEmt h { e with blanked := true }).wr (EMT.HEAD_STAT_AEL_BLANK h.val) 1).irq (.emt h) 1
  else s

/-- The lines that fire in a window: none when the head is blanked, derated, without supply, token or code, without
energy or crystal (R61, R66, R67, R70, R71, R113, R124). -/
def State.firingLines (s : State) (h : Head) (col : Nat) (code : Bool) : Nat :=
  if (s.emtOf h).blanked || s.on (EMT.HEAD_STAT_DERATE_OFF h.val) || !s.on (EMT.HEAD_STAT_SUPPLY_OK h.val) ||
     !s.on (EMT.HEAD_STAT_TOKEN h.val) || !code || !s.on STP.BOOK_STAT_OK || s.on TIM.XTAL_STAT_FAIL ||
     s.drive h == 0 || !s.colFree h col then 0
  else s.lines h

/-- A nanosecond in the units of `Shot`. -/
def shotNs : Nat := 131040

/-- F(k, l) − W for a pulse offset in coarse bins, in the units of `Shot`: the firing grid has 20,475 of them (R60). -/
def shotStart (off line : Nat) : Nat := 20475 * (5 * off + 256 * line)

/-- The shot width w in the units of `Shot` (R61). -/
def State.shotWidth (s : State) (h : Head) : Nat := 32 * (s.rd (EMT.FIRE_SHOT_MAX h.val) * s.drive h)

/-- The pre-charge of a shot among the shots of its window: shortened to the end of an earlier line's conduction, and none during
that conduction or less than 4 ns after it (R62; log entry 146). -/
def precharge (all : List (Nat × Nat × Nat)) (width full start : Nat) : Nat :=
  let last := (all.filter fun x => decide (x.2.2 < start)).foldl (fun m x => max m (x.2.2 + width)) 0
  if last = 0 then full else if start < last + 4 * shotNs then 0 else min full (start - last)

/-- The shots of a window: for each pulse slot, the lines that fire (R60 to R62). -/
def State.shotsOf (s : State) (h : Head) (lines : Nat) (offs : List Nat) : List Shot :=
  let all := offs.zipIdx.flatMap fun o => ((List.range 32).filter fun l => hasBit lines l).map fun l => (o.2, l, shotStart o.1 l)
  let w := s.shotWidth h
  all.map fun x => { slot := x.1, line := x.2.1, start := x.2.2, width := w,
                     prechg := precharge all w (shotNs * s.rd (EMT.FIRE_PRECHG_NS h.val)) x.2.2 }

/-- The column drive of a window's shots, counted from 200 ns before the window: from 200 ns before the first shot to 100 ns after
the last conduction (R63). -/
def columnDrive (col : Nat) (l : List Shot) : Option (Nat × Nat × Nat) :=
  match l with
  | [] => none
  | a :: t => some (col, t.foldl (fun m x => min m x.start) a.start,
      t.foldl (fun m x => max m (x.start + x.width)) (a.start + a.width) + 300 * shotNs)

/-- SHOT: the shots of a window on its drives: one for each pulse slot and line that fires, each adding its DRIVE to the
accumulators (R60 to R63, R69). -/
def State.fire (s : State) (h : Head) (col lines : Nat) (offs : List Nat) : State :=
  let l := s.shotsOf h lines offs
  let s := s.wrB (EMT.HEAD_STAT_EMITTING h.val) (lines != 0)
  let s := s.putEmt h { s.emtOf h with shots := l, col := columnDrive col l }
  if lines = 0 then s else
  (s.aelAdd h (8 * popcount lines 32 * s.drive h)).wr (EMT.HEAD_STAT_AEL_BLANK h.val) 0

/-! ## Checks of a commit (R64, R84, R85) -/

/-- The broken rules of a commit of `EMT[h]`: code and word. -/
def emtCheck (h : Head) (s : State) : List (Nat × Nat) :=
  let v (f : Fld) := s.rdSh f
  let zero (f : Fld) : List (Nat × Nat) := if v f = 0 then [(CFG_ZERO, f.word)] else []
  let above (f : Fld) (m : Nat) : List (Nat × Nat) := if m < v f then [(CFG_RANGE, f.word)] else []
  let below (f : Fld) (m : Nat) : List (Nat × Nat) := if v f < m then [(CFG_RANGE, f.word)] else []
  let h := h.val
  let t0 := sgn 9 (v (EMT.DERATE_T0 h))
  let toff := sgn 9 (v (EMT.DERATE_T_OFF h))
  zero (EMT.REACH_RAMP_COATS h) ++ above (EMT.REACH_RAMP_COATS h) 16 ++
  zero (EMT.FIRE_SHOT_MAX h) ++ above (EMT.FIRE_SHOT_MAX h) 20 ++ below (EMT.FIRE_SHOT_MAX h) 4 ++
  zero (EMT.FIRE_PRECHG_NS h) ++ above (EMT.FIRE_PRECHG_NS h) 20 ++ below (EMT.FIRE_PRECHG_NS h) 4 ++
  zero (EMT.DERATE_STEP h) ++ above (EMT.DERATE_STEP h) 16 ++
  (if toff ≤ t0 ∨ t0 < -40 ∨ 150 < t0 ∨ 150 < toff then [(CFG_RANGE, (EMT.DERATE_T0 h).word)] else []) ++
  zero (EMT.AEL1_LEN_LEN h) ++ above (EMT.AEL0_LEN_LEN h) 128 ++ above (EMT.AEL1_LEN_LEN h) 1024 ++
  above (EMT.AEL2_LEN_LEN h) 256 ++
  (if v (EMT.AEL0_LEN_LEN h) ≠ 0 then zero (EMT.AEL0_LIMIT_LIMIT h) else []) ++ zero (EMT.AEL1_LIMIT_LIMIT h) ++
  (if v (EMT.AEL2_LEN_LEN h) ≠ 0 then zero (EMT.AEL2_LIMIT_LIMIT h) else []) ++
  zero (EMT.ANG_LIM_LIM h) ++
  ((List.range 63).flatMap fun i =>
    if v (EMT.ECURVE_DRIVE h (i + 1)) < v (EMT.ECURVE_DRIVE h i) then [(CFG_RANGE, (EMT.ECURVE_DRIVE h (i + 1)).word)] else [])

end Sys2Proof.Machine
end

