-- ==== Sys2Proof/Machine/Return.lean ====
section
/-! DEFINITION. Return inputs and time measurement (R86 to R107): pulses from comparator excursions, their placement in stop windows, the edge buffer, and edge times. Times inside a window are counted in fine codes, 128 to a coarse bin. -/

namespace Sys2Proof.Machine

/-- Fine codes in one column measurement window. -/
def winCodes : Nat := 2048000

/-- Lane input samples of a tick and of a window. -/
abbrev tickSmp : Nat := 512000
abbrev winSmp : Nat := 64000

/-! ## Forming pulses (R90) -/

/-- Excursions joined across falls shorter than 1.5 ns, which is 245.76 codes (R90 step 1). -/
def joinShort : List (Nat × Nat) → List (Nat × Nat)
  | [] => []
  | a :: t =>
    match joinShort t with
    | [] => [a]
    | b :: r => if b.1 < a.2 + 246 then (a.1, b.2) :: r else a :: b :: r

/-- Excursions as resolved: joined, then those shorter than 0.8 ns, which is 131.072 codes, left out (R90). -/
def resolved (l : List (Nat × Nat)) : List (Nat × Nat) := (joinShort l).filter fun a => a.1 + 132 ≤ a.2

/-- A pulse: its TE interval, the LE excursions in it, whether it has a TE rise word, whether the stage saturated, and
whether its recovery is the long one (R90, R93, R94). -/
structure Pulse where
  up  : Nat
  dn  : Nat
  les : List (Nat × Nat)
  hasUp : Bool
  sat : Bool
  long : Bool
  deriving DecidableEq, Repr

/-- The pulses of an excursion: TE intervals that hold an LE rise (R90). Clipping of 1 ns, 163.84 codes, saturates; a
saturated pulse wider than 20 ns, 3,276.8 codes, or with an overload trip recovers long (R93, R94). -/
def pulsesOf (x : Excursion) : List Pulse :=
  (resolved x.te).filterMap fun (a, b) =>
    let les := (resolved x.le).filter fun l => a ≤ l.1 && l.1 < b
    if les = [] then none else
    some { up := a, dn := b, les := les, hasUp := true
           sat := x.clip.any fun c => decide (164 ≤ min c.2 b - max c.1 a)
           long := x.trip || decide (a + 3276 < b) }

/-! ## Regions of a window (R98, R99) -/

/-- The stop windows of a row group: start and end in coarse bins from W, held inside the window (R98). -/
def stopWindows (offs : List Nat) (geo : Nat → Nat × Nat) : List (Nat × Nat) :=
  offs.zipIdx.map fun (o, k) => (min 16000 (o + (geo k).1), min 16000 (o + (geo k).1 + (geo k).2))

/-- The near-blanking intervals of row group `l` (R99). -/
def nearBlanks (offs : List Nat) (geo : Nat → Nat × Nat) (l : Nat) : List (Nat × Nat) :=
  offs.zipIdx.map fun (o, k) => (min 16000 (o + 512 * l / 10), min 16000 (o + (geo k).1))

/-- The listening regions of one row group in one window. -/
structure Regions where
  wins  : List (Nat × Nat)
  nb    : List (Nat × Nat)
  cut   : Nat
  deriving DecidableEq, Repr

/-- Whether a list of bin intervals holds a bin. -/
def inAny (l : List (Nat × Nat)) (c : Nat) : Bool := l.any fun a => decide (a.1 ≤ c) && decide (c < a.2)

/-- Whether a bin is left out at the end of the window: by the settings switch, or by a step of the next tick start
(R91, R375). -/
def Regions.isCut (r : Regions) (c : Nat) : Bool := decide (r.cut ≤ c)

/-- The stop region (R99). -/
def Regions.stop (r : Regions) (c : Nat) : Bool := inAny r.wins c && !inAny r.nb c && !r.isCut c

/-- The near-blanking intervals (R99). -/
def Regions.near (r : Regions) (c : Nat) : Bool := inAny r.nb c && !r.isCut c

/-- The counting interval (R99). -/
def Regions.counting (r : Regions) (c : Nat) : Bool :=
  decide (c < 16000) && !inAny r.wins c && !inAny r.nb c && !r.isCut c

/-- The bins at which a region may begin or end. -/
def Regions.bounds (r : Regions) : List Nat :=
  (r.wins.flatMap fun a => [a.1, a.2]) ++ (r.nb.flatMap fun a => [a.1, a.2]) ++ [0, min r.cut 16000, 16000]

/-- The bin at which the stop region that holds bin `c` closes. -/
def Regions.closes (r : Regions) (c : Nat) : Nat :=
  (r.bounds.filter fun b => decide (c < b) && !r.stop b).foldl min 16000

/-- The length of the counting interval in coarse bins (R102 OUT_LEN). -/
def Regions.outLen (r : Regions) : Nat :=
  let bs := (r.bounds.filter (· ≤ 16000)).mergeSort (· ≤ ·)
  ((bs.zip (bs.drop 1)).map fun (a, b) => if r.counting a then b - a else 0).sum

/-- The regions of a head's row in a window. -/
def State.regions (s : State) (w : Win) (row : Nat) : Regions :=
  let l := row / 4
  let offs := w.offs.getD (List.replicate 8 0)
  let geo (k : Nat) := s.stopWin w.head w.mtick k l
  { wins := stopWindows offs geo, nb := nearBlanks offs geo l, cut := w.cut }

/-! ## Placing pulses (R99 to R101) -/

/-- What the placing of an excursion adds to a measurement: pulses kept with the codes at which they enter the buffer,
LE rises in the counting interval, time in near blanking, edges lost. -/
structure Placed where
  pulses : List (List Edge × Nat) := []
  out  : Nat := 0
  tot  : Nat := 0
  lost : Nat := 0
  deriving DecidableEq, Repr

/-- Edge flags common to a pulse's edges. -/
structure EdgeFlags where
  relief : Bool
  sat    : Bool
  recov  : Bool
  nbr    : Bool
  deriving DecidableEq, Repr

/-- An edge at a fine code. -/
def mkEdge (f : EdgeFlags) (kind code : Nat) : Edge :=
  { coarse := code / 128, fine := code % 128, kind := kind, relief := f.relief, sat := f.sat, recov := f.recov, nbr := f.nbr }

/-- An edge written at a closing bin (R101). -/
def mkTrunc (f : EdgeFlags) (kind bin : Nat) : Edge :=
  { coarse := bin, fine := 0, kind := kind, relief := f.relief, sat := f.sat, recov := f.recov, nbr := f.nbr, trunc := true }

/-- One pulse placed by its first LE rise, cut where its stop region closes; `n` bounds the cuts (R99, R101). Time in near blanking
is rounded down to 1/4 bin per pulse, and the rest of a cut pulse keeps SAT, RECOV and NBR of its excursion (DESIGN CHOICE, log
entry 154). -/
def placePulse : Nat → Regions → EdgeFlags → Pulse → Placed → Placed
  | 0, _, _, _, acc => acc
  | n + 1, r, f, p, acc =>
    match p.les with
    | [] => acc
    | (t, _) :: _ =>
      let c := t / 128
      if winCodes ≤ t then acc
      else if r.stop c then
        let close := r.closes c * 128
        let mine := p.les.filter fun l => l.1 < close
        let rest := p.les.filter fun l => close ≤ l.1
        let kept := mine.take 4
        let up := if p.hasUp then [mkEdge f 2 p.up] else []
        let pairs := kept.flatMap fun l =>
          [mkEdge f 0 l.1, if l.2 ≤ close then mkEdge f 1 l.2 else mkTrunc f 1 (close / 128)]
        let dn := if p.dn ≤ close then mkEdge f 3 p.dn else mkTrunc f 3 (close / 128)
        let acc := { acc with
          pulses := acc.pulses ++ [(up ++ pairs ++ [dn], min p.dn close)]
          lost := acc.lost + 2 * (mine.length - kept.length) }
        if close < p.dn then placePulse n r f { p with up := close, les := rest, hasUp := false } acc else acc
      else if r.near c then { acc with tot := acc.tot + (min p.dn winCodes - p.up) / 32 }
      else if r.counting c then { acc with out := acc.out + (p.les.filter fun l => decide (l.1 < winCodes) && !r.isCut (l.1 / 128)).length }
      else acc

/-! ## The edge buffer (R100) -/

/-- The buffer of a channel drained up to a time: one word per 2,560 codes. -/
def fifoDrain (fill next t : Nat) : Nat × Nat :=
  if fill = 0 ∨ t < next then (fill, next)
  else
    let n := min fill ((t - next) / 2560 + 1)
    (fill - n, next + 2560 * n)

/-- Pulses offered to a channel's buffer in order: each enters whole or is lost whole. Answers the buffer, the pulses
kept, the edges lost and the highest fill. Times are codes since the tick generator started (R100). The first word of an empty
buffer leaves 20 bins after it entered (DESIGN CHOICE, log entry 155). -/
def fifoOffer : List (List Edge × Nat) → Nat → (Nat × Nat) → List (List Edge) → Nat → Nat →
    (Nat × Nat) × List (List Edge) × Nat × Nat
  | [], _, b, kept, lost, top => (b, kept, lost, top)
  | (es, t) :: rest, w0, b, kept, lost, top =>
    let (fill, next) := fifoDrain b.1 b.2 (w0 + t)
    if 32 < fill + es.length then fifoOffer rest w0 (fill, next) kept (lost + es.length) top
    else
      let next := if fill = 0 then w0 + t + 2560 else next
      fifoOffer rest w0 (fill + es.length, next) (kept ++ [es]) lost (max top (fill + es.length))

/-- Whether one row is a neighbour of another for crosstalk: adjacent, or of the same reference group (R93). -/
def neighbours (r q : Nat) : Bool := r != q && (r == q + 1 || q == r + 1 || r / 16 == q / 16)

/-- RECOV and NBR of a pulse that rises at a time (R94): 25 or 60 ns after a saturated pulse of its own channel, 40 or
80 ns after one of a neighbour; 4,096 codes are 25 ns. -/
def State.recovery (s : State) (h row t : Nat) : Bool × Bool :=
  (s.satHist.any fun (hh, r, d, long) => hh == h && r == row && decide (d ≤ t) &&
      decide ((t - d) * 10 ≤ if long then 98304 else 40960),
   s.satHist.any fun (hh, r, d, long) => hh == h && neighbours row r && decide (d ≤ t) &&
      decide ((t - d) * 10 ≤ if long then 131072 else 65536))

/-- What the calibration manager holds of a head. -/
def State.calOf (s : State) (h : Head) : CalHead := s.cal.heads[h]

/-- What the calibration manager holds of a head, put. -/
def State.putCal (s : State) (h : Head) (c : CalHead) : State := { s with cal.heads := s.cal.heads.set h c }

/-- The interpolators of a group in the order of its turns: its rows, then its relief interpolator (R103). -/
def groupTurns (g : Nat) : List Nat := (List.range 16).map (16 * g + ·) ++ [128 + g]

/-- The interpolator of a group whose turn is in progress or next. -/
def CalHead.turn (c : CalHead) (g : Nat) : Option Nat := (groupTurns g).find? fun n => hasBit c.left n

/-- Whether the relief interpolator converts a row's edges: its own is in its calibration turn, which a head that is not fed whole
by the hits takes row by row (R103, R106). -/
def State.relieved (s : State) (h : Head) (row : Nat) : Bool :=
  !(s.calOf h).fed && (s.calOf h).turn (row / 16) == some row

/-- The window in progress of a head, where there is one. -/
def State.winAt (s : State) (h window : Nat) : Option Win :=
  s.wins.find? fun w => w.head == h && w.window == window && w.mtick == s.now

/-- A window put back in its place. -/
def State.putWin (s : State) (w : Win) : State :=
  { s with wins := s.wins.map fun x => if x.head = w.head ∧ x.window = w.window ∧ x.mtick = w.mtick then w else x }

/-- A row of a window changed. -/
def Win.upd (w : Win) (row : Nat) (f : MeasRow → MeasRow) : Win :=
  if h : row < 128 then { w with rows := w.rows.set row (f w.rows[row]) } else w

/-- A row of a window. -/
def Win.row (w : Win) (row : Nat) : MeasRow := if h : row < 128 then w.rows[row] else {}

/-- A saturated pulse counted, and kept for the recovery marks of later pulses (R93, R94). -/
def State.noteSat (s : State) (h : Head) (row t w0 : Nat) (long : Bool) : State :=
  let old := s.satHist.filter fun (_, _, d, _) => decide (w0 ≤ d + 20000)
  let s := { s with satHist := old ++ [(h.val, row, t, long)] }
  let s := (s.satInc (RFE.SAT_CNT_COUNT h.val)).wr (RFE.RFE_STAT_LAST_SAT_ROW h.val) row
  (s.wr (RFE.RFE_STAT_SAT_NEW h.val) 1).irq (.rfe h) 0

/-- A channel's edge buffer: words and the time of the next drain. -/
def State.fifoOf (s : State) (key : Nat) : Nat × Nat :=
  match s.fifo.find? (fun e => e.1 == key) with
  | some e => e.2
  | none => (0, 0)

/-- A channel's edge buffer put; empty buffers are not listed. -/
def State.putFifo (s : State) (key : Nat) (b : Nat × Nat) : State :=
  let rest := s.fifo.filter fun e => e.1 != key
  { s with fifo := if b.1 = 0 then rest else rest ++ [(key, b)] }

/-- What is left of an excursion after the end of its window, as if the comparators had just risen there (R101). -/
def restOf (x : Excursion) : Excursion :=
  let cut (l : List (Nat × Nat)) : List (Nat × Nat) := l.filterMap fun a =>
    if a.2 ≤ winCodes then none else some (a.1 - winCodes, a.2 - winCodes)
  { te := cut x.te, le := cut x.le, clip := cut x.clip, trip := x.trip }

/-- The pulses of an excursion in a window, the one that was open at its start with the saturation that it brought along (R94,
R101). -/
def pulsesIn (x : Excursion) (was : Bool × Bool) : List Pulse :=
  (pulsesOf x).map fun p => if p.up = 0 then { p with sat := p.sat || was.1, long := p.long || was.2 } else p

/-- Whether the pulse that is open at the end of the window has saturated, and whether it recovers long (R94, R101). -/
def openAtEnd (ps : List Pulse) : Bool × Bool :=
  match ps.find? fun p => decide (p.up < winCodes) && decide (winCodes < p.dn) with
  | some p => (p.sat, p.sat && p.long)
  | none => (false, false)

/-- PULSE, SATURATION, EDGE_LOST and PULSE_TRUNCATE: a comparator excursion of a channel in the window in progress
becomes edge words, counts or time in near blanking (R90 to R102). A channel disabled in CH_EN, a window that is not
measured or a dead crystal yields nothing (R92, R113). `was` tells of a saturated pulse that comes from the window before: it is
counted there. -/
def pulse (h : Head) (row : Fin 128) (window : Fin 8) (x : Excursion) (was : Bool × Bool) (s : State) : State :=
  match s.winAt h.val window.val with
  | none => s
  | some w =>
    if !hasBit w.chEn row.val || s.on TIM.XTAL_STAT_FAIL then s else
    let w0 := (s.now * 8 + window.val) * winCodes
    let ps := pulsesIn x was
    let reg := s.regions w row.val
    let s := State.each (ps.filter fun p => p.sat && !(reg.isCut (p.up / 128)) && decide (p.up < winCodes) && !(p.up == 0 && was.1)) (fun p s => s.noteSat h row.val (w0 + p.dn) w0 p.long) s
    let placed := ps.foldl (fun acc p =>
      let rc := s.recovery h.val row.val (w0 + p.up)
      placePulse 32 reg { relief := s.relieved h row.val, sat := p.sat, recov := rc.1, nbr := rc.2 } p acc) {}
    let key := h.val * 128 + row.val
    let b := s.fifoOf key
    let (b, kept, lost, top) := fifoOffer placed.pulses w0 b [] placed.lost 0
    let s := s.putFifo key b
    let s := s.putWin (w.upd row.val fun m => { m with
      pulses := m.pulses ++ kept
      lost := min 15 (m.lost + lost)
      outCnt := min 65535 (m.outCnt + placed.out)
      winTot := min 4095 (m.winTot + placed.tot) })
    let s := if s.rd (TDC.EDGE_STAT_MAX_FILL h.val) < top then s.wr (TDC.EDGE_STAT_MAX_FILL h.val) top else s
    if lost = 0 then s else (s.satAdd (TDC.LOST_COUNT h.val) lost).irq (.tdc h) 0

/-! ## Fine time (R97, R105, R107) -/

/-- The nominal fine-time table (R97). -/
def ftNominal (i : Nat) : Nat := 64 * i + 32

/-- The fine-time table of interpolator `n` of a head, none where it is nominal (R107). -/
def Tabs.ftTable (t : Tabs) (h n : Nat) : List Nat := Sparse.get t.ft (h * 136 + n) []

/-- The time of a fine code under an interpolator's table. -/
def Tabs.time (t : Tabs) (h n code : Nat) : Nat :=
  match t.ftTable h n with
  | [] => ftNominal code
  | l => l.getD code 0

/-- The relief offset of a row, in 1/64 LSB (R97). -/
def Tabs.reliefOfs (t : Tabs) (h row : Nat) : Int := Sparse.get t.relief (h * 128 + row) 0

/-- The time of an edge after W in 1/64 LSB (R97). -/
def Tabs.edgeTime (t : Tabs) (h row : Nat) (e : Edge) : Int :=
  if e.relief then (e.coarse * 8192 + t.time h (128 + row / 16) e.fine : Nat) - t.reliefOfs h row
  else (e.coarse * 8192 + t.time h row e.fine : Nat)

/-- The tables under which the measurements of tick `m` are worked: those in force in that tick (R149). -/
def State.tabsFor (s : State) (m : Nat) : Tabs := if m < s.tabsAt then s.tabsOld else s.tabs

/-- The tables about to change at the boundary in progress: the present ones are kept for the measurements made
before it. -/
def State.saveTabs (s : State) : State :=
  if s.tabsAt = s.now then s else { s with tabsOld := s.tabs, tabsAt := s.now }

/-- An edge word (R96). -/
def Edge.word (e : Edge) : Nat :=
  e.coarse + e.fine * 2 ^ 14 + e.kind * 2 ^ 21 + b2n e.relief * 2 ^ 23 + b2n e.sat * 2 ^ 24 +
  b2n e.recov * 2 ^ 25 + b2n e.nbr * 2 ^ 26 + b2n e.trunc * 2 ^ 27

/-- A read of TBL_DATA: the fine-time table or the relief offset that TBL_ADDR points to; an interpolator above 135
returns 0 (R117, R119). -/
def tdcPort (h : Nat) (s : State) : Nat :=
  let n := s.rd (TDC.TBL_ADDR_INTP h)
  let i := s.rd (TDC.TBL_ADDR_BIN h)
  if 135 < n then 0 else if s.on (TDC.TBL_ADDR_SEL h) then unsgn 16 (s.tabs.reliefOfs h i) else s.tabs.time h n i

/-- Whether the end of the coat in progress brings a committed change, a reset or a calibration result to an RFE page, in the last
tick of the coat (R91, R262, R273). -/
def State.rfeSwitches (s : State) (h : Head) : Bool :=
  s.step128 == 127 && ((s.commits.any fun c => c.page == .rfe h && c.due == .tick (s.now + 1)) ||
    (s.resets.any fun r => r.page == .rfe h && r.due == .tick (s.now + 1)) ||
    (s.calOf h).take.any fun x => match x with | .trim _ _ _ _ _ => true | _ => false)

/-- A capture spoilt from an input sample of its window on (R211, R213). -/
def Capt.cut (c : Capt) (n : Nat) : Capt := { c with spoil := some (min n (c.spoil.getD n)) }

/-- RFE_SETTINGS_SWITCH: in the last window of a coat whose end changes an RFE page, the settings switch at bin 15,984: the last 16
bins of the window are left out, and its lane samples are invalid from there on (R91, R211). -/
def rfeSettingsSwitch (h : Head) (s : State) : State :=
  if !s.rfeSwitches h then s else
  { s with wins := s.wins.map fun w =>
      if w.head = h.val ∧ w.window = 7 ∧ w.mtick = s.now then
        { w with cut := min w.cut 15984, rows := w.rows.map fun m => { m with capts := m.capts.map fun c => c.cut 63936 } }
      else w }

/-- RFE_SETTINGS_SWITCH (R91). -/
def execRfeSettingsSwitch (h : Head) (s : State) : Host.Outcome State Fault Refusal := live s (rfeSettingsSwitch h s)

/-- The broken rules of a commit of `RFE[h]` (R89, R119). -/
def rfeCheck (h : Head) (s : State) : List (Nat × Nat) :=
  let h := h.val
  (List.range 8).flatMap fun g =>
    let le := s.rdSh (RFE.LE_TE_LE_TH h g)
    let te := s.rdSh (RFE.LE_TE_TE_TH h g)
    let w := (RFE.LE_TE_LE_TH h g).word
    (if le = 0 ∨ te = 0 then [(CFG_ZERO, w)] else []) ++ (if le < te then [(CFG_RANGE, w)] else []) ++
    (if s.rdSh (RFE.GAIN_G h g) = 3 then [(CFG_RANGE, (RFE.GAIN_G h g).word)] else [])

end Sys2Proof.Machine
end

