-- ==== Sys2Proof/Machine/Filter.lean ====
section
/-! DEFINITION. The filter chain of the waveform lanes (R192 to R212): clamped codes, slice correction, FIR filter, and resampler. Input samples are counted from the start W of the window, 4 to a coarse bin. -/

namespace Sys2Proof.Machine

/-- The full scale of a gain setting in pA (R88). -/
def gainScale (g : Nat) : Nat := if g = 0 then 400000000 else if g = 1 then 100000000 else 25000000

/-- The stage output at an input sample, referred to input current in pA; zero current where nothing is listed (R193). -/
def Capt.current (c : Capt) (n : Int) : Int :=
  match c.input.find? (fun x => (x.n : Int) == n) with
  | some x => x.i
  | none => 0

/-- Whether an input sample lies beyond the converter's range: below −FS/7 or above FS × 895/896 (R193). -/
def Capt.beyond (c : Capt) (n : Int) : Bool :=
  decide (7 * c.current n < -(c.fs : Int)) || decide (895 * (c.fs : Int) < 896 * c.current n)

/-- The code of an input sample, 128 + round(896 × i / FS), clamped (R193; halves away from zero, log entry 158). -/
def Capt.code (c : Capt) (n : Int) : Int := clampI 0 1023 (128 + divNearI (896 * c.current n) c.fs)

/-- OVR of an input sample: it, or one of the 8 before it, lies beyond the range (R193). -/
def Capt.over (c : Capt) (n : Int) : Bool := (List.range 9).any fun i => c.beyond (n - i)

/-- A slice factor of an input sample: 0 offset, 1 gain, 2 skew (R195). -/
def Capt.fac (c : Capt) (n : Int) (item : Nat) : Int := c.facs.getD (3 * (n % 8).toNat + item) 0

/-- x′ of R194's correction, offset and gain only, in units of 1/2^15 of 1/16 code. -/
def Capt.xGain (c : Capt) (n : Int) : Int := c.fac n 1 * (16 * c.code n - c.fac n 0)

/-- The scaled input a of a sample: the corrected sample in 1/16 code, shifted right (R208; log entry 23). -/
def Capt.scaled (c : Capt) (n : Int) : Int :=
  (15625 * c.xGain n - 2 * c.fac n 2 * (c.xGain (n + 1) - c.xGain (n - 1))) / (512000000 * (2 ^ c.inSh : Nat))

/-- A FIR coefficient of the capture's bank (R209). -/
def Capt.coef (c : Capt) (k : Nat) : Int := if c.bank < 3 then Config.presetCoef c.bank k else c.coefs.getD k 0

/-- A sum shifted right with half an LSB added, and saturated to `w` bits; the flag tells whether it saturated
(R208). -/
def shiftSat (w sh : Nat) (x : Int) : Int × Bool :=
  let y := (x + (if sh = 0 then 0 else (2 ^ (sh - 1) : Nat))) / (2 ^ sh : Nat)
  let z := clampI (-(2 ^ (w - 1) : Nat)) ((2 ^ (w - 1) : Nat) - 1) y
  (z, z != y)

/-- The FIR output at an input position (R208). -/
def Capt.fir (c : Capt) (p : Int) : Int × Bool :=
  shiftSat 20 c.firSh ((List.range c.taps).map fun k => c.coef k * c.scaled (p - k)).sum

/-- The offset of the capture's instants from the input grid in 1/64 input sample: line offset, group delay and skew
(R210; log entry 24). -/
def Capt.offset64 (c : Capt) : Int := divNear (131072 * c.line) 10 + c.gd + c.skew

/-- The newest input sample of output `s` (R210). -/
def Capt.newest (c : Capt) (s : Int) : Int := c.offset64 / 64 + s * c.d + (if c.rsEn then 2 else 0)

/-- The resampled output of R208 at output `s`, with whether a stage saturated. -/
def Capt.value (c : Capt) (s : Int) : Int × Bool :=
  let p := c.newest s
  if c.rsEn then
    let fs := (List.range 4).map fun (m : Nat) => c.fir (p - 3 + (m : Int))
    let ph := (c.offset64 % 64).toNat
    let v := shiftSat 16 c.rsSh (fs.zipIdx.map fun (f, m) => Config.kernel ph m * f.1).sum
    (v.1, v.2 || fs.any Prod.snd)
  else
    let f := c.fir p
    let v := shiftSat 16 c.rsSh (32768 * f.1)
    (v.1, v.2 || f.2)

/-- The first output of a capture: −16q (R199). -/
def Capt.first (c : Capt) : Int := -(64 / (c.d : Int))

/-- Whether output `s` exists: inside the span, and its instant before the end of the window (R199). -/
def Capt.has (c : Capt) (s : Int) : Bool :=
  decide (c.first ≤ s) && decide (s ≤ c.last) && decide (2048 * (c.line : Int) + 10 * s * c.d < 640000)

/-- VALID of output `s` (R211). -/
def Capt.valid (c : Capt) (s : Int) : Bool :=
  decide ((c.sw : Int) + c.taps + 12 ≤ c.newest s) &&
  match c.spoil with
  | some n => decide (c.newest s < n)
  | none => true

/-- OVR of output `s` (R212). -/
def Capt.ovr (c : Capt) (s : Int) : Bool :=
  let p := c.newest s
  (List.range (c.taps + (if c.rsEn then 3 else 0))).any (fun k => c.over (p - k)) || (c.value s).2

/-- Whether Float may use output `s` (R152). -/
def Capt.good (c : Capt) (s : Int) : Bool := c.has s && c.valid s && !c.ovr s

/-- Output `s` as a 32-bit word (R212). -/
def Capt.word (c : Capt) (s : Int) : Nat :=
  unsgn 16 (c.value s).1 + b2n (c.valid s) * 2 ^ 16 + b2n (c.ovr s) * 2 ^ 17 + b2n c.inj * 2 ^ 18

/-- Samples per coarse bin where Float can use the capture: 4, 2 or 1, else 0 (R152). -/
def Capt.q (c : Capt) : Nat := if c.d = 1 then 4 else if c.d = 2 then 2 else if c.d = 4 then 1 else 0

/-- The switch instant in input samples after W (R200). -/
def switchAt (line taps : Nat) : Nat := (2048 * line - 10 * (taps + 76)) / 10

end Sys2Proof.Machine
end

