-- ==== Sys2Proof/Machine/Stipple.lean ====
section
/-! DEFINITION. Stipple (R120 to R127, R140, R143): the code of a window, the keyed draw, the code key, and the code book. -/

namespace Sys2Proof.Machine

/-- The pulse offsets of a code: o_0 = 0, each next one 1,280 plus its gap later (R120). -/
def codeOffsets (gaps : List Nat) : List Nat :=
  gaps.foldl (fun l g => l ++ [l.getLastD 0 + 1280 + g]) [0]

/-- How AT_FRAME stands to the frame that begins: 0 on time, 1 later, 2 passed (R126). -/
def atFrameJudged (at_ frame : Nat) : Nat :=
  let d := (at_ + 32768 - frame) % 32768
  if d = 0 then 0 else if 32768 - 16383 ≤ d then 2 else 1

/-- Whether a field is a word of the code key. -/
def isKeyWord (k : Nat) : Bool := (List.range 4).any fun n => (STP.CODE_KEY_KEY n).key == k

/-- Whether the key of a commit of STP waits for a frame after the commit's boundary at tick `n` (R126). -/
def State.keyLater (s : State) (c : PendCommit) (n : Nat) : Bool :=
  let v (f : Fld) : Nat := Sparse.get c.vals f.key (s.rd f)
  v STP.KEY_CTRL_USE_AT == 1 && atFrameJudged (v STP.KEY_CTRL_AT_FRAME) (s.frameOf n) == 1

/-- What a commit of STP puts in force at its boundary at tick `n`: a key that waits stays behind (R126). -/
def State.stpVals (s : State) (c : PendCommit) (n : Nat) : List (Nat × Nat) :=
  if !c.wait && s.keyLater c n then c.vals.filter fun v => !isKeyWord v.1 else c.vals

/-- A field of STP as the tick with number `n` finds it: a commit due by then has taken hold (R23, R126). -/
def State.stpVal (s : State) (n : Nat) (f : Fld) : Nat :=
  match s.commits.find? fun c => c.page == .stp with
  | none => s.rd f
  | some c =>
    match c.due with
    | .tick m => if m ≤ n then Sparse.get (s.stpVals c m) f.key (s.rd f) else s.rd f
    | _ => s.rd f

/-- The key in force in the tick with number `n` as 16 bytes: byte i is K[8i+7:8i] (R126). -/
def State.keyAt (s : State) (n : Nat) : List Nat :=
  (List.range 16).map fun i => s.stpVal n (STP.CODE_KEY_KEY (i / 4)) / 2 ^ (8 * (i % 4)) % 256

/-- The key in force now. -/
def State.keyBytes (s : State) : List Nat :=
  (List.range 16).map fun i => s.rd (STP.CODE_KEY_KEY (i / 4)) / 2 ^ (8 * (i % 4)) % 256

/-- The round function f(r, v) of the draw (R125). -/
def drawRound (key : List Nat) (r frame coat slot v : Nat) : Nat :=
  let o := aes128 key [r, frame % 256, frame / 256, coat, slot % 256, slot / 256, v % 256, v / 256, 0, 0, 0, 0, 0, 0, 0, 0]
  o.getD 0 0 + 256 * o.getD 1 0

/-- The permutation of the 131,072 indices (R125). -/
def drawEntry (key : List Nat) (frame coat slot x : Nat) : Nat :=
  let ab := (List.range 8).foldl (fun (ab : Nat × Nat) r =>
    if r % 2 = 0 then (Nat.xor ab.1 (drawRound key r frame coat slot ab.2 % 512), ab.2)
    else (ab.1, Nat.xor ab.2 (drawRound key r frame coat slot ab.1 % 256))) (x / 256 % 512, x % 256)
  ab.1 * 256 + ab.2

/-- The domain ID as the tick with number `n` finds it: a commit of the fabric's page due by then has taken hold (R23, R125). -/
def State.domainAt (s : State) (n : Nat) : Nat :=
  match s.commits.find? fun c => c.page == .gsl with
  | some c => match c.due with
    | .tick m => if m ≤ n then Sparse.get c.vals GSL.IDENT_DOMAIN_ID.key (s.rd STP.DOMAIN_ID) else s.rd STP.DOMAIN_ID
    | _ => s.rd STP.DOMAIN_ID
  | none => s.rd STP.DOMAIN_ID

/-- The entry drawn for window `j` of the tick with number `n` on head `h` (R125, R127). -/
def State.entryFor (s : State) (h n j : Nat) : Nat :=
  if s.stpVal n STP.MODE_FIXED == 1 then (s.stpVal n STP.FIX_IDX_IDX + h) % 131072
  else
    let t := s.tickOf n
    drawEntry (s.keyAt n) (s.frameOf n) (t / 128) (8 * (t % 128) + j) (8 * s.domainAt n + h)

/-- The differences o_j − o_i of a code, i below j (R123). -/
def codeDiffs (offs : List Nat) : List Nat :=
  (List.range 8).flatMap fun j => (List.range j).map fun i => offs.getD j 0 - offs.getD i 0

/-- Whether an entry has properties 1 and 2 of R123: its gaps add up to at most 1,354, and its 28 differences are all different
(R121). -/
def codeGood (gaps : List Nat) : Bool := decide (gaps.sum ≤ 1354) && decide (codeDiffs (codeOffsets gaps)).Nodup

/-- The gaps of a code-book entry. An entry of the constant that had not properties 1 and 2 of R123 stands for one that has, so that
every code drawn satisfies R121 (log entry 9). -/
def bookGaps (entry : Nat) : List Nat :=
  let gaps := ((Config.codeBook entry).toList).map BitVec.toNat
  if codeGood gaps then gaps else [1, 2, 3, 4, 5, 6, 7]

/-- How many of the 64 pairs of pulses of two codes coincide when the second is placed at lag `d` (R123). -/
def coincidences (a b : List Nat) (d : Int) : Nat :=
  ((List.range 8).map fun j => ((List.range 8).filter fun i => (b.getD j 0 : Int) - a.getD i 0 == d).length).sum

/-- Property 3 of CB-1: two different entries coincide in at most 2 pulses at any lag. The book is not in the spec, so it is a premise
of whatever rests on it (R123, R127; log entry 9). -/
def codeBookApart : Prop :=
  ∀ a b : Nat, a < 131072 → b < 131072 → a ≠ b → ∀ d : Int, coincidences (codeOffsets (bookGaps a)) (codeOffsets (bookGaps b)) d ≤ 2

/-- CODE_DRAW: the STP slot of the preceding window draws the code of the window named; a second failing read leaves the
head unlit for it (R122, R124). -/
def State.codeDraw (s : State) (h : Head) (n j : Nat) (bookFails : Bool) : State :=
  let rest := s.codes.filter fun (hh, m, w, _) => !(hh == h.val && m == n && w == j) && decide (s.now ≤ m + 4)
  if !s.on STP.BOOK_STAT_OK then { s with codes := rest ++ [(h.val, n, j, none)] } else
  let e := s.entryFor h.val n j
  if bookFails then
    let s := { s with codes := rest ++ [(h.val, n, j, none)] }
    ((s.satInc STP.BOOK_STAT_PAR_CNT).irq .stp 0).eventFull .stp 0 h.val [] [e] false
  else { s with codes := rest ++ [(h.val, n, j, some (e, codeOffsets (bookGaps e)))] }

/-- The code drawn for a head and window of the tick in progress. -/
def State.codeFor (s : State) (h j : Nat) : Option (Nat × List Nat) :=
  match s.codes.find? (fun (hh, m, w, _) => hh == h && m == s.now && w == j) with
  | some (_, _, _, c) => c
  | none => none

/-- The key check of a key (R126). -/
def keyCheck (key : List Nat) : Nat :=
  let o := aes128 key (List.replicate 16 0)
  o.getD 0 0 * 256 + o.getD 1 0

/-- KEY_TAKE_HOLD: the staged key takes hold at a frame boundary, on time or late (R126). -/
def State.keyTakeHold (s : State) (late : Bool) : State :=
  let s := ((s.wr STP.KEY_STAT_CHECK (keyCheck s.keyBytes)).wrB STP.KEY_STAT_LATE late).wr STP.KEY_STAT_PENDING 0
  let s := s.irq .stp 1
  if late then s.event .stp 1 [s.word .stp 0xC005C] else s

/-- The broken rules of a commit of STP (R143): every staged value is a value. -/
def stpCheck (_ : State) : List (Nat × Nat) := []

/-- BOOK_CHECK: the boot ROM checks the code book against its digest (R124). -/
def State.bookCheck (s : State) (ok : Bool) : State := s.wrB STP.BOOK_STAT_OK ok

end Sys2Proof.Machine
end

