-- ==== Sys2Proof/Machine/Scrim.lean ====
section
/-! DEFINITION. Scrim and Skim (R128 to R139, R141 to R143): votes, candidates, and the ambient floor of a cell. -/

namespace Sys2Proof.Machine

/-! ## Votes (R128) -/

/-- The bins in which a stop at (coarse, fine) votes for a pulse slot at offset `o`, on line `l` (R128). -/
def votesOf (coarse fine o l : Nat) : List Nat :=
  let u : Int := 640 * ((coarse : Int) - o) + 5 * fine - 32768 * l + 320
  let b := u / 640
  let rho := u % 640
  ([b] ++ (if rho < 40 then [b - 1] else []) ++ (if 600 ≤ rho then [b + 1] else [])).filterMap fun x =>
    if 0 ≤ x ∧ x ≤ 4095 then some x.toNat else none

/-- A vote: bin, slot, and whether its stop carried SAT. -/
structure Vote where
  bin  : Nat
  slot : Nat
  sat  : Bool
  deriving DecidableEq, Repr

/-- Every vote of a measurement: each LE rise votes for each of the 8 slots (R128). -/
def allVotes (pulses : List (List Edge)) (offs : List Nat) (l : Nat) : List Vote :=
  (pulses.flatten.filter fun e => e.kind == 0).flatMap fun e =>
    offs.zipIdx.flatMap fun (o, k) => (votesOf e.coarse e.fine o l).map fun b => { bin := b, slot := k, sat := e.sat }

/-- The count of a bin (R129). -/
def binCount (vs : List Vote) (b : Nat) : Nat := (vs.filter fun v => v.bin == b).length

/-! ## The Skim floor (R136 to R138) -/

/-- The cell's new average A (R136). -/
def skimNew (aOld : Nat) (fresh : Bool) (outCnt outLen alpha sunRate : Nat) : Nat :=
  if outLen < 256 then if fresh then sunRate else aOld
  else
    let x := min 65535 (outCnt * 65536 / outLen)
    if fresh then x else ((aOld : Int) + ((x : Int) - aOld) / 2 ^ alpha).toNat

/-- The floor S of an average, under a window's settings (R137). -/
def Win.floorS (w : Win) (a : Nat) : Nat :=
  ((List.range 8).filter fun n => decide (w.rd (SKM.RL_RATE w.head n) ≤ a)).length

/-- The log-coded ambient: the bit length, at most 15 (R138). -/
def skimCode (a : Nat) : Nat := if a = 0 then 0 else min 15 (Nat.log2 a + 1)

/-! ## Candidates (R131 to R135) -/

/-- T_eff at floor S, under a window's settings (R131). -/
def Win.tEff (w : Win) (sf : Nat) : Nat :=
  min 8 (max (w.rd (SCM.CAND_THRESH w.head)) (sf + w.rd (SCM.CAND_MARGIN w.head)))

/-- How many bins from `b` on, in steps given by `next`, reach the threshold. -/
def runFrom (vs : List Vote) (t : Nat) (next : Nat → Nat) : Nat → Nat → Nat
  | 0, _ => 0
  | n + 1, b => if t ≤ binCount vs b then 1 + runFrom vs t next n (next b) else 0

/-- The run of a candidate: the unbroken bins about it that reach the threshold (R133). -/
def runOf (vs : List Vote) (t b : Nat) : Nat :=
  1 + runFrom vs t (· + 1) (min 4096 (vs.length + 1)) (b + 1) +
    (if b = 0 then 0 else runFrom vs t (· - 1) (min b (vs.length + 1)) (b - 1))

/-- The lowest bin that may hold a candidate (R132). -/
def bMin (start0 l : Nat) : Int := (start0 : Int) - (512 * l / 10 : Nat) - 1

/-- Whether a bin holds a candidate (R132). -/
def isCandidate (vs : List Vote) (t : Nat) (lo : Int) (b : Nat) : Bool :=
  let c := binCount vs b
  decide (t ≤ c) && decide ((if b = 0 then 0 else binCount vs (b - 1)) < c) && decide (binCount vs (b + 1) ≤ c) &&
  decide (lo ≤ b)

/-- The peak word of a candidate (R133, R135). -/
def peakOf (vs : List Vote) (t thresh : Nat) (lo : Int) (b : Nat) : Peak :=
  let mine := vs.filter fun v => v.bin == b
  let r := runOf vs t b
  { bin := b, count := mine.length, votes := (mine.map Vote.slot).eraseDups.foldl setBit 0
    run := min 7 r, ambig := decide (3 ≤ r), edge := decide ((b : Int) ≤ lo + 1), sat := mine.any Vote.sat
    floored := decide (thresh < t) }

/-- The candidates passed: at most 4, those of the highest counts, lower bins first among equals, in ascending bin order
(R134). -/
def bestFour (ps : List Peak) : List Peak :=
  if ps.length ≤ 4 then ps
  else ((ps.mergeSort fun a b => decide (b.count < a.count) || (a.count == b.count && decide (a.bin ≤ b.bin))).take 4).mergeSort
    fun a b => decide (a.bin ≤ b.bin)

/-- Every candidate of a measurement in ascending bin order. -/
def candidates (vs : List Vote) (t thresh : Nat) (lo : Int) : List Peak :=
  let bins := ((vs.map Vote.bin).eraseDups).mergeSort (· ≤ ·)
  (bins.filter fun b => isCandidate vs t lo b).map fun b => peakOf vs t thresh lo b

/-- The summary word of a measurement (R135). -/
def summaryWord (npeak tEff sf lost : Nat) (overflow blind sun : Bool) (skim : Nat) : Nat :=
  npeak + tEff * 8 + sf * 128 + lost * 2048 + b2n overflow * 2 ^ 15 + b2n blind * 2 ^ 16 + b2n sun * 2 ^ 17 + skim * 2 ^ 18

/-- A peak word (R135). -/
def Peak.word (p : Peak) : Nat :=
  p.bin + p.count * 2 ^ 12 + p.votes * 2 ^ 16 + p.run * 2 ^ 24 + b2n p.ambig * 2 ^ 27 + b2n p.edge * 2 ^ 28 +
  b2n p.sat * 2 ^ 29 + b2n p.floored * 2 ^ 30

/-- The broken rules of a commit of SCM (R143). -/
def scmCheck (s : State) : List (Nat × Nat) :=
  (List.range 8).flatMap fun h =>
    let t := s.rdSh (SCM.CAND_THRESH h)
    let m := s.rdSh (SCM.CAND_MARGIN h)
    let w := (SCM.CAND_THRESH h).word
    (if t = 0 ∨ m = 0 then [(CFG_ZERO, w)] else []) ++ (if t < 3 ∨ 8 < t ∨ 4 < m then [(CFG_RANGE, w)] else [])

/-- The broken rules of a commit of SKM (R137, R143). -/
def skmCheck (s : State) : List (Nat × Nat) :=
  (List.range 8).flatMap fun h =>
    let w := (SKM.SKCFG_ALPHA h).word
    (if s.rdSh (SKM.SKCFG_SUN_RATE h) = 0 then [(CFG_ZERO, w)] else []) ++
    (if 6 < s.rdSh (SKM.SKCFG_ALPHA h) then [(CFG_RANGE, w)] else []) ++
    (List.range 7).flatMap fun n =>
      if s.rdSh (SKM.RL_RATE h (n + 1)) < s.rdSh (SKM.RL_RATE h n) then [(CFG_RANGE, (SKM.RL_RATE h (n + 1)).word)] else []

end Sys2Proof.Machine
end

