-- ==== Sys2Proof/Machine/Lath.lean ====
section
/-! DEFINITION. Lath (R218 to R239): cell contexts, their prefetch, writeback and checks, and the memory regions. -/

namespace Sys2Proof.Machine

/-! ## Images (R218, R219, R222) -/

/-- A fresh image: VALID 0, REBUILD 2, everything else zero (R222). -/
def freshImage : List Byte := zeros 2 ++ [0x08] ++ zeros 125

/-- Whether an image's VALID bit is set (R219). -/
def imgValid (b : List Byte) : Bool := hasBit (u16 b 0) 15

/-- REBUILD of an image (R219). -/
def imgRebuild (b : List Byte) : Nat := slice (u32 b 0) 18 2

/-- The coat and frame of the tick with number `m`. -/
def State.coatOf (s : State) (m : Nat) : Nat := s.tickOf m / 128

/-- The place of the source image in a context: the stable image in coat 0, else the working image (R221). -/
def State.sourceAt (s : State) (m : Nat) : Nat :=
  let f := s.frameOf m
  128 * (if s.coatOf m = 0 then (f + 1) % 2 else f % 2)

/-- The source image that a measurement of tick `m` works from (R221, R222). -/
def State.sourceImage (s : State) (m : Nat) (c : CtxRow) : List Byte :=
  if c.srcFresh then freshImage else subBytes c.bytes (s.sourceAt m) 128

/-- The context of a unit's row in the cache. -/
def State.ctxOf (s : State) (u : WorkUnit) (i : Nat) : CtxRow :=
  match s.lth.cache.find? (fun x => x.wu == u) with
  | some x => x.rows.getD i {}
  | none => {}

/-- A row of a cached unit changed. -/
def State.putCtx (s : State) (u : WorkUnit) (i : Nat) (f : CtxRow → CtxRow) : State :=
  { s with lth.cache := s.lth.cache.map fun x => if x.wu = u then { x with rows := x.rows.modify i f } else x }

/-- The address of a cell's context (R218). -/
def State.ctxAddr (s : State) (cell : Nat) : Nat := s.rd LTH.LATH_BASE_ADDR * 2 ^ 28 + cell * 256

/-- The cell of row `i` of a unit, measured in its own tick. -/
def State.cellOf (s : State) (u : WorkUnit) (i : Nat) : Nat :=
  cellNo u.head (16 * u.group + i) (8 * (s.tickOf u.mtick % 128) + emitterColumn u.window)

/-! ## Write sequences (R232) -/

/-- The write sequence S of a measurement tick (R232). -/
def State.seqOf (s : State) (m : Nat) : Nat := (4 * s.frameOf m + s.coatOf m) % 16

/-- Whether the schedule in force measures a window of a head in the tick with number `m` (R12, R37, R481). -/
def State.schedules (s : State) (h m window : Nat) : Bool :=
  let prevFrame := decide (m + s.tick < s.now)
  let variant := if prevFrame then s.lth.variantPrev else s.scd.variant
  let part := (s.imgSlot h true).part
  let zc1 := hdrContract s.scd.runHdr == 1
  !(variant && zc1 && s.tickOf m / 128 == 3) &&
  (measuredWindows part (partTableOf part (variant && !zc1) (s.tickOf m))).contains window

/-- The tick of the cell's previous measurement under the schedule in force: 128 ticks back, or as many times as it
takes (R232). -/
def State.prevTick (s : State) (h m window : Nat) : Option Nat :=
  ((List.range 8).map fun k => m - 128 * (k + 1)).find? fun p => decide (128 ≤ m) && s.schedules h p window

/-- The write sequences that a cell's bursts hold and that a read for tick `m` expects (R232). A cell never written back holds none
(log entry 25), unless its context came from a checkpoint (R325). -/
def State.seqsAt (s : State) (h m window cell : Nat) : Option (Nat × Nat) :=
  match s.prevTick h m window, s.lth.tags.find? (fun e => e.1 == cell) with
  | some p, some (_, w) => some (s.seqOf w, s.seqOf p)
  | _, none => if s.lth.seeded then some (0, 0) else none
  | none, _ => none

/-! ## Fresh frames (R222) -/

/-- A pending commit of LTH that starts heads fresh at the tick with number `n`. -/
def State.freshCommit (s : State) (n : Nat) : Nat :=
  (s.commits.find? fun c => c.page == .lth && c.due == .tick n).elim 0 fun c =>
    (c.vals.find? fun v => v.1 == LTH.FRESH_HEADS.key).elim 0 Prod.snd

/-- The heads that a waiting swap adds at the tick with number `n`. -/
def State.joinsAt (s : State) (n : Nat) : Nat :=
  match s.pendingSwap with
  | some (mask, m) => if m = n then (List.range 8).foldl (fun k h =>
      if hasBit mask h && hasBit (hdrHeadMask (s.stagedHdr mask)) h && !s.present h then setBit k h else k) 0 else 0
  | none => 0

/-- Whether the contexts of a head start fresh in the frame of the next tick (R222). -/
def State.freshNext (s : State) (h : Nat) : Bool :=
  if s.tick = 511 then hasBit (s.joinsAt (s.now + 1)) h || !hasBit s.lth.used h || hasBit (s.freshCommit (s.now + 1)) h
  else hasBit s.lth.freshHeads h

/-! ## Errors (R226) -/

/-- A failed image counted, recorded and reported with its cell: kinds 0 parity, 1 tag, 2 cache, 3 update buffer
(R226). -/
def State.ctxError (s : State) (cell kind : Nat) : State :=
  let s := (if kind < 2 then s.satInc LTH.ERR_CNT_DDR else s.satInc LTH.ERR_CNT_SRAM).unclean
  let s := (((s.satInc LTH.FRESH_CNT_COUNT).wr LTH.LAST_ERR_CELL cell).wr LTH.LAST_ERR_KIND kind).wr LTH.LAST_ERR_NEW 1
  (s.irq .lth 0).eventFull .lth 0 0 [{ first := cell, rows := 1, cols := 1, step := 0 }] [s.word .lth 0xD0058] false

/-- The 4 bursts of a row's context as the read for its measurement finds them (R218, R231, R232). -/
def State.ctxBursts (s : State) (u : WorkUnit) (i : Nat) (flips : List Flip) : List BurstRead :=
  let cell := s.cellOf u i
  let seqs := s.seqsAt u.head u.mtick u.window cell
  (List.range 4).map fun k =>
    let p := s.ctxAddr cell + 64 * k
    let seq := seqs.getD (0, 0)
    let r := readBurst (s.ldN p 64) (burstTag p seq.1) (burstTag p seq.2) (flipsAt flips p)
    { r with parity := r.parity || s.chanFailed (cell % 4), tag := r.tag || seqs.isNone }

/-- The failures of a context's two images: true for the source image, with the kind; parity comes before tag (R226; log entry 163). -/
def State.imageFails (s : State) (u : WorkUnit) (rs : List BurstRead) : List (Bool × Nat) :=
  [true, false].filterMap fun src =>
    let at_ := if src then s.sourceAt u.mtick else 128 - s.sourceAt u.mtick
    let two := (rs.drop (at_ / 64)).take 2
    if two.any BurstRead.parity then some (src, 0) else if two.any BurstRead.tag then some (src, 1) else none

/-! ## Prefetch (R222, R224) -/

/-- Whether a window of a head is scheduled for measurement in the next tick. -/
def State.measuredNext (s : State) (h window : Nat) : Bool :=
  let m := s.now + 1
  let part := s.partFor h m
  let joins := hasBit (s.joinsAt m) h
  (s.scd.measuring || joins || s.scd.resumeAt == some m) && (s.present h || joins) &&
  !(s.scd.variant && hdrContract s.scd.runHdr == 1 && s.tickOf m / 128 == 3 && s.tick != 511) &&
  (measuredWindows part (s.tableFor h m m)).contains window

/-- A context read into the cache: its row, the bursts read, and the kinds of the failures that count (R221, R222, R226). -/
def State.readCtx (s : State) (u : WorkUnit) (i : Nat) (flips : List Flip) : CtxRow × List BurstRead × List Nat :=
  let cell := s.cellOf u i
  let coat := s.coatOf u.mtick
  let rs := s.ctxBursts u i flips
  let bytes := burstBytes rs
  let bad := s.imageFails u rs
  if s.freshNext u.head then
    let here := match s.lth.tags.find? (fun e => e.1 == cell) with
      | some (_, w) => decide (s.now - s.tick ≤ w) && s.tick != 511
      | none => false
    if coat = 0 ∨ !here then ({ bytes := s.ldN (s.ctxAddr cell) 256, srcFresh := true, stabFresh := true }, [], [])
    else
      let bad := bad.filter Prod.fst
      ({ bytes := bytes, srcFresh := bad != [], stabFresh := true }, rs, bad.map Prod.snd)
  else
    let src := bad.any Prod.fst
    let other := bad.any fun x => !x.1
    ({ bytes := bytes, srcFresh := src, stabFresh := if coat = 0 then src else other }, rs, bad.map Prod.snd)

/-- LATH_PREFETCH and CONTEXT_CHECK_FAIL: the contexts of a unit of the next tick are read into the cache (R224, R226). -/
def State.prefetch (s : State) (h window group : Nat) (flips : List Flip) : State :=
  let u : WorkUnit := { head := h, window := window, group := group, mtick := s.now + 1 }
  if !s.measuredNext h window || s.lth.cache.any (fun x => x.wu == u) then s else
  let rows := (List.range 16).map fun i => s.readCtx u i flips
  let s := { s with lth.cache := s.lth.cache ++ [{ wu := u, rows := rows.map Prod.fst }] }
  State.each rows.zipIdx (fun (r, i) s =>
    let cell := s.cellOf u i
    State.each r.2.2 (fun k s => s.ctxError cell k) (s.countBursts (s.ctxAddr cell) r.2.1)) s

/-- An image that fails its parity while it lies in the cache, before its unit is worked: a source gives a fresh source, the other
image of coats 1 to 3 is written back fresh, and each is counted (R226). -/
def State.cacheFail (s : State) (u : WorkUnit) (fails : List ImageFail) : State :=
  State.each (fails.filter fun f => f.kind == 2 && s.lth.cache.any fun x => x.wu == u) (fun f s =>
    let first := s.coatOf u.mtick == 0
    let s := s.putCtx u f.row fun c =>
      if f.source then { c with srcFresh := true, stabFresh := c.stabFresh || first }
      else { c with stabFresh := c.stabFresh || !first }
    s.ctxError (s.cellOf u f.row) 2) s

/-! ## Writeback (R221, R225, R226) -/

/-- One row written back: the working image takes the updated state, or the source unchanged; the stable image goes
back as it was read, or fresh (R221, R222, R226). A failed channel takes no write (R236). A source that fails in the cache only when
it is read for the writeback has served its measurement (DEDUCED, log entry 161). -/
def State.writeCtx (s : State) (u : WorkUnit) (i : Nat) (c : CtxRow) (fails : List ImageFail) : State :=
  let cell := s.cellOf u i
  let bad (k : Nat) (src : Bool) := fails.any fun f => f.row == i && f.kind == k && f.source == src
  let coat := s.coatOf u.mtick
  let work := s.frameOf u.mtick % 2
  let stable := (work + 1) % 2
  let working := if bad 3 true then freshImage else
    match c.upd with
    | some b => b
    | none => if bad 2 true then freshImage else s.sourceImage u.mtick c
  let stab := if c.stabFresh || bad 2 (coat == 0) then freshImage else subBytes c.bytes (128 * stable) 128
  let s := if s.chanFailed (cell % 4) then s else
    let s := (s.stN (s.ctxAddr cell + 128 * work) working).stN (s.ctxAddr cell + 128 * stable) stab
    { s with lth.tags := Sparse.put s.lth.tags cell u.mtick }
  State.each ((fails.filter fun f => f.row == i && (f.kind == 2 || f.kind == 3)).map ImageFail.kind)
    (fun k s => s.ctxError cell k) s

/-- LATH_WRITEBACK: a unit's contexts are written back in the second tick after its measurement, or late in the third
(R221, R225). -/
def State.writeback (s : State) (u : WorkUnit) (fails : List ImageFail) : State :=
  match s.lth.cache.find? (fun x => x.wu == u && (u.mtick + 2 == s.now || u.mtick + 3 == s.now)) with
  | none => s
  | some x =>
    let s := State.each x.rows.zipIdx (fun (c, i) s => s.writeCtx x.wu i c fails) s
    { s with lth.cache := s.lth.cache.filter fun y => y.wu != x.wu }

/-- A late prefetch or an abandoned writeback recorded for one cell (R225). -/
def State.lateCell (s : State) (cell kind : Nat) : State :=
  let s := if kind = 4 then (s.satInc LTH.LATE_CNT_PREFETCH).satInc LTH.FRESH_CNT_COUNT else s.satInc LTH.LATE_CNT_WRITEBACK
  ((s.wr LTH.LAST_ERR_CELL cell).wr LTH.LAST_ERR_KIND kind).wr LTH.LAST_ERR_NEW 1

/-- LATE_PREFETCH: a unit whose contexts are not in the cache when its tick begins gets fresh sources (R225). In a fresh
frame coat 0 reads nothing, so nothing of it can be late. -/
def State.latePrefetch (s : State) (h window group : Nat) : State :=
  let u : WorkUnit := { head := h, window := window, group := group, mtick := s.now }
  if s.lth.cache.any (fun x => x.wu == u) then s else
  let s := { s with lth.cache := s.lth.cache ++ [{ wu := u, rows := List.replicate 16 { srcFresh := true, stabFresh := true } }] }
  if hasBit s.lth.freshHeads h && s.coat == 0 then s
  else State.each (List.range 16) (fun i s => s.lateCell (s.cellOf u i) 4) s

/-- WRITEBACK_ABANDON: units still in the cache after the third tick leave it unwritten (R225). -/
def State.abandon (s : State) : State :=
  let old := s.lth.cache.filter fun x => decide (x.wu.mtick + 4 ≤ s.now)
  let s := { s with lth.cache := s.lth.cache.filter fun x => !decide (x.wu.mtick + 4 ≤ s.now) }
  State.each old (fun x s => State.each (List.range 16) (fun i s => s.lateCell (s.cellOf x.wu i) 5) s) s

/-! ## Regions (R234) -/

/-- The base and size in bytes of a region: 0 LATH, 1 POINT, 2 RENDER, 3 DUST, 4 CKPT, 5 HOST (R234). -/
def State.region (s : State) (n : Nat) : Nat × Nat :=
  if n = 0 then (s.rd LTH.LATH_BASE_ADDR * 2 ^ 28, 2 ^ 28)
  else (s.rd (LTH.REG_BASE_ADDR n) * 2 ^ 20, s.rd (LTH.REG_SIZE_MIB n) * 2 ^ 20)

/-- Whether an address range lies in a region. -/
def State.inRegion (s : State) (n a len : Nat) : Bool :=
  let r := s.region n
  decide (r.1 ≤ a) && decide (a + len ≤ r.1 + r.2)

/-- The region that an address lies in. -/
def State.regionOf (s : State) (a : Nat) : Option Nat := (List.range 6).find? fun n => s.inRegion n a 1

/-- REGION_VIOLATION: an access outside its region counted, with an event record (R234). The region recorded is the
one the address lies in, 0 where it lies in none. -/
def State.violation (s : State) (a engine : Nat) : State :=
  let s := ((s.satInc LTH.REG_VIOL_COUNT).wr LTH.REG_VIOL_REGION ((s.regionOf a).getD 0)).wr LTH.REG_VIOL_ENGINE engine
  (s.irq .lth 2).event .lth 2 [s.word .lth 0xD0060]

/-- Bytes an engine writes: inside its region, to channels that have not failed (R234, R236). -/
def State.engineStore (s : State) (region engine a : Nat) (b : List Byte) : State :=
  if s.inRegion region a b.length then
    if s.chanFailed (channelOf a) then s else s.stN a b
  else s.violation a engine

/-- The broken rules of a commit of LTH (R234, R239). -/
def lthCheck (s : State) : List (Nat × Nat) :=
  let base (n : Nat) : Nat := if n = 0 then s.rdSh LTH.LATH_BASE_ADDR * 2 ^ 28 else s.rdSh (LTH.REG_BASE_ADDR n) * 2 ^ 20
  let size (n : Nat) : Nat := if n = 0 then 2 ^ 28 else s.rdSh (LTH.REG_SIZE_MIB n) * 2 ^ 20
  let word (n : Nat) : Nat := if n = 0 then LTH.LATH_BASE_ADDR.word else (LTH.REG_BASE_ADDR n).word
  (if s.rdSh LTH.LATH_BASE_ADDR ≠ s.rd LTH.LATH_BASE_ADDR ∧
      (s.headMask ≠ 0 ∨ (s.pendingSwap.any fun p => hdrHeadMask (s.stagedHdr p.1) != 0)) then
    [(CFG_BUSY, LTH.LATH_BASE_ADDR.word)] else []) ++
  (if 32 * 2 ^ 30 < size 3 then [(CFG_RANGE, (LTH.REG_SIZE_MIB 3).word)] else []) ++
  (List.range 6).flatMap fun n =>
    if size n = 0 then [] else
    (if s.memSize < base n + size n then [(CFG_RANGE, word n)] else []) ++
    (List.range n).flatMap fun m =>
      if size m ≠ 0 ∧ base n < base m + size m ∧ base m < base n + size n then [(CFG_RANGE, word n)] else []

/-- The broken rules of a commit of `MEM[c]` (R239). -/
def memCheck (c : Nat) (s : State) : List (Nat × Nat) :=
  if s.rdSh (MEM.MCFG_SPEED_LIM c) = 3 then [(CFG_RANGE, (MEM.MCFG_SPEED_LIM c).word)] else []

end Sys2Proof.Machine
end

