-- ==== Sys2Proof/Machine/Float.lean ====
section
/-! DEFINITION. Float (R144 to R155): contributing stops, walk, ranges, waveform decomposition, and intensity. Times are carried in 1/320 LSB unless a docstring says otherwise. -/

namespace Sys2Proof.Machine

/-! ## Tables (R169) -/

/-- The key of a Float table entry. -/
def fltKey (h sel sub idx : Nat) : Nat := ((h * 8 + sel) * 4 + sub) * 1024 + idx

/-- The head and the table of a key. -/
def fltHead (k : Nat) : Nat := k / 32768
def fltSel (k : Nat) : Nat := k / 4096 % 8

/-- An entry of a Float table, nominal where none has been written (R169; log entry 22). -/
def Tabs.fltEntry (t : Tabs) (h sel sub idx : Nat) : Int :=
  Sparse.get t.flt (fltKey h sel sub idx) (Config.nominal 0 (fltKey h sel sub idx))

/-- Whether a Float table has an entry at SEL, SUB and INDEX (R169, R171). -/
def fltHas (sel sub idx : Nat) : Bool :=
  (decide (sel ≤ 3) && decide (sub ≤ 2) && decide (idx ≤ 255)) || (sel == 4 && sub == 0 && decide (idx ≤ 127)) ||
  (sel == 5 && decide (sub ≤ 2) && decide (idx ≤ 255))

/-- Width and signedness of a Float table's entries (R169). -/
def fltWidth (sel : Nat) : Nat × Bool := if sel ≤ 1 then (20, true) else if sel ≤ 3 then (20, false)
  else if sel = 4 then (12, false) else (16, true)

/-! ## Stops (R144, R146) -/

/-- A stop with its pulse: place among the measurement's stops, COARSE and FINE, time of LE↑ in 1/64 LSB, widths w and
w_TE in WIDTH units, ρ of R146, and whether the pulse saturated. -/
structure Stop where
  idx    : Nat
  coarse : Nat
  fine   : Nat
  t      : Int
  w      : Nat
  wTe    : Nat
  rho    : Nat
  sat    : Bool
  deriving DecidableEq, Repr

/-- The pairs of LE↑ and LE↓ words of a pulse. -/
def lePairs : List Edge → List (Edge × Edge)
  | a :: b :: t => if a.kind = 0 ∧ b.kind = 1 then (a, b) :: lePairs t else lePairs (b :: t)
  | _ => []

/-- A non-negative quotient of a time difference, at most 255. -/
def widthOf (d : Int) (unit : Nat) : Nat := min 255 (d / unit).toNat

/-- The stops of one pulse. A pulse cut at a region's end has no TE↑ word; what ρ and w_TE are there is open, and `fv`
stands for it (R146, R155; log entry 26). -/
def pulseStops (tm : Edge → Int) (fv : Nat) (es : List Edge) : List Stop :=
  let up := es.find? fun e => e.kind == 2
  let dn := es.find? fun e => e.kind == 3
  (lePairs es).map fun (a, b) =>
    { idx := 0, coarse := a.coarse, fine := a.fine, t := tm a, w := widthOf (tm b - tm a) 2048
      wTe := match up, dn with | some u, some d => widthOf (tm d - tm u) 2048 | _, _ => fv / 256 % 256
      rho := match up with | some u => widthOf (tm a - tm u) 256 | none => fv % 256
      sat := a.sat }

/-- The stops of a measurement in order of time (R144, R177). -/
def stopsOf (tabs : Tabs) (h row fv : Nat) (pulses : List (List Edge)) : List Stop :=
  (pulses.flatMap (pulseStops (tabs.edgeTime h row) fv)).zipIdx.map fun (x, i) => { x with idx := i }

/-- The contributing stop of slot `k` for bin `b`: of the stops that voted for it, the one nearest the bin's middle,
the earlier on a tie (R144). -/
def contributor (stops : List Stop) (o l b : Nat) : Option Stop :=
  let dist (x : Stop) : Nat :=
    (640 * ((x.coarse : Int) - o) + 5 * x.fine - 32768 * l + 320 - (640 * b + 320)).natAbs
  (stops.filter fun x => (votesOf x.coarse x.fine o l).contains b).foldl
    (fun m x => match m with | none => some x | some y => if dist x < dist y then some x else some y) none

/-- Slot and contributing stop pairs of a peak (R144). -/
def contributors (stops : List Stop) (offs : List Nat) (l : Nat) (p : Peak) : List (Nat × Stop) :=
  (offs.zipIdx.filter fun (_, k) => hasBit p.votes k).filterMap fun (o, k) =>
    (contributor stops o l p.bin).map fun x => (k, x)

/-- The contributing stops of every peak after a stop shared by two peaks has gone to the one with the higher COUNT, or
the lower bin (R145). -/
def sharedOut (l : List (Peak × List (Nat × Stop))) : List (Peak × List (Nat × Stop)) :=
  l.map fun (p, cs) => (p, cs.filter fun (_, x) => !l.any fun (q, ds) =>
    q.bin != p.bin && ds.any (fun d => d.2.idx == x.idx) &&
    (decide (p.count < q.count) || (p.count == q.count && decide (q.bin < p.bin))))

/-! ## Ranges (R146 to R150) -/

/-- d_k of a contributing stop (R146, R147), in 1/320 LSB. -/
def flightTime (tabs : Tabs) (h gain l o : Nat) (x : Stop) : Int :=
  let walk := if x.sat then tabs.fltEntry h 1 gain x.rho else tabs.fltEntry h 0 gain x.w
  5 * (x.t - walk - 8192 * o) - 2097152 * l

/-- The lower middle value of a list (R148). -/
def lowerMedian (l : List Int) : Int := (l.mergeSort (· ≤ ·)).getD ((l.length - 1) / 2) 0

/-- The mean of a list, halves rounded up (R148, R150). -/
def meanUp (l : List Int) : Int := (2 * l.sum + l.length) / (2 * l.length)

/-- RANGE before it is held in its limits: D over 1 + ε less the range offsets, in LSB with halves up (R149). `eps` is
in 1/16 ppb, the offsets in 1/64 LSB. -/
def rangeOf (d eps ofs : Int) : Int :=
  let k : Int := 16000000000
  (2 * (d * k - 5 * ofs * (k + eps)) + 320 * (k + eps)) / (640 * (k + eps))

/-- RANGE held between 1 and 1,048,575, and whether the lower limit was met (R149). -/
def rangeHeld (r : Int) : Nat × Bool := if r < 1 then (1, true) else (min 1048575 r.toNat, false)

/-- A peak refined from its edges: D, kept stops, and CONF (R148, R150). -/
structure Refined where
  peak  : Peak
  d     : Int
  kept  : List (Nat × Stop)
  stops : List Nat
  conf  : Nat
  deriving DecidableEq, Repr

/-- FLOAT_REFINE of one peak (R148, R150). -/
def refine (tabs : Tabs) (h gain l : Nat) (offs : List Nat) (outlier : Nat) (p : Peak) (cs : List (Nat × Stop)) : Refined :=
  let ds := cs.map fun (k, x) => ((k, x), flightTime tabs h gain l (offs.getD k 0) x)
  let m := lowerMedian (ds.map Prod.snd)
  let kept := ds.filter fun d => decide ((d.2 - m).natAbs ≤ 320 * outlier)
  { peak := p, d := meanUp (kept.map Prod.snd), kept := kept.map Prod.fst, stops := cs.map fun c => c.2.idx
    conf := 32 * kept.length - 1 - 16 * (ds.length - kept.length) - (if p.ambig then 32 else 0) -
      (if p.floored then 32 else 0) }

/-! ## Waveform decomposition (R152 to R154) -/

/-- The SUB code of TPL for q samples per coarse bin (R169). -/
def tplSub (q : Nat) : Nat := if q = 1 then 0 else if q = 2 then 1 else 2

/-- Whether every sample a candidate needs may be used (R152, R153). -/
def samplesGood (c : Capt) (offs : List Nat) (p : Peak) : Bool :=
  (offs.zipIdx.filter fun (_, k) => hasBit p.votes k).all fun (o, _) =>
    (List.range (8 * c.q + 33)).all fun (i : Nat) => c.good (((o + p.bin) * c.q : Nat) + ((i : Int) - (4 * c.q + 8 : Nat)))

/-- The coded sum z, entry 0 standing for i = −4q − 8 (R153). -/
def codedSum (c : Capt) (offs : List Nat) (p : Peak) : List Int :=
  (List.range (8 * c.q + 33)).map fun (i : Nat) =>
    ((offs.zipIdx.filter fun (_, k) => hasBit p.votes k).map fun (o, _) =>
      (c.value (((o + p.bin) * c.q : Nat) + ((i : Int) - (4 * c.q + 8 : Nat)))).1).sum

/-- A component of a candidate: reference position n0 in 1/8 sample, and amplitude as a fraction (R153). -/
structure Component where
  n8  : Int
  num : Int
  den : Nat
  deriving DecidableEq, Repr

/-- One search of R153 over z: the correlation, template and place of the best fit, lower n0 first among equals. `zd` is
the common denominator of z. -/
def bestFit (tpl : Nat → Nat → Int) (q : Nat) (z : List Int) : Option (Int × Int × Nat × Nat) :=
  let cands := (List.range (8 * q + 1)).flatMap fun (i : Nat) => (List.range 8).filterMap fun (f : Nat) =>
    let n8 : Int := 8 * ((i : Int) - (4 * q + 8 : Nat)) + 64 - (f : Nat)
    if n8.natAbs ≤ 32 * q then
      some (((List.range 32).map fun j => z.getD (i + j) 0 * tpl f j).sum, n8, f, i) else none
  cands.foldl (fun m x => match m with
    | none => some x
    | some y => if y.1 < x.1 ∨ (x.1 = y.1 ∧ x.2.1 < y.2.1) then some x else some y) none

/-- The components of a candidate, at most `n` (R153). -/
def components (tpl : Nat → Nat → Int) (q floor : Nat) : Nat → List Int → Nat → List Component → List Component
  | 0, _, _, acc => acc
  | n + 1, z, zd, acc =>
    match bestFit tpl q z with
    | none => acc
    | some (c, n8, f, i) =>
      let e := ((List.range 32).map fun j => tpl f j * tpl f j).sum.toNat
      -- a = 32768 × c / (zd × e)
      if 32768 * c < floor * zd * e ∨ e = 0 ∨ acc.any (fun k => decide ((k.n8 - n8).natAbs ≤ 4 * q)) then acc
      else
        let z' := z.zipIdx.map fun (v, j) =>
          if i ≤ j ∧ j < i + 32 then v * e - c * tpl f (j - i) else v * e
        components tpl q floor n z' (zd * e) (acc ++ [{ n8 := n8, num := 32768 * c, den := zd * e }])

/-- The flight time of a component, in 1/320 LSB (R153). -/
def Component.flight (c : Component) (b q : Nat) : Int := 40960 * (b : Int) + 5120 * c.n8 / (q : Int)

/-! ## Intensity (R155) -/

/-- INTENSITY of an amplitude `n / d` in units of 25 nA (R155). -/
def intensityOf (mode gain rref range n d : Nat) : Nat :=
  if mode = 0 then min 4095 (divNear (n * gain) (d * 1024))
  else min 4095 (divNear (n * gain * range * range) (d * 1024 * (128 * rref) * (128 * rref)))

/-- The amplitude of a return from its kept pulses: the mean of the table's values times the row's trim (R155). -/
def amplitude (tabs : Tabs) (h gain row : Nat) (kept : List (Nat × Stop)) : Nat × Nat :=
  let trim := (tabs.fltEntry h 4 0 row).toNat
  (((kept.map fun (_, x) =>
    (if x.sat then tabs.fltEntry h 3 gain x.wTe else tabs.fltEntry h 2 gain x.w).toNat * trim).sum), 1024 * kept.length)

/-! ## One measurement -/

/-- What Float makes of one measurement: its returns in ascending RANGE, peaks without stops, rejected first components,
whether it decomposed, and for each replaced edge result the difference R264 records. -/
structure Floated where
  rets   : List Ret
  noStop : Nat
  rejected : Nat
  decomposed : Bool
  diffs  : List Int
  deriving DecidableEq, Repr

/-- The settings of Float for a measurement. -/
structure FloatCfg where
  tabs : Tabs
  h    : Nat
  row  : Nat
  gain : Nat
  offs : List Nat
  eps  : Int
  ofs  : Int
  outlier : Nat
  mode : Nat
  rref : Nat
  intGain : Nat
  wfmScale : Nat
  wfmMin : Nat
  wfm  : Bool
  deriving DecidableEq, Repr

/-- A return from its parts. -/
def FloatCfg.ret (k : FloatCfg) (d : Int) (width conf : Nat) (sat wfm edge : Bool) (n den : Nat) (stops : List Nat) : Ret :=
  let r := rangeHeld (rangeOf d k.eps k.ofs)
  { range := r.1, width := width, intens := intensityOf k.mode k.intGain k.rref r.1 n den, conf := conf
    sat := sat, wfm := wfm, edge := edge || r.2, ampN := n, ampD := den, stops := stops }

/-- The amplitude of a component: a_j / n_v × WFM_SCALE (R155). -/
def FloatCfg.compAmp (k : FloatCfg) (c : Component) (nv : Nat) : Nat × Nat := (c.num.toNat * k.wfmScale, c.den * nv * 256)

/-- The returns of one refined peak, with its components (R154; log entry 27). The CONF of a further component whose
amplitude is above the first one's is held at the 8-bit field's 255 (R156; DESIGN CHOICE, log entry 151). -/
def FloatCfg.retsOf (k : FloatCfg) (bins : List Nat) (q : Nat) (r : Refined) (cs : List Component) : List Ret × Nat × List Int :=
  let width := (meanUp (r.kept.map fun x => (x.2.w : Int))).toNat
  let sat := r.kept.any fun x => x.2.sat
  let a := amplitude k.tabs k.h k.gain k.row r.kept
  let plain := k.ret r.d width r.conf sat false r.peak.edge a.1 a.2 r.stops
  let nv := popcount r.peak.votes 8
  match cs with
  | [] => ([plain], 0, [])
  | c :: more =>
    let f := c.flight r.peak.bin q
    let near := decide ((f - r.d).natAbs ≤ 40960)
    let first := if near then
        let b := k.compAmp c nv
        k.ret f width r.conf sat true r.peak.edge b.1 b.2 r.stops
      else plain
    let extras := (more.filter fun m => bins.all fun b =>
        b == r.peak.bin || decide (40960 < (m.flight r.peak.bin q - 40960 * (b : Int)).natAbs)).map fun m =>
      let b := k.compAmp m nv
      let conf := r.conf * (m.num * c.den).toNat / (c.num.toNat * m.den)
      k.ret (m.flight r.peak.bin q) 0 (min 255 conf) false true false b.1 b.2 []
    (first :: extras, if near then 0 else 1, if near then [f - r.d] else [])

/-- The four returns of the highest INTENSITY, lower RANGE first on ties, in ascending RANGE (R151, R154). -/
def fourBrightest (l : List Ret) : List Ret :=
  let best := if l.length ≤ 4 then l else
    (l.mergeSort fun a b => decide (b.intens < a.intens) || (a.intens == b.intens && decide (a.range ≤ b.range))).take 4
  best.mergeSort fun a b => decide (a.range ≤ b.range)

/-- FLOAT_REFINE and WAVEFORM_DECOMPOSE of one measurement (R144 to R155). -/
def FloatCfg.float (k : FloatCfg) (stops : List Stop) (peaks : List Peak) (capt : Option Capt) : Floated :=
  let l := k.row / 4
  let shared := sharedOut (peaks.map fun p => (p, contributors stops k.offs l p))
  let refined := (shared.filter fun x => !x.2.isEmpty).map fun (p, cs) => refine k.tabs k.h k.gain l k.offs k.outlier p cs
  let bins := peaks.map Peak.bin
  let done := refined.map fun r =>
    match capt with
    | some c =>
      if k.wfm && c.q != 0 && samplesGood c k.offs r.peak then
        let tpl (f j : Nat) := k.tabs.fltEntry k.h 5 (tplSub c.q) (32 * f + j)
        (k.retsOf bins c.q r (components tpl c.q (k.wfmMin * popcount r.peak.votes 8) 4 (codedSum c k.offs r.peak) 1 []), true)
      else (k.retsOf bins 1 r [], false)
    | none => (k.retsOf bins 1 r [], false)
  { rets := fourBrightest (done.flatMap fun d => d.1.1), noStop := (shared.filter fun x => x.2.isEmpty).length
    rejected := (done.map fun d => d.1.2.1).sum, decomposed := done.any Prod.snd, diffs := done.flatMap fun d => d.1.2.2 }

/-! ## The slot of a unit -/

/-- Whether a row of a window was lit and its channel enabled, so that the pipeline works its measurement (R72, R92). -/
def Win.worked (w : Win) (row : Nat) : Bool := hasBit w.lit (row / 4) && hasBit w.chEn row

/-- The window of a unit. -/
def State.winOf (s : State) (u : WorkUnit) : Option Win :=
  s.wins.find? fun w => w.head == u.head && w.window == u.window && w.mtick == u.mtick

/-- The settings of Float for a row of a window. -/
def State.floatCfg (s : State) (w : Win) (row : Nat) : FloatCfg :=
  let h := w.head
  let tabs := s.tabsFor w.mtick
  { tabs := tabs, h := h, row := row, gain := w.gains.getD (row / 16) 0, offs := w.offs.getD [], eps := w.eps
    ofs := Sparse.get tabs.rofs (h * 128 + row) 0 + w.devOfs, outlier := w.rd (FLT.HCFG_OUTLIER h)
    mode := w.rd (FLT.HCFG_INT_MODE h), rref := w.rd (FLT.HCFG_R_REF h), intGain := w.rd (FLT.INT_GAIN_GAIN h)
    wfmScale := w.rd (FLT.INT_GAIN_WFM_SCALE h), wfmMin := w.rd (FLT.WFM_WFM_MIN h)
    wfm := w.on (FLT.HCFG_WFM_EN h) && !w.plain }

/-- The accumulation of a SKEW run to which the returns of a measurement belong, by its coat: the first, or the second of REPEAT mode
(R264, R268). -/
def State.skewPass (s : State) (h mtick : Nat) : Option Nat :=
  if hh : h < 8 then
    let c := s.cal.heads[h]
    let n := (c.skewAt.filter fun t => decide (t ≤ mtick)).length
    if hasBit (s.rd CAL.BUSY_KINDS) (4 * h + 3) && decide (1 ≤ n) && decide (n ≤ if c.twice then 2 else 1) then some (n - 1) else none
  else none

/-- The capture that Float decomposes for a row: the earliest lane's RS_EN capture whose samples are kept for Float. A
capture with RS_EN 0 feeds Dust Sheet only (R210), and a unit in replay is refined from its edges alone (R152, R213). -/
def Win.floatCapt (w : Win) (row : Nat) (m : MeasRow) : Option Capt :=
  if hasBit w.replay (row / 16) then none else
  (m.capts.mergeSort fun a b => decide (a.lane ≤ b.lane)).find? fun c => c.q != 0 && c.rsEn

/-- Float's work on one row. STAT and WFM_REJ count a measurement once, in its first pass. -/
def State.floatRow (s : State) (w : Win) (row : Nat) : State × MeasRow :=
  let m := w.row row
  let k := s.floatCfg w row
  let stops := stopsOf k.tabs w.head row s.freeVal m.pulses
  let f := k.float stops (m.scrim.getD []) (w.floatCapt row m)
  let s := if m.flt.isSome then s else (s.satAdd FLT.STAT_NOSTOP f.noStop).satAdd FLT.WFM_REJ_COUNT f.rejected
  let s := if f.decomposed && m.flt.isNone then s.satInc FLT.STAT_WFM_DONE else s
  let s := s.freeNext
  let key := w.head * 128 + row
  match if f.diffs = [] ∨ m.flt.isSome then none else s.skewPass w.head w.mtick with
  | none => (s, { m with rets := some f.rets, flt := some f.rets, masked := false })
  | some pass =>
    let key := key + 1024 * pass
    let old := Sparse.get s.cal.skew key (0, 0, 0)
    let sq := (f.diffs.map fun d => d.natAbs * d.natAbs).sum
    let s := { s with cal.skew := Sparse.put s.cal.skew key (old.1 + f.diffs.length, old.2.1 + f.diffs.sum, old.2.2 + sq) }
    (s, { m with rets := some f.rets, flt := some f.rets, masked := false })

/-- The FLT slot of a unit: the rows it has not refined yet (R35, R144). -/
def State.floatUnit (s : State) (u : WorkUnit) : State :=
  match s.winOf u with
  | none => s
  | some w => State.each ((List.range 16).map (16 * u.group + ·)) (fun row s =>
      match s.winOf u with
      | none => s
      | some w' => if !w.worked row || (w'.row row).rets.isSome then s else
        let r := s.floatRow w' row
        r.1.putWin (w'.upd row fun _ => r.2)) s

/-- The broken rules of a commit of FLT (R171). -/
def fltCheck (s : State) : List (Nat × Nat) :=
  (List.range 8).flatMap fun h =>
    let zero (f : Fld) : List (Nat × Nat) := if s.rdSh f = 0 then [(CFG_ZERO, f.word)] else []
    zero (FLT.HCFG_OUTLIER h) ++ zero (FLT.HCFG_R_REF h) ++ zero (FLT.WFM_WFM_MIN h)

end Sys2Proof.Machine
end

