-- ==== Sys2Proof/Machine/Masking.lean ====
section
/-! DEFINITION. Masking (R172 to R191): the cell's memory, classification, confidence and flags, window dirt, policies. -/

namespace Sys2Proof.Machine

/-! ## The cell's memory (R172, R174, R219, R220) -/

/-- A return kept in HIST (R219). -/
structure Past where
  range : Nat
  cls   : Nat
  pc    : Nat
  deriving DecidableEq, Repr

/-- The valid measurement slot of coat `c` of an image: its age in coats before the measurement at (frame, coat), and
its returns (R219, R220). -/
def histSlot (b : List Byte) (frame coat c : Nat) : Option (Nat × List Past) :=
  let o := 0x20 + 24 * c
  let w := u32 b o
  if !hasBit w 15 then none else
  let n := if hasBit w 18 then 0 else slice w 16 2 + 1
  some (4 * ((frame + 32768 - w % 32768) % 32768) + coat - c,
    (List.range n).map fun i =>
      let e := u32 b (o + 4 + 5 * i) + 2 ^ 32 * u8 b (o + 8 + 5 * i)
      { range := slice e 0 20, cls := slice e 32 4, pc := slice e 36 4 })

/-- HIST: the two most recent valid slots, newest first (R220). -/
def histOf (b : List Byte) (frame coat : Nat) : List (List Past) :=
  (((((List.range 4).filterMap (histSlot b frame coat)).mergeSort fun x y => decide (x.1 ≤ y.1)).take 2).map Prod.snd)

/-- The settings of Masking for a head (R190). -/
structure MaskCfg where
  tol : Nat
  persMin : Nat
  sunConf : Nat
  chainMin : Nat
  alpha : Nat
  canW : Nat
  gndW : Nat
  chainW : Nat
  canSep : Nat
  canDepth : Nat
  canAge : Nat
  wxRange : Nat
  rainW : Nat
  dustW : Nat
  rainI : Nat
  dustI : Nat
  retro : Nat
  winMax : Nat
  dirtDegr : Nat
  policy : Nat
  rref : Nat
  deriving DecidableEq, Repr

/-- The settings in force for a window. -/
def Win.maskCfg (w : Win) : MaskCfg :=
  let h := w.head
  { tol := w.rd (MSK.PCFG_PERS_TOL h), persMin := w.rd (MSK.PCFG_PERS_MIN h), sunConf := w.rd (MSK.PCFG_SUN_CONF h)
    chainMin := w.rd (MSK.PCFG_CHAIN_MIN h), alpha := w.rd (MSK.PCFG_DIRT_ALPHA h), canW := w.rd (MSK.SHAPE_CAN_W h)
    gndW := w.rd (MSK.SHAPE_GND_W h), chainW := w.rd (MSK.SHAPE_CHAIN_WMIN h), canSep := w.rd (MSK.CANOPY_CAN_SEP h)
    canDepth := w.rd (MSK.CANOPY_CAN_DEPTH h), canAge := w.rd (MSK.CANOPY_CAN_AGE h), wxRange := w.rd (MSK.WX_WX_RANGE h)
    rainW := w.rd (MSK.WX_RAIN_W h), dustW := w.rd (MSK.WX_DUST_W h), rainI := w.rd (MSK.WXI_RAIN_I h)
    dustI := w.rd (MSK.WXI_DUST_I h), retro := w.rd (MSK.RETRO_RETRO_TH h), winMax := w.rd (MSK.RETRO_WIN_MAX h)
    dirtDegr := w.rd (MSK.DIRT_DIRT_DEGR h), policy := w.rd (MSK.POLICY_ACT h), rref := w.rd (FLT.HCFG_R_REF h) }

/-! ## Evidence (R175 to R177) -/

/-- The matches of a range in one HIST measurement (R175). -/
def matchesIn (tol range : Nat) (l : List Past) : List Past :=
  l.filter fun y => y.cls != 6 && y.cls != 8 && decide (((range : Int) - y.range).natAbs ≤ tol)

/-- The nearest of several matches, the lower RANGE on a tie (R175). -/
def nearestPast (range : Nat) (l : List Past) : Option Past :=
  l.foldl (fun m y => match m with
    | none => some y
    | some z =>
      let a := ((range : Int) - y.range).natAbs
      let b := ((range : Int) - z.range).natAbs
      if a < b ∨ (a = b ∧ y.range < z.range) then some y else some z) none

/-- The persistence count of a range (R175). -/
def persistence (tol range : Nat) (hist : List (List Past)) : Nat :=
  match hist.findSome? fun l => nearestPast range (matchesIn tol range l) with
  | some y => min 15 (y.pc + 1)
  | none => 0

/-- I_ref of a return (R176). -/
def iRef (rref : Nat) (r : Ret) : Nat :=
  min 65535 (divNear (r.ampN * r.range * r.range) (r.ampD * 4 * (128 * rref) * (128 * rref)))

/-- Whether two stops are successive members of a chain (R177). -/
def chainLink (offs : List Nat) (a b : Stop) : Bool :=
  let d : Int := (b.coarse : Int) - a.coarse
  decide (1280 ≤ d) && decide (d ≤ 1535) && decide (((b.w : Int) - a.w).natAbs ≤ 2) &&
  (offs.zip (offs.drop 1)).all fun (x, y) => decide (1 < (d - ((y : Int) - x)).natAbs)

/-- For each stop of a list in order, the length of the longest chain that ends with it (R177). -/
def chainLens (link : Stop → Stop → Bool) (l : List Stop) : List (Stop × Nat) :=
  l.foldl (fun acc x => acc ++ [(x, 1 + (acc.map fun (y, n) => if link y x then n else 0).foldl max 0)]) []

/-- The chain members of a measurement, by their places among its stops (R177). -/
def chainMembers (minLen wMin : Nat) (offs : List Nat) (stops : List Stop) : List Nat :=
  let l := (stops.filter fun x => decide (wMin ≤ x.w)).mergeSort fun a b => decide (a.coarse ≤ b.coarse)
  let fwd := chainLens (chainLink offs) l
  let bwd := chainLens (fun a b => chainLink offs b a) l.reverse
  (fwd.filter fun (x, n) => bwd.any fun (y, m) => y.idx == x.idx && decide (minLen + 1 ≤ n + m)).map fun x => x.1.idx

/-! ## Classification (R178 to R180) -/

/-- Pass 1: classes 8, 6 and 7, else 0 (R178). -/
def pass1 (c : MaskCfg) (members : List Nat) (r : Ret) : Ret :=
  if c.winMax ≠ 0 ∧ r.range < c.winMax then { r with cls := 8 }
  else if 2 ≤ (r.stops.filter members.contains).length then { r with cls := 6 }
  else if c.retro ≤ iRef c.rref r then { r with cls := 7 }
  else r

/-- Whether an earlier return is canopy above the last one (R179): a WFM return of WIDTH 0 is never diffuse. -/
def isCanopy (c : MaskCfg) (last y : Ret) : Bool :=
  !(y.wfm && y.width == 0) && decide (c.canW ≤ y.width) && decide (y.range + c.canSep ≤ last.range) && decide (last.range ≤ y.range + 128 * c.canDepth)

/-- Pass 2: classes 2 and 3 (R179). -/
def pass2 (c : MaskCfg) (rs : List Ret) : List Ret :=
  let left := rs.filter fun r => r.cls == 0
  match left.getLast? with
  | none => rs
  | some last =>
    let earlier := left.dropLast
    if last.width ≤ c.gndW ∧ earlier.any (isCanopy c last) then
      let n := rs.length
      let lastAt := n - 1 - ((rs.reverse.findIdx? fun r => r.cls == 0).getD 0)
      rs.zipIdx.map fun (r, i) =>
        if r.cls ≠ 0 then r else if i = lastAt then { r with cls := 3 }
        else if isCanopy c last r then { r with cls := 2 } else r
    else rs

/-- Pass 3: the weather rule (R180). -/
def pass3 (c : MaskCfg) (fresh : Bool) (r : Ret) : Ret :=
  let trans := !fresh && decide (r.pc < c.persMin)
  let i := iRef c.rref r
  if r.cls ≠ 0 then r
  else if trans && !r.sat && decide (c.dustW ≤ r.width) && decide (i ≤ c.dustI) then { r with cls := 5 }
  else if trans && !r.sat && decide (r.range ≤ 128 * c.wxRange) && c.wxRange != 0 && decide (r.width ≤ c.rainW) &&
    decide (i ≤ c.rainI) then { r with cls := 4 }
  else { r with cls := 1 }

/-- The three passes (R178). -/
def classify (c : MaskCfg) (fresh : Bool) (members : List Nat) (rs : List Ret) : List Ret :=
  (pass2 c (rs.map (pass1 c members))).map (pass3 c fresh)

/-! ## One measurement (R181 to R187) -/

/-- What a measurement brings to Masking beside its returns. -/
structure MaskIn where
  hist  : List (List Past)
  fresh : Bool
  ihist : Nat
  canA  : Nat
  dOld  : Nat
  winTot : Nat
  sun   : Bool
  blind : Bool
  members : List Nat
  deriving DecidableEq, Repr

/-- What Masking makes of a measurement. -/
structure MaskOut where
  rets   : List Ret
  canA   : Nat
  capreq : Bool
  ihist  : Nat
  d      : Nat
  intf   : Bool
  degr   : Bool
  deriving DecidableEq, Repr

/-- The action of POLICY for a class (R187). -/
def policyOf (act cls : Nat) : Nat := if cls = 0 then 0 else slice act (2 * (cls - 1)) 2

/-- The dirt level after a measurement (R184). -/
def dirtNew (alpha old winTot : Nat) : Nat := ((old : Int) + (16 * (winTot : Int) - old) / (2 ^ alpha : Nat)).toNat

/-- CONF after Masking (R182). -/
def confOf (c : MaskCfg) (i : MaskIn) (unconfirmed : Bool) (r : Ret) : Nat :=
  let trans := !i.fresh && decide (r.pc < c.persMin)
  let a := r.conf - (if i.sun && trans then c.sunConf else 0)
  let b := a - (if unconfirmed && r.cls == 3 then 64 else 0)
  if policyOf c.policy r.cls = 1 then 0 else b

/-- MASK_CLASSIFY and CAPREQ_SET of one measurement (R175 to R187). -/
def maskMeas (c : MaskCfg) (i : MaskIn) (rs : List Ret) : MaskOut :=
  let rs := rs.map fun r => { r with pc := persistence c.tol r.range i.hist }
  let rs := classify c i.fresh i.members rs
  let a := min 15 (i.canA + 1)
  let confirms := rs.any fun r => r.cls == 3 && r.wfm
  let unconfirmed := !confirms && decide (c.canAge ≤ a)
  let chain := !i.members.isEmpty
  let d := dirtNew c.alpha i.dOld i.winTot
  { rets := rs.map fun r => { r with conf := confOf c i unconfirmed r, gone := policyOf c.policy r.cls == 2 }
    canA := if confirms then 0 else a
    capreq := (unconfirmed && rs.any fun r => r.cls == 3) ||
      ((rs.any fun r => r.cls == 2) && !(rs.any fun r => r.cls == 3) && (i.hist.headD []).any fun y => y.cls == 3)
    ihist := (2 * i.ihist + b2n chain) % 256
    d := d
    intf := chain || decide (2 ≤ popcount i.ihist 8)
    degr := i.blind || decide (c.dirtDegr ≤ d) }

/-- The slot of a measurement's coat (R186, R219). -/
def slotBytes (frame : Nat) (sun chain : Bool) (rs : List Ret) : List Byte :=
  leBytes 4 (frame + 2 ^ 15 + (rs.length - 1) % 4 * 2 ^ 16 + b2n rs.isEmpty * 2 ^ 18 + b2n sun * 2 ^ 19 + b2n chain * 2 ^ 20) ++
  (List.range 4).flatMap fun i =>
    match rs[i]? with
    | some r => leBytes 5 (r.range + r.intens * 2 ^ 20 + r.cls * 2 ^ 32 + r.pc * 2 ^ 36)
    | none => zeros 5

/-- The updated working image of a classified measurement (R186, R219, R222, R223). -/
def updatedImage (src : List Byte) (frame coat calGen skim : Nat) (sun chain : Bool) (o : MaskOut) : List Byte :=
  let head := leBytes 4 (frame + 2 ^ 15 + coat * 2 ^ 16 + (imgRebuild src - 1) * 2 ^ 18) ++ leBytes 4 (u32 src 4 + 1) ++
    leBytes 2 skim ++ leBytes 1 o.ihist ++ leBytes 1 (o.canA + 16 * b2n o.capreq) ++ leBytes 2 o.d ++ leBytes 2 calGen ++
    zeros 16
  overlay (head ++ src.drop 32) (0x20 + 24 * coat) (slotBytes frame sun chain o.rets)

/-! ## The slot of a unit -/

/-- Whether a measurement's source is fresh (R174, R222). -/
def ctxFresh (src : List Byte) (hist : List (List Past)) : Bool := !imgValid src || hist.isEmpty

/-- Masking's work on one row: its measurement, and its context's updated image. A replay enters no request in REQ_CNT a
second time (R28, R181). -/
def State.maskRow (s : State) (u : WorkUnit) (w : Win) (i : Nat) : State :=
  let row := 16 * u.group + i
  let m := w.row row
  let c := s.ctxOf u i
  let src := s.sourceImage u.mtick c
  let coat := s.coatOf u.mtick
  let frame := s.frameOf u.mtick
  let hist := histOf src frame coat
  let fresh := ctxFresh src hist
  let cfg := w.maskCfg
  let offs := w.offs.getD []
  let members := chainMembers cfg.chainMin cfg.chainW offs (stopsOf (s.tabsFor u.mtick) u.head row s.freeVal m.pulses)
  let a := (m.skim.getD (0, 0)).1
  let sun := decide (w.rd (SKM.SKCFG_SUN_RATE u.head) < a)
  let o := maskMeas cfg { hist := if fresh then [] else hist, fresh := fresh, ihist := if fresh then 0 else u8 src 10
                          canA := if fresh then 15 else u8 src 11 % 16
                          dOld := if fresh then 16 * m.winTot else u16 src 12, winTot := m.winTot
                          sun := sun, blind := m.blind, members := members } (m.rets.getD [])
  let asked := !fresh && hasBit (u8 src 11) 4
  let s := if members.isEmpty then s else s.irq .msk 1
  let s := if o.capreq && !m.reqs then s.satInc MSK.REQ_CNT_ISSUED else s
  let s := if asked && m.capts.isEmpty && !m.reqs then s.satInc MSK.REQ_CNT_UNSERVED else s
  let s := s.putCtx u i fun x => { x with upd := some (updatedImage src frame coat w.calGen a sun (!members.isEmpty) o) }
  let s := s.putWin (w.upd row fun m => { m with rets := some o.rets, masked := true, reqs := true, dirt := o.d, intf := o.intf, chain := !members.isEmpty
                                                 degr := o.degr, carry := imgRebuild src != 0 })
  s.freeNext

/-- The MSK slot of a unit (R35, R178). -/
def State.maskUnit (s : State) (u : WorkUnit) : State :=
  State.each (List.range 16) (fun i s =>
    match s.winOf u with
    | none => s
    | some w =>
      let m := w.row (16 * u.group + i)
      if w.worked (16 * u.group + i) && m.rets.isSome && !m.masked then s.maskRow u w i else s) s

/-! ## Counts of the coat (R185, R190) -/

/-- A row's measurement entered in its head's counts. -/
def MskSt.count (k : MskSt) (dirtCell : Nat) (m : MeasRow) : MskSt :=
  let cls := (m.rets.getD []).foldl (fun (v : Vector Nat 9) r =>
    if h : r.cls < 9 then v.set r.cls (v[r.cls] + 1) else v) k.cls
  { k with n := k.n + 1, dirty := k.dirty + (if dirtCell ≤ m.dirt then 1 else 0), sumD := k.sumD + m.dirt, cls := cls }

/-- At the end of a tick the measurements that Masking has classified, and whose units are not marked for replay, enter
their heads' counts. -/
def State.maskCount (s : State) : State :=
  State.each s.wins (fun w s =>
    let rows := (List.range 128).filter fun r =>
      let m := w.row r
      m.masked && !m.counted && !hasBit w.dropped (r / 16) && !s.scd.marks.any fun k =>
        k.wu.head == w.head && k.wu.window == w.window && k.wu.mtick == w.mtick && k.wu.group == r / 16
    if rows = [] then s else
    if hh : w.head < 8 then
      let k := rows.foldl (fun k r => k.count (w.rd (MSK.DIRT_DIRT_CELL w.head)) (w.row r)) s.msk[w.head]
      let w' := rows.foldl (fun w r => w.upd r fun m => { m with counted := true }) w
      { s with msk := s.msk.set w.head k }.putWin w'
    else s) s

/-- The count behind CLS_CNT (R190, R191). -/
def State.clsCount (s : State) : Nat :=
  let c := s.rd MSK.CNT_SEL_CLASS
  if hh : s.rd MSK.CNT_SEL_HEAD < 8 then
    if hc : 1 ≤ c ∧ c < 9 then (s.msk[s.rd MSK.CNT_SEL_HEAD]).last[c] else 0
  else 0

/-- DIRT_ALARM_EVALUATION of a head at a coat boundary (R185). -/
def State.dirtAlarm (s : State) (h : Head) : State :=
  let k := s.msk[h]
  let s := { s with msk := s.msk.set h { last := k.cls } }
  let s := s.wr MSK.CLS_CNT_COUNT s.clsCount
  if k.n = 0 then s else
  let was := s.on (MSK.DIRT_STAT_ALARM h.val)
  let is := if was then !decide (1000 * k.dirty < s.rd (MSK.DIRTN_DIRT_OFF h.val) * k.n)
    else decide (s.rd (MSK.DIRTN_DIRT_ON h.val) * k.n ≤ 1000 * k.dirty)
  let s := ((s.wr (MSK.DIRT_STAT_DIRTY h.val) k.dirty).wrB (MSK.DIRT_STAT_ALARM h.val) is).wr (MSK.DMEAN_MEAN h.val) (k.sumD / k.n)
  if was = is then s else
  (s.irq .msk 0).event .msk 0 [s.word .msk (0xC4160 + 4 * h.val), s.word .msk (0xC4180 + 4 * h.val)]

/-- The broken rules of a commit of MSK (R191). -/
def mskCheck (s : State) : List (Nat × Nat) :=
  (List.range 8).flatMap fun h =>
    let zero (f : Fld) : List (Nat × Nat) := if s.rdSh f = 0 then [(CFG_ZERO, f.word)] else []
    let bad (f : Fld) (b : Bool) : List (Nat × Nat) := if b then [(CFG_RANGE, f.word)] else []
    let cm := s.rdSh (MSK.PCFG_CHAIN_MIN h)
    zero (MSK.PCFG_PERS_TOL h) ++ zero (MSK.PCFG_PERS_MIN h) ++ zero (MSK.PCFG_CHAIN_MIN h) ++
    zero (MSK.CANOPY_CAN_SEP h) ++ zero (MSK.CANOPY_CAN_DEPTH h) ++ zero (MSK.CANOPY_CAN_AGE h) ++ zero (MSK.DIRTN_DIRT_ON h) ++
    bad (MSK.PCFG_CHAIN_MIN h) (decide (cm < 3) || decide (8 < cm)) ++
    bad (MSK.PCFG_DIRT_ALPHA h) (decide (12 < s.rdSh (MSK.PCFG_DIRT_ALPHA h))) ++
    bad (MSK.DIRTN_DIRT_ON h) (decide (1000 < s.rdSh (MSK.DIRTN_DIRT_ON h))) ++
    bad (MSK.DIRTN_DIRT_OFF h) (decide (s.rdSh (MSK.DIRTN_DIRT_ON h) ≤ s.rdSh (MSK.DIRTN_DIRT_OFF h))) ++
    bad (MSK.POLICY_ACT h) ((List.range 8).any fun c => policyOf (s.rdSh (MSK.POLICY_ACT h)) (c + 1) == 3)

end Sys2Proof.Machine
end

