-- ==== Sys2Proof/Machine/Points.lean ====
section
/-! DEFINITION. The point builder (R156 to R171): point records, rings, frame-header records, and range images. -/

namespace Sys2Proof.Machine

/-! ## Records (R156 to R160) -/

/-- Bytes with their CHK byte appended (R159, R164). -/
def withChk (b : List Byte) : List Byte := b ++ [chkByte b]

/-- A point record (R156, R159). -/
def pointRecord (cell ret nret cls range intens width conf flags skim tick frame : Nat) : List Byte :=
  withChk (leBytes 4 (cell + ret * 2 ^ 20 + nret * 2 ^ 22 + cls * 2 ^ 24) ++ leBytes 4 (range + intens * 2 ^ 20) ++
    leBytes 4 (width + conf * 2 ^ 8 + flags * 2 ^ 16 + skim * 2 ^ 28) ++ leBytes 3 (tick + frame % 32768 * 2 ^ 9))

/-- FLAGS of a record (R157). -/
def flagsOf (sat wfm replay carry intf sun degr calage dirt twin edge : Bool) : Nat :=
  b2n sat + b2n wfm * 2 + b2n replay * 4 + b2n carry * 8 + b2n intf * 16 + b2n sun * 32 + b2n degr * 64 +
  b2n calage * 128 + b2n dirt * 256 + b2n twin * 512 + b2n edge * 1024

/-- The records of one measurement and the code of its pixel (R156 to R160, R167). -/
structure Written where
  recs  : List (List Byte)
  pixel : Nat
  degr  : Bool
  deriving DecidableEq, Repr

/-- The pixel code of a range (R167). -/
def pixelCode (range rmin shift : Nat) : Nat := 1 + min 253 ((range - rmin) / 2 ^ shift)

/-- The return a range image shows (R167). -/
def shownRet (sel : Nat) (l : List Ret) : Option Ret :=
  if sel = 0 then l.head? else if sel = 1 then l.getLast?
  else l.foldl (fun m r => match m with | none => some r | some x => if x.intens < r.intens then some r else some x) none

/-- PLACEHOLDER_RECORD and UNLIT_MEASUREMENT: the placeholder of a measurement (R48, R72, R160). -/
def Win.placeholder (w : Win) (row : Nat) : Written :=
  { recs := [pointRecord (cellNo w.head row w.col) 0 0 0 0 0 0 0 (flagsOf false false false false false false true false
      false w.twin false) 0 w.tick w.frame], pixel := 255, degr := true }

/-- The records of a worked measurement (R156 to R160). -/
def State.measRecords (s : State) (w : Win) (row : Nat) (replay : Bool) : Written :=
  let m := w.row row
  let cell := cellNo w.head row w.col
  let all := m.rets.getD []
  let l := all.filter fun r => !r.gone
  let skim := skimCode (m.skim.getD (0, 0)).1
  let degr := w.degr || m.degr || s.chanFailed (cell % 4)
  let flags (sat wfm edge : Bool) : Nat := flagsOf sat wfm replay m.carry (m.intf || m.lost != 0) m.sun degr
    (hasBit w.calage row || (wfm && hasBit w.wfmage row)) w.dirt w.twin edge
  let h := w.head
  match l with
  | [] =>
    { recs := if w.emptyEn then
        [pointRecord cell 0 0 0 0 0 0 255 (flags false false false) skim w.tick w.frame] else []
      pixel := 0, degr := degr && w.emptyEn }
  | _ =>
    { recs := l.zipIdx.map fun (r, i) =>
        pointRecord cell i (l.length - 1) r.cls r.range r.intens r.width r.conf (flags r.sat r.wfm r.edge) skim w.tick w.frame
      pixel := match shownRet (w.rd (PTB.IMG_CFG_SEL h)) l with
        | some r => pixelCode r.range (w.rd (PTB.IMG_CFG_RMIN h)) (w.rd (PTB.IMG_CFG_SHIFT h))
        | none => 0
      degr := degr }

/-! ## Rings (R161, R165, R236) -/

/-- The good channels in ascending order. -/
def goodChannels (fail : Nat) : List Nat := (List.range 4).filter fun c => !hasBit fail c

/-- Slots of a ring after failed channels are left out (R236). -/
def RingSt.slots (r : RingSt) : Nat := r.cap * (goodChannels r.fail).length / 4

/-- The address of entry `n`, of `size` bytes (R161, R236). -/
def RingSt.addr (r : RingSt) (size n : Nat) : Nat :=
  let good := goodChannels r.fail
  let per := 256 / size
  let k := n % max 1 r.slots
  let g := k / per
  r.base + (4 * (g / max 1 good.length) + good.getD (g % max 1 good.length) 0) * 256 + k % per * size

/-- The point ring of a head for measurements of tick `m` (R165). -/
def State.ringFor (s : State) (h : Head) (m : Nat) : RingSt :=
  if m < s.ptb.ring[h].start then s.ptb.old[h] else s.ptb.ring[h]

/-- The point ring of a head for measurements of tick `m` put. -/
def State.putRing (s : State) (h : Head) (m : Nat) (r : RingSt) : State :=
  if m < s.ptb.ring[h].start then
    let v := s.ptb.old.set h r
    { s with ptb.old := v }
  else
    let v := s.ptb.ring.set h r
    { s with ptb.ring := v }

/-- A frame's report changed: the frame in progress, or the one before it. -/
def State.frameInfo (s : State) (frame : Nat) (f : FrameInfo → FrameInfo) : State :=
  if s.ptb.cur.frame = frame then { s with ptb.cur := f s.ptb.cur }
  else if s.ptb.prev.frame = frame then { s with ptb.prev := f s.ptb.prev } else s

/-- One record written to its head's ring and counted (R161). -/
def State.writeRecord (s : State) (h : Head) (m frame : Nat) (b : List Byte) : State :=
  let r := s.ringFor h m
  let s := s.frameInfo frame fun i => { i with recs := i.recs.set h (i.recs[h] + 1) }
  if r.cap = 0 then s.satInc PTB.PTB_STAT_UNSET
  else (s.engineStore 1 8 (r.addr 16 r.cnt) b).putRing h m { r with cnt := r.cnt + 1 }

/-- The address of a cell's pixel from IMG_BASE (R166). -/
def pixelAt (base h row col coat : Nat) : Nat :=
  base * 2 ^ 22 + coat * 2 ^ 20 + h * 2 ^ 17 + (row / 8 * 32 + col / 32) * 256 + col % 32 * 8 + row % 8

/-- The address of a cell's pixel in the buffers in force (R166). -/
def State.pixelAddr (s : State) (h row col coat : Nat) : Nat := pixelAt (s.rd PTB.IMG_BASE_ADDR) h row col coat

/-- RANGE_IMAGE_PIXEL: a measurement's pixel written (R166). -/
def State.writePixel (s : State) (w : Win) (row code : Nat) : State :=
  s.engineStore 2 8 (pixelAt (w.rd PTB.IMG_BASE_ADDR) w.head row w.col (w.tick / 128)) [BitVec.ofNat 8 code]

/-- What a measurement yields, written: its records in RET order, and its pixel when `pixel` says so. A measurement made
in SHADOW yields no record (R330). -/
def State.writeMeas (s : State) (h : Head) (w : Win) (row : Nat) (x : Written) (pixel : Bool) : State :=
  if w.silent then (if pixel then s.writePixel w row x.pixel else s) else
  let s := State.each x.recs (fun b s => s.writeRecord h w.mtick w.frame b) s
  let s := { s with ptb.tap := s.ptb.tap ++ x.recs.map fun b => (h.val, w.mtick, w.window, b) }
  let s := if x.degr then s.frameInfo w.frame fun i => { i with degr := min 65535 (i.degr + 1) } else s
  if pixel then s.writePixel w row x.pixel else s

/-! ## The write of a tick (R162, R163) -/

/-- Whether group `g` of a window of the tick before has its ordinary records ready: its unit finished, neither dropped
nor marked for replay (R162). -/
def State.ready (s : State) (w : Win) (g : Nat) : Bool :=
  let u : WorkUnit := { head := w.head, window := w.window, group := g, mtick := w.mtick }
  !hasBit w.dropped g && !(s.scd.marks.any fun k => k.wu == u) && (w.lit == 0 || (s.unfinished u).isNone)

/-- The ordinary records of a window of the tick before (R162 step 1). The pixels of worked rows were written in their
PTB slots. -/
def State.writeOrdinary (s : State) (h : Head) (w : Win) : State :=
  let gs := (List.range 8).filter fun g => s.ready w g && !hasBit w.written g
  let s := State.each ((List.range 128).filter fun row => gs.contains (row / 16)) (fun row s =>
    if w.worked row then s.writeMeas h w row (s.measRecords w row false) false
    else s.writeMeas h w row (w.placeholder row) true) s
  { s with wins := s.wins.map fun x => if x.head = w.head ∧ x.window = w.window ∧ x.mtick = w.mtick then
      { x with written := gs.foldl setBit x.written } else x }

/-- The late records of a window: replayed records, and the placeholders of dropped units (R162 step 2). -/
def State.writeLate (s : State) (h : Head) (w : Win) : State :=
  let gs := (List.range 8).filter fun g => (hasBit w.dropped g || hasBit w.replay g) && !hasBit w.written g
  let s := State.each ((List.range 128).filter fun row => gs.contains (row / 16)) (fun row s =>
    if w.worked row && !hasBit w.dropped (row / 16) then s.writeMeas h w row (s.measRecords w row true) true
    else s.writeMeas h w row (w.placeholder row) true) s
  let d := (gs.filter fun g => hasBit w.dropped g).length
  let s := s.frameInfo w.frame fun i => { i with dropped := min 65535 (i.dropped + d)
                                                 replayed := min 65535 (i.replayed + (gs.length - d)) }
  { s with wins := s.wins.map fun x => if x.head = w.head ∧ x.window = w.window ∧ x.mtick = w.mtick then
      { x with written := gs.foldl setBit x.written } else x }

/-- WR_IDX and FH_WR_IDX at the end of the tick: the counts of the rings that served the measurements of two ticks
before (R163, R165). -/
def State.showIndices (s : State) : State :=
  let s := State.each (List.finRange 8) (fun h s =>
    s.wr (PTB.WR_IDX_IDX h.val) (if s.now < s.ptb.ring[h].start + 2 then s.ptb.old[h].cnt else s.ptb.ring[h].cnt)) s
  s.wr PTB.FH_WR_IDX_IDX (if s.now < s.ptb.fh.start + 2 then s.ptb.fhOld.cnt else s.ptb.fh.cnt)

/-- POINT_RECORD_WRITE: the records that the tick in progress writes, once in the tick (R162, R163). -/
def pointRecordWrite (s : State) : State :=
  if s.ptb.wroteAt = some s.now then s else
  let s := { s with ptb.wroteAt := some s.now }
  let s := State.each (List.finRange 8) (fun h s =>
    let mine := (s.wins.filter fun w => w.head == h.val).mergeSort fun a b =>
      decide (a.mtick < b.mtick) || (a.mtick == b.mtick && decide (a.window ≤ b.window))
    let s := State.each (mine.filter fun w => w.mtick + 1 == s.now) (fun w s => s.writeOrdinary h w) s
    State.each (mine.filter fun w => decide (w.mtick + 2 ≤ s.now)) (fun w s => s.writeLate h w) s) s
  s.showIndices

/-- The PTB slot of a unit: the pixels of its measurements (R166, R167); a unit marked for replay writes none. -/
def State.ptbUnit (s : State) (u : WorkUnit) : State :=
  match s.winOf u with
  | none => s
  | some w =>
    if s.scd.marks.any fun k => k.wu == u then s else
    State.each (((List.range 16).map (16 * u.group + ·)).filter w.worked) (fun row s =>
      s.writePixel w row (s.measRecords w row false).pixel) s

/-! ## Frame headers (R164) -/

/-- The 64 bytes of a frame-header record (R164). -/
def FrameInfo.bytes (f : FrameInfo) : List Byte :=
  withChk (leBytes 4 (f.frame % 32768 + f.epoch % 65536 * 2 ^ 16) ++
    leBytes 4 (f.domain + f.heads * 2 ^ 14 + f.coats * 2 ^ 22 + f.step * 2 ^ 25 + b2n f.twin * 2 ^ 27 +
      b2n f.untrusted * 2 ^ 28) ++
    leBytes 8 f.ts ++ leBytes 4 f.imgSeq ++ leBytes 4 (f.keyCheck % 65536 + f.contract * 2 ^ 16) ++
    (f.recs.toList.flatMap (leBytes 4)) ++ leBytes 2 f.replayed ++ leBytes 2 f.dropped ++ leBytes 2 f.degr ++ zeros 1)

/-- The ring of the frame headers put, or the one before it. -/
def State.putHeaderRing (s : State) (old : Bool) (r : RingSt) : State :=
  if old then { s with ptb.fhOld := r } else { s with ptb.fh := r }

/-- The frame header of the frame before, with the FH interrupt and, where it was written, vector 2; it goes to the ring of the
tick with number `m`, the frame's own (R164, R165, R351). -/
def State.writeHeader (s : State) (m : Nat) : State :=
  let old := decide (m < s.ptb.fh.start)
  let r := if old then s.ptb.fhOld else s.ptb.fh
  let s := if r.cap = 0 then s else
    ((s.engineStore 1 8 (r.addr 64 r.cnt) s.ptb.prev.bytes).putHeaderRing old { r with cnt := r.cnt + 1 }).signal 2
  (s.irq .ptb 1).showIndices

/-- IMAGE_READY: at the end of tick 1 of a coat the image of the coat before is complete, where it measured anything
(R168). -/
def imageReady (s : State) : State :=
  if s.step128 = 1 ∧ s.ptb.imageAt ≠ some s.now ∧ s.ptb.coatMeasPrev ≠ 0 then
    let c := (s.coat + 3) % 4
    let heads := (List.range 8).filter (hasBit s.ptb.coatMeasPrev)
    let m := heads.foldl (fun m h => Sparse.put m h c) s.ptb.imgCoat
    let s := { s with ptb.imageAt := some s.now, ptb.imgCoat := m }
    ((s.wr PTB.IMG_STAT_READY c).wrapInc PTB.IMG_SEQ_SEQ).irq .ptb 0
  else s

/-- IMAGE_READY (R168). -/
def execImageReady (s : State) : Host.Outcome State Fault Refusal := live s (imageReady s)

/-- The rings taken anew at a frame boundary where their registers or the failed channels have changed: indices restart
at 0, and the ring before stays in use for the records of the frame before (R165, R236). -/
def State.switchRings (s : State) : State :=
  let fail := s.rd LTH.MEM_SIZE_FAILED
  let s := State.each (List.finRange 8) (fun h s =>
    let base := s.rd (PTB.RING_BASE_ADDR h.val) * 65536
    let cap := s.rd (PTB.RING_SIZE_SIZE h.val) * 4096
    let r := s.ptb.ring[h]
    if r.base = base ∧ r.cap = cap ∧ r.fail = fail then s else
      let o := s.ptb.old.set h r
      let n := s.ptb.ring.set h { base := base, cap := cap, fail := fail, start := s.now }
      { s with ptb.old := o, ptb.ring := n }) s
  let base := s.rd PTB.FH_BASE_ADDR * 65536
  let cap := s.rd PTB.FH_SIZE_SIZE * 1024
  if s.ptb.fh.base = base ∧ s.ptb.fh.cap = cap ∧ s.ptb.fh.fail = fail then s else
    { s with ptb.fhOld := s.ptb.fh, ptb.fh := { base := base, cap := cap, fail := fail, start := s.now } }

/-- The rings given up at once by a reset that returns their registers to 0 (R444). -/
def State.dropRings (s : State) : State :=
  { s with ptb.ring := Vector.replicate 8 {}, ptb.old := Vector.replicate 8 {}, ptb.fh := {}, ptb.fhOld := {} }

/-- The broken rules of a commit of PTB (R165, R171). -/
def ptbCheck (s : State) : List (Nat × Nat) :=
  let ring (base size : Fld) : List (Nat × Nat) :=
    (if s.rdSh size = 0 ∧ s.rd size ≠ 0 then [(CFG_ZERO, size.word)] else []) ++
    (if s.rdSh size ≠ 0 ∧ s.memSize < (s.rdSh base + s.rdSh size) * 65536 then [(CFG_RANGE, base.word)] else [])
  ((List.range 8).flatMap fun h => ring (PTB.RING_BASE_ADDR h) (PTB.RING_SIZE_SIZE h)) ++ ring PTB.FH_BASE_ADDR PTB.FH_SIZE_SIZE ++
  (List.range 8).flatMap fun h =>
    (if s.rdSh (PTB.IMG_CFG_SEL h) = 3 then [(CFG_RANGE, (PTB.IMG_CFG_SEL h).word)] else []) ++
    (if 12 < s.rdSh (PTB.IMG_CFG_SHIFT h) then [(CFG_RANGE, (PTB.IMG_CFG_SHIFT h).word)] else [])

end Sys2Proof.Machine
end

