-- ==== Sys2Proof/Machine/Waveform.lean ====
section
/-! DEFINITION. The waveform lanes (R195 to R217): slice factors, the regular and injected sequences, the planner, and captures. -/

namespace Sys2Proof.Machine

/-- What a lane group holds. -/
def State.wflOf (s : State) (h : Head) : WflSt := s.wfl[h]

/-- A lane group's state put. -/
def State.putWfl (s : State) (h : Head) (w : WflSt) : State := { s with wfl := s.wfl.set h w }

/-! ## Slice factors (R194 to R198) -/

/-- Whether one slice factor lies in its range: offset ±32 codes in 1/16 code, gain 0.90 to 1.10 in Q1.15, skew ±20 ps in
0.05 ps (R195). -/
def facGood (item : Nat) (v : Int) : Bool :=
  if item = 0 then decide (v.natAbs ≤ 512) else if item = 1 then decide (29492 ≤ v) && decide (v ≤ 36044)
  else decide (v.natAbs ≤ 400)

/-- Whether all 24 factors of a lane lie in their ranges. -/
def facsGood (l : List Int) : Bool := l.length == 24 && l.zipIdx.all fun (v, i) => facGood (i % 3) v

/-- Whether a lane's foreground result is accepted: factors in range and a residual spur of −55 dBc or lower (R196). -/
def laneGood (r : LaneResult) : Bool := facsGood r.facs && decide (55 ≤ r.spur)

/-- GSTAT.UNCAL after a change of the accepted lanes (R197). -/
def State.showUncal (s : State) (h : Head) : State := s.wrB (WFL.GSTAT_UNCAL h.val) ((s.wflOf h).good != 255)

/-- The results of a foreground run taken: accepted lanes get their factors and lose a failure (R196, R198). -/
def State.takeLanes (s : State) (h : Head) (rs : List LaneResult) : State :=
  let ok := (rs.zipIdx.filter fun (r, i) => laneGood r && decide (i < 8))
  let w := ok.foldl (fun (w : WflSt) (r, i) =>
    if hi : i < 8 then { w with facs := w.facs.set i r.facs, good := setBit w.good i, out := w.out.set i 0 } else w) (s.wflOf h)
  let w := if ok.any fun x => x.2 == s.rd (WFL.HOLD_LANE h.val) then { w with heldFrom := s.now * tickSmp } else w
  let s := (s.putWfl h w).showUncal h
  s.wr (WFL.GSTAT_LANE_FAIL h.val) (ok.foldl (fun m x => clrBit m x.2) (s.rd (WFL.GSTAT_LANE_FAIL h.val)))

/-- A factor moved one eighth of the way toward its estimate, by at most the step of its kind: 1/4 code, 0.1 %, 0.05 ps
(R198; log entry 28). -/
def trackStep (item : Nat) (old est : Int) : Int :=
  let m : Int := if item = 0 then 4 else if item = 1 then 32 else 1
  old + clampI (-m) m (divNearI (est - old) 8)

/-- A code entered in its slice's sums, with its product with the next slice's code where that is usable too (R198). -/
def SliceSum.add (a : SliceSum) (x : Nat) (next : Option Nat) : SliceSum :=
  { n := a.n + 1, sum := a.sum + x, sq := a.sq + x * x
    pairs := a.pairs + b2n next.isSome, prod := a.prod + x * next.getD 0 }

/-- The captured input samples with VALID and without OVR (R194, R198, R211). -/
def Capt.sound (c : Capt) (n : Int) : Bool :=
  decide ((c.sw : Int) + c.taps + 12 ≤ n) && decide (n ≤ c.newest c.last) && decide (n < winSmp) &&
  (c.spoil.all fun k => decide (n < (k : Int))) && !c.over n

/-- A capture entered in its lane's sums (R198). -/
def Capt.sums (c : Capt) (sums : List (Nat × SliceSum)) : List (Nat × SliceSum) :=
  let span := ((List.range winSmp).map fun (i : Nat) => (i : Int)).filter c.sound
  span.foldl (fun l n =>
    let key := 8 * c.lane + (n % 8).toNat
    let next := if c.sound (n + 1) then some (c.code (n + 1)).toNat else none
    Sparse.put l key ((Sparse.get l key {}).add (c.code n).toNat next)) sums

/-- The captures of the tick that ends entered in the sums of the groups that track in the background (R198). -/
def State.trackSums (s : State) : State :=
  State.each (List.finRange 8) (fun h s =>
    if !s.on (WFL.GCFG_BG_EN h.val) then s else
    let cs := (s.wins.filter fun w => w.head == h.val && w.mtick == s.now).flatMap fun w => w.rows.toList.flatMap MeasRow.capts
    if cs = [] then s else s.putWfl h { s.wflOf h with sums := cs.foldl (fun l c => c.sums l) (s.wflOf h).sums }) s

/-- The sums of a lane, slice by slice, as the estimator takes them; none where the lane took no usable sample (R198). -/
def WflSt.laneSums (w : WflSt) (lane : Nat) : Option (List (List Nat)) :=
  let l := (List.range 8).map fun i => Sparse.get w.sums (8 * lane + i) {}
  if l.all fun a => a.n == 0 then none else some (l.map fun a => [a.n, a.sum, a.sq, a.pairs, a.prod])

/-- The fields that shape the outputs of a head's held lane (R211). -/
def State.heldSettings (s : State) (h : Head) : List Fld :=
  let k := h.val
  let i := s.rd (WFL.HOLD_LANE k)
  [WFL.FILT_BANK k i, WFL.FILT_IN_SHIFT k i, WFL.FILT_FIR_SHIFT k i, WFL.FILT_RS_SHIFT k i, WFL.FILT_RS_EN k i] ++
  (List.range 2).flatMap fun n => [WFL.CUST_CFG_TAPS k n, WFL.CUST_CFG_DCODE k n, WFL.CUST_CFG_GD k n]

/-- The held lane of a head settles from an input sample on, counted since the tick generator started (R211, R214). -/
def State.settleHeld (s : State) (h : Head) (sample : Nat) : State := s.putWfl h { s.wflOf h with heldFrom := sample }

/-- BG_MISMATCH_UPDATE: the tracked factors of one lane at a coat boundary (R198). -/
def State.trackLane (s : State) (h : Head) (lane : Fin 8) : State :=
  let w := s.wflOf h
  match if hasBit w.good lane.val then w.laneSums lane.val else none with
  | none => s
  | some sums =>
    let est := Config.laneEstimate sums
    let new := w.facs[lane].zipIdx.map fun (v, i) => trackStep (i % 3) v (est.getD i v)
    let n := if facsGood est then 0 else w.out[lane] + 1
    let s := s.putWfl h { w with facs := w.facs.set lane new, out := w.out.set lane n }
    let s := if s.rd (WFL.HOLD_LANE h.val) = lane.val then s.settleHeld h (s.now * tickSmp) else s
    if n = 4 ∧ !hasBit (s.rd (WFL.GSTAT_LANE_FAIL h.val)) lane.val then
      let s := (s.bitPut (WFL.GSTAT_LANE_FAIL h.val) lane.val true).irq (.wfl h) 2
      s.eventFull (.wfl h) 2 0 [] [s.word (.wfl h) (0xB0048 + 0x1000 * h.val)] true
    else s

/-- Background tracking of a group at a coat boundary, with the worst spur it found; the sums start anew (R198). -/
def State.track (s : State) (h : Head) : State :=
  let spurs := (List.finRange 8).filterMap fun lane =>
    if hasBit (s.wflOf h).good lane.val then ((s.wflOf h).laneSums lane.val).map fun x => (Config.laneSpur x, lane.val) else none
  let t := if s.on (WFL.GCFG_BG_EN h.val) then State.each (List.finRange 8) (fun lane s => s.trackLane h lane) s else s
  let t := t.putWfl h { t.wflOf h with sums := [] }
  match if s.on (WFL.GCFG_BG_EN h.val) then spurs else [] with
  | [] => t
  | x :: r =>
    let worst := r.foldl (fun (a b : Nat × Nat) => if b.1 < a.1 then b else a) x
    (t.wr (WFL.MISM_STAT_RESID h.val) worst.1).wr (WFL.MISM_STAT_LANE h.val) worst.2

/-! ## Foreground runs (R195) -/

/-- WFL_CAL_GO: a foreground run of the group is asked for (R195). -/
def wflCalGo (h : Head) (ns : Nat) (s : State) : State :=
  let w := s.wflOf h
  if w.run.isSome then s else s.putWfl h { w with pend := some (w.pend.getD (s.nextTick ns)) }

/-- WFL_CAL_GO (R195). -/
def execWflCalGo (h : Head) (ns : Fin 100000) (s : State) : Host.Outcome State Fault Refusal :=
  onPage (.wfl h) s (wflCalGo h ns.val s)

/-- Whether a head measures: it is present and measurement runs. -/
def State.headMeasures (s : State) (h : Head) : Bool := s.scd.measuring && s.present h.val

/-- WFL_CAL_START: at a tick boundary the run asked for begins; while the head measures, only under an image with
CAL_SHARE above 0, and it waits otherwise with CAL_PEND set (R195). -/
def wflCalStart (h : Head) (s : State) : State :=
  let w := s.wflOf h
  match w.pend, w.run with
  | some n, none =>
    if s.now < n then s
    else if s.headMeasures h && s.rd SCD.RUN_INFO_CAL_SHARE == 0 then s.wr (WFL.GSTAT_CAL_PEND h.val) 1
    else ((s.putWfl h { w with pend := none, run := some s.now }).wr (WFL.GSTAT_CAL_PEND h.val) 0).wr (WFL.GSTAT_CAL_BUSY h.val) 1
  | _, _ => s

/-! ## Filter settings (R209) -/

/-- D, taps and group delay in 1/64 input sample of a bank (R209, R210). -/
def State.bankOf (s : State) (h b : Nat) : Nat × Nat × Nat :=
  match b with
  | 0 => (1, 64, 2016)
  | 1 => (4, 192, 6112)
  | 2 => (16, 384, 12256)
  | n + 3 => (2 ^ s.rd (WFL.CUST_CFG_DCODE h n), s.rd (WFL.CUST_CFG_TAPS h n), s.rd (WFL.CUST_CFG_GD h n))

/-- The key of a custom coefficient: head, bank 3 or 4, tap (R209). -/
def coefKey (h bank k : Nat) : Nat := (h * 2 + (bank - 3)) * 512 + k

/-- A custom coefficient (R209; log entry 22). -/
def Tabs.custom (t : Tabs) (h bank k : Nat) : Int :=
  Sparse.get t.coef (coefKey h bank k) (Config.nominal 1 (coefKey h bank k))

/-- A capture of a row by a lane, with its settings (R199, R200, R208 to R210). -/
def State.captOf (s : State) (h : Head) (lane row : Nat) (inj : Bool) (o7 : Nat) (input : List Sample) : Capt :=
  let k := h.val
  let b := s.rd (WFL.FILT_BANK k lane)
  let (d, taps, gd) := s.bankOf k b
  { lane := lane, inj := inj, d := d, taps := taps, bank := b, inSh := s.rd (WFL.FILT_IN_SHIFT k lane)
    firSh := s.rd (WFL.FILT_FIR_SHIFT k lane), rsSh := s.rd (WFL.FILT_RS_SHIFT k lane), rsEn := s.on (WFL.FILT_RS_EN k lane)
    gd := gd, skew := Sparse.get s.tabs.skew (k * 128 + row) 0, line := row / 4
    facs := (s.wflOf h).facs.toList.getD lane []
    coefs := if b < 3 then [] else (List.range taps).map fun i => s.tabs.custom k b i
    fs := gainScale (s.rd (RFE.GAIN_G k (row / 16)))
    sw := switchAt (row / 4) taps, last := ((o7 + 4160) * 4 : Nat) / (d : Int) - 1, spoil := none, input := input }

/-! ## Which lanes capture (R202, R203, R214) -/

/-- Whether a lane is held (R214). -/
def State.laneHeld (s : State) (h lane : Nat) : Bool := s.on (WFL.HOLD_EN h) && s.rd (WFL.HOLD_LANE h) == lane

/-- Whether a lane may capture: enabled, with an accepted result, not failed, not held (R202). -/
def State.laneUsable (s : State) (h : Head) (lane : Nat) : Bool :=
  hasBit (s.rd (WFL.LANE_EN_EN h.val)) lane && hasBit (s.wflOf h).good lane &&
  !hasBit (s.rd (WFL.GSTAT_LANE_FAIL h.val)) lane && !s.laneHeld h.val lane

/-- The row of a lane's regular sequence in window `j` of tick `t` of the frame (R203). -/
def State.regularRow (s : State) (h lane t j : Nat) : Nat :=
  (s.rd (WFL.SEQ_BASE h lane) + s.rd (WFL.SEQ_STRIDE h lane) * (8 * t + j)) % 128

/-- The lanes with an ordinary entry in a window of the tick with number `n` (R203). -/
def State.ordinaryLanes (s : State) (h n j : Nat) : List Nat :=
  (((partSlots (s.partFor h n) (s.tableFor h n n) 2).filter fun e => e.kind == 0 && e.window == j).map Slot.group).eraseDups

/-- Whether a row's channel is enabled (R92). -/
def State.chanOn (s : State) (h row : Nat) : Bool := hasBit (s.rd (RFE.CH_EN_EN h (row / 32))) (row % 32)

/-- Whether the group makes captures at all: no foreground run, and its sequencer has a working lane (R195, R213). -/
def State.groupOn (s : State) (h : Head) : Bool := (s.wflOf h).run.isNone && !s.laneLost 2 h.val

/-- Throttle step 2 or 3 in force: only captures for Dust Sheet and the host (R213). -/
def State.throttled (s : State) : Bool := s.hkp.plain

/-- The captures of a head's window in the tick in progress: lane, row, injected (R202, R206, R213). -/
def State.captures (s : State) (h : Head) (j : Nat) : List (Nat × Nat × Bool) :=
  if !s.groupOn h then [] else
  let plan := (s.wflOf h).plan.filter fun p => p.tick == s.now && p.window == j
  let injs := plan.filter PlanEnt.inj
  let regs := (s.ordinaryLanes h.val s.now j).filter fun l => !injs.any fun p => p.lane == l
  let regs := regs.filter fun l => !s.throttled || plan.any fun p => p.lane == l && !p.inj && p.must
  ((regs.map fun l => (l, s.regularRow h.val l s.tick j, false)) ++
    ((injs.filter fun p => p.must || !s.throttled).map fun p => (p.lane, p.row, true))).filter fun (l, row, _) =>
      s.laneUsable h l && s.chanOn h.val row

/-- CAPTURE: the captures of a window attached to its measurements; a settings switch at its end spoils the rest of each (R91,
R199, R211). `tap` gives the analog tap of a row. -/
def State.capture (s : State) (h : Head) (w : Win) (tap : Nat → List Sample) : Win :=
  let o7 := (w.offs.getD []).getD 7 0
  let spoilt (c : Capt) : Capt := if s.rfeSwitches h && w.window == 7 then c.cut 63936 else c
  (s.captures h w.window).foldl (fun w (l, row, inj) =>
    w.upd row fun m => { m with capts := m.capts ++ [spoilt (s.captOf h l row inj o7 (tap row))] }) w

/-- The end of a capture, in input samples after W (R199). -/
def Capt.ends (c : Capt) : Nat := min winSmp ((2048 * (c.line : Int) + 10 * (c.last + 1) * c.d) / 10).toNat

/-- The lanes of a group at the start of a window: the multiplexer of each that captures goes to its channel; one that captures
nothing in the window, or whose next switch lies 1.0 µs or more after its last capture, powers down (R200, R201). -/
def State.powerLanes (s : State) (h : Head) (w : Win) : State :=
  let w0 := s.now * tickSmp + w.window * winSmp
  let caps := (List.range 128).flatMap fun row => (w.row row).capts.map fun c => (row, c)
  s.putWfl h ((List.finRange 8).foldl (fun (g : WflSt) (lane : Fin 8) =>
    match caps.find? fun x => x.2.lane == lane.val with
    | none => { g with power := clrBit g.power lane.val }
    | some (row, c) =>
      let down := decide (w0 < g.ended[lane] + winSmp) && decide (g.ended[lane] + 5120 ≤ w0 + c.sw)
      { g with power := if down then clrBit g.power lane.val else g.power
               mux := g.mux.set lane row, ended := g.ended.set lane (w0 + c.ends) }) (s.wflOf h))

/-! ## Requests (R204, R205) -/

/-- A request lost or unserved (R205). -/
def State.unserved (s : State) (h : Head) : State := s.satInc (WFL.INJ_UNSERVED_COUNT h.val)

/-- AMBIG_REQUEST: an AMBIG peak asks for a capture of the cell's next measurement (R204, R205). -/
def State.ambigRequest (s : State) (h : Head) (row window m : Nat) : State :=
  let s := s.satInc (WFL.URG_CNT1_AMBIG h.val)
  let w := s.wflOf h
  let pos := 8 * (s.tickOf m % 128) + window
  let live := w.ambig.filter fun x => decide (s.now < x.2.2)
  if 4 ≤ (live.filter fun x => x.1 == pos && x.2.2 == m + 128).length then ((s.irq (.wfl h) 3).unserved h)
  else s.putWfl h { w with ambig := live ++ [(pos, row, m + 128)] }

/-- A request of Dust Sheet for a capture (R204, R205). -/
def State.dstRequest (s : State) (h : Head) (row : Nat) (col : Option Nat) (ns : Nat) : State :=
  let s := s.satInc (WFL.URG_CNT0_DST h.val)
  let w := s.wflOf h
  if 4 ≤ w.dst.length then ((s.irq (.wfl h) 3).unserved h)
  else s.putWfl h { w with dst := w.dst ++ [{ row := row, col := col, tick := s.now, ns := ns }] }

/-- HREQ: a write of the request register with GO; while a request is outstanding the new one is counted and lost (R204, R205,
R217). -/
def hreqWrite (h : Head) (row col : Nat) (any : Bool) (count ns : Nat) (s : State) : State :=
  let k := h.val
  let s := (((s.wr (WFL.HREQ_ROW k) row).wr (WFL.HREQ_COL k) col).wrB (WFL.HREQ_ANYCOL k) any).wr (WFL.HREQ_COUNT k) count
  let w := (WFL.HREQ_GO k).word
  if count % 256 = 0 then s.errCode (.wfl h) CFG_ZERO w
  else if s.on (WFL.HREQ_BUSY k) then
    (((s.satInc (WFL.URG_CNT0_HOST k)).irq (.wfl h) 3).unserved h).errCode (.wfl h) CFG_BUSY w
  else
    let r : CapReq := { row := row % 128, col := if any then none else some (col % 1024), tick := s.now, ns := ns }
    ((s.satInc (WFL.URG_CNT0_HOST k)).wr (WFL.HREQ_BUSY k) 1).putWfl h { s.wflOf h with host := some (r, count % 256) }

/-- HREQ (R204). -/
def execHreq (h : Head) (row : Fin 128) (col : Fin 1024) (any : Bool) (count : Fin 256) (ns : Fin 100000) (s : State) :
    Host.Outcome State Fault Refusal := onPage (.wfl h) s (hreqWrite h row.val col.val any count.val ns.val s)

/-! ## The planner (R206, R207) -/

/-- Whether a request arrived in time to take part in the plan made at 87.5 µs of the tick in progress (R206). -/
def State.inTime (s : State) (r : CapReq) : Bool := decide (r.tick < s.now) || decide (r.ns ≤ 86500)

/-- The rows whose prefetched contexts carry CAPREQ in a window of the tick with number `n` (R181, R206). -/
def State.capreqRows (s : State) (h n j : Nat) : List Nat :=
  (List.range 128).filter fun row =>
    let u : WorkUnit := { head := h, window := j, group := row / 16, mtick := n }
    s.lth.cache.any (fun x => x.wu == u) &&
    let src := s.sourceImage n (s.ctxOf u (row % 16))
    imgValid src && hasBit (u8 src 11) 4

/-- Whether a foreground run of the group is in progress in the tick with number `n`: one that has begun and not ended by
then, or one that its boundary starts (R195). -/
def State.runInTick (s : State) (h : Head) (n : Nat) : Bool :=
  match (s.wflOf h).run, (s.wflOf h).pend with
  | some r, _ => decide (n < r + 16)
  | none, some p => decide (p ≤ n) && !(s.headMeasures h && s.rd SCD.RUN_INFO_CAL_SHARE == 0) && !s.on CAL.FAULT_STAT_HALTED
  | none, none => false

/-- Whether requests of a source are served: ZC-3, KIND 2 entries in the head's partition, the source enabled, no foreground
run, a sequencer with a working lane, and no throttle for the canopy and ambiguity sources (R195, R204, R213). -/
def State.servesSource (s : State) (h : Head) (n src : Nat) : Bool :=
  hdrContract s.scd.runHdr == 3 && (partAllSlots (s.partFor h.val n)).any (fun e => e.kind == 2) &&
  hasBit (s.rd (WFL.GCFG_SRC_EN h.val)) src && !s.runInTick h n && !s.laneLost 2 h.val && !(s.throttled && decide (2 ≤ src))

/-- Where the plan of a window stands: injections made, whether each request was served. -/
structure Plan where
  ents : List PlanEnt := []
  injs : Nat := 0
  served : Nat := 0
  lost : Nat := 0
  deriving DecidableEq, Repr

/-- One request worked in by the planner (R206 steps 1 to 3); a lane whose ordinary capture serves a request counts as taken
(DEDUCED, log entry 174). -/
def State.planOne (s : State) (h : Head) (n j : Nat) (p : Plan) (src row : Nat) : Plan :=
  let usable (l : Nat) : Bool := s.laneUsable h l
  let ord := (s.ordinaryLanes h.val n j).filter usable
  let taken (l : Nat) : Bool := p.ents.any fun e => e.inj && e.lane == l
  let must := decide (src ≤ 1)
  let lose : Plan := { p with lost := p.lost + 1 }
  if !s.servesSource h n src || !s.chanOn h.val row then lose else
  match p.ents.find? (fun e => e.inj && e.row == row),
        ord.find? (fun l => !taken l && s.regularRow h.val l (s.tickOf n) j == row) with
  | some e, _ =>
    { p with served := p.served + 1
             ents := p.ents.map fun x => if x = e then { x with must := x.must || must, dst := x.dst || src == 0 } else x }
  | none, some l =>
    { p with served := p.served + 1
             ents := p.ents ++ [{ tick := n, window := j, lane := l, row := row, inj := false, must := must }] }
  | none, none =>
    if s.rd (WFL.GCFG_INJ_MAX h.val) ≤ p.injs then lose else
    let free := (List.range 8).find? fun l => usable l && !(s.ordinaryLanes h.val n j).contains l && !taken l
    let pre := ((List.range 8).reverse.find? fun l => ord.contains l && !taken l &&
      !p.ents.any fun e => !e.inj && e.lane == l)
    match free, pre with
    | some l, _ | none, some l =>
      { p with served := p.served + 1, injs := p.injs + 1
               ents := p.ents ++ [{ tick := n, window := j, lane := l, row := row, inj := true, must := must, dst := src == 0 }] }
    | none, none => lose

/-- The plan of one window: every request for its cells, those whose row is captured anyway and then the others, by source
and by row (R206). -/
def State.planWindow (s : State) (h : Head) (n j : Nat) : State :=
  let w := s.wflOf h
  let col := 8 * (s.tickOf n % 128) + emitterColumn j
  let pos := 8 * (s.tickOf n % 128) + j
  let hits (r : CapReq) : Bool := s.inTime r && (r.col == none || r.col == some col)
  let dst := w.dst.filter hits
  let host := match w.host with | some (r, _) => if hits r then [r.row] else [] | none => []
  let ambig := w.ambig.filter fun x => x.1 == pos && x.2.2 == n
  let can := s.capreqRows h.val n j
  let asc (l : List Nat) := l.mergeSort (· ≤ ·)
  let reqs := ((asc (dst.map CapReq.row)).map fun r => (0, r)) ++ (host.map fun r => (1, r)) ++
    ((asc (ambig.map fun x => x.2.1)).map fun r => (2, r)) ++ ((asc can).map fun r => (3, r))
  let plain (row : Nat) : Bool :=
    (s.ordinaryLanes h.val n j).any fun l => s.laneUsable h l && s.regularRow h.val l (s.tickOf n) j == row
  let reqs := reqs.filter (fun x => plain x.2) ++ reqs.filter fun x => !plain x.2
  let p := reqs.foldl (fun p (src, row) => s.planOne h n j p src row) {}
  let w := { w with dst := w.dst.filter (fun r => !hits r), plan := w.plan ++ p.ents
                    ambig := w.ambig.filter fun x => !(x.1 == pos && x.2.2 == n)
                    host := match w.host with
                      | some (r, k) => if host.isEmpty then some (r, k) else if k ≤ 1 then none else some (r, k - 1)
                      | none => none }
  let s := s.putWfl h w
  let s := if w.host.isNone then s.wr (WFL.HREQ_BUSY h.val) 0 else s
  let s := s.satAdd (WFL.URG_CNT1_CANOPY h.val) can.length
  (s.satAdd (WFL.INJ_SERVED_COUNT h.val) p.served).satAdd (WFL.INJ_UNSERVED_COUNT h.val) p.lost

/-- Requests for a head that is absent, discarded unserved (R207). -/
def State.discardRequests (s : State) (h : Head) : State :=
  let w := s.wflOf h
  let n := w.dst.length + (match w.host with | some (_, k) => k | none => 0) + w.ambig.length
  ((s.putWfl h { w with dst := [], host := none, ambig := [] }).wr (WFL.HREQ_BUSY h.val) 0).satAdd (WFL.INJ_UNSERVED_COUNT h.val) n

/-- Ambiguity requests whose measurement the tick with number `n` or one before it would have made, and did not: discarded
and counted unserved (R205, R207). -/
def State.dropPassed (s : State) (h : Head) (n : Nat) : State :=
  let w := s.wflOf h
  let past (x : Nat × Nat × Nat) : Bool := decide (x.2.2 ≤ n)
  (s.putWfl h { w with ambig := w.ambig.filter fun x => !past x }).satAdd (WFL.INJ_UNSERVED_COUNT h.val)
    (w.ambig.filter past).length

/-- CAPTURE_PLAN: 12.5 µs before a tick the planner plans its 8 windows for a head, once (R206). -/
def capturePlan (h : Head) (s : State) : State :=
  let n := s.now + 1
  let w := s.wflOf h
  if w.planned = some n then s else
  let s := s.putWfl h { w with planned := some n, plan := w.plan.filter fun p => decide (s.now ≤ p.tick) }
  if !s.present h.val && !hasBit (s.joinsAt n) h.val then s.discardRequests h else
  (State.each ((List.range 8).filter fun j => s.measuredNext h.val j) (fun j s => s.planWindow h n j) s).dropPassed h n

/-- CAPTURE_PLAN (R206). -/
def execCapturePlan (h : Head) (s : State) : Host.Outcome State Fault Refusal := live s (capturePlan h s)

/-! ## Power, parity and synchronisation (R201, R213, R215) -/

/-- LANE_POWER_UP: a lane of a group that captures starts up, so that it is ready at its next switch (R201). -/
def lanePowerUp (h : Head) (lane : Fin 8) (s : State) : State :=
  if s.groupOn h && s.laneUsable h lane.val then s.putWfl h { s.wflOf h with power := setBit (s.wflOf h).power lane.val } else s

/-- LANE_POWER_UP (R201). -/
def execLanePowerUp (h : Head) (lane : Fin 8) (s : State) : Host.Outcome State Fault Refusal := live s (lanePowerUp h lane s)

/-- LANE_PARITY_ERROR: a capture is withdrawn from the erring sample on. An error in the sequencer entry counts toward
the lane's fault declaration (R213). -/
def laneParityError (h : Head) (lane : Nat) (window sample : Nat) (sequencer : Bool) (s : State) : State :=
  let cut (c : Capt) : Capt := if c.lane = lane then c.cut sample else c
  let row (m : MeasRow) : MeasRow := { m with capts := m.capts.map cut }
  let s := { s with wins := s.wins.map fun (w : Win) =>
    if w.head = h.val ∧ w.window = window ∧ w.mtick = s.now then { w with rows := w.rows.map row } else w }
  let s := (s.satInc (WFL.PAR_CNT_COUNT h.val)).irq (.wfl h) 4
  if sequencer then
    let again := s.scd.errsPrev.any fun x => x.1 == 2 && x.2.1 == h.val
    let s := { s with scd := { s.scd with errs := s.scd.errs ++
      [(2, h.val, { head := h.val, window := window, group := 0, mtick := s.now })] } }
    if again then s.laneFail 2 h.val else s
  else s

/-- LANE_PARITY_ERROR (R213). -/
def execLaneParityError (h : Head) (lane window : Fin 8) (sample : Nat) (sequencer : Bool) (s : State) :
    Host.Outcome State Fault Refusal := live s (laneParityError h lane.val window.val sample sequencer s)

/-- Held lanes' decimation counters reset to phase 0, and the edge counted (R215). -/
def State.syncLanes (s : State) (edges : Nat) : State :=
  State.each (List.finRange 8) (fun h s =>
    (s.putWfl h { s.wflOf h with heldCnt := 0, heldFrom := s.now * tickSmp }).wr (WFL.GSTAT_SYNC_CNT h.val) (s.rd (WFL.GSTAT_SYNC_CNT h.val) + edges)) s

/-! ## Checks of a commit (R217) -/

/-- Whether TAPS suits D: a multiple of 4 from 4 up to the limit of R209. -/
def tapsGood (taps d : Nat) : Bool := taps % 4 == 0 && decide (taps * min d 4 ≤ 192 * min d 8) && decide (taps ≤ 384)

/-- The broken rules of a commit of `WFL[h]` (R217). -/
def wflCheck (h : Head) (s : State) : List (Nat × Nat) :=
  let k := h.val
  let bad (f : Fld) (b : Bool) : List (Nat × Nat) := if b then [(CFG_RANGE, f.word)] else []
  bad (WFL.GCFG_INJ_MAX k) (decide (4 < s.rdSh (WFL.GCFG_INJ_MAX k))) ++
  ((List.range 8).flatMap fun i =>
    bad (WFL.FILT_BANK k i) (decide (4 < s.rdSh (WFL.FILT_BANK k i))) ++
    bad (WFL.FILT_IN_SHIFT k i) (decide (4 < s.rdSh (WFL.FILT_IN_SHIFT k i)))) ++
  bad (WFL.HOLD_EN k) (s.rdSh (WFL.HOLD_EN k) == 1 && !hasBit (s.rdSh (WFL.LANE_EN_EN k)) (s.rdSh (WFL.HOLD_LANE k))) ++
  (List.range 2).flatMap fun n =>
    let taps := s.rdSh (WFL.CUST_CFG_TAPS k n)
    let f := WFL.CUST_CFG_TAPS k n
    let used := (List.range 8).any fun i => s.rdSh (WFL.FILT_BANK k i) == 3 + n
    (if taps = 0 ∧ used then [(CFG_ZERO, f.word)] else []) ++
    bad f (decide (4 < s.rdSh (WFL.CUST_CFG_DCODE k n))) ++
    bad f (taps != 0 && !tapsGood taps (2 ^ min 4 (s.rdSh (WFL.CUST_CFG_DCODE k n))))

end Sys2Proof.Machine
end

