-- ==== Sys2Proof/Machine/Housekeeping.lean ====
section
/-! DEFINITION. Housekeeping and thermal management (R240 to R261): conversions of a round, RTD measurement, reference checks, thermal evaluation, throttle steps, and the thermal shutdown. -/

namespace Sys2Proof.Machine

/-! ## Results (R242) -/

/-- The sign of the first conversion out of range, true for negative: beyond 0x8001 to 0x7FFE, or without a usable value,
which counts as negative (R242). -/
def firstOver (l : List (Option Int)) : Option Bool :=
  l.findSome? fun c => match c with
    | none => some true
    | some v => if 32766 < v then some false else if v < -32767 then some true else none

/-- A result word put in `RES[i]`: VALUE, OVR, OPEN, REF and the next COUNT. While REF_FAIL is set a regular result
carries the overrange code of its sign (R242, R249). -/
def State.putRes (s : State) (i : Nat) (value : Int) (ovr opn regular : Bool) : State :=
  let f := HKP.RES_RESULT i
  let fail := s.on HKP.HSTAT_REF_FAIL && regular
  let v : Int := if fail then (if value < 0 then -32768 else 32767) else value
  let o := ovr || fail
  let cnt := (s.rd f / 2 ^ 20 + 1) % 4096
  let s := s.wr f (unsgn 16 v + b2n o * 2 ^ 16 + b2n opn * 2 ^ 17 + b2n fail * 2 ^ 18 + cnt * 2 ^ 20)
  if o then s.irq .hkp 1 else s

/-- The value of an overrange (R242). -/
def overCode (neg : Bool) : Int := if neg then -32768 else 32767

/-- The boxcar average of a result's conversions, to the nearest unit; or the overrange code (R242; log entry 30). -/
def boxcar (l : List (Option Int)) : Int :=
  match firstOver l with
  | some neg => overCode neg
  | none => divNearI (l.filterMap id).sum l.length

/-- A result of a regular input from its conversions (R242). -/
def State.average (s : State) (i : Nat) (l : List (Option Int)) : State := s.putRes i (boxcar l) (firstOver l).isSome false true

/-- VALUE of `RES[i]`. -/
def State.resVal (s : State) (i : Nat) : Int := sgn 16 (s.rd (HKP.RES_RESULT i))

/-- OVR of `RES[i]`. -/
def State.resOvr (s : State) (i : Nat) : Bool := hasBit (s.rd (HKP.RES_RESULT i)) 16

/-! ## Pickups (R244) -/

/-- The result of one pickup conversion: its code, and whether it carries OVR (R242). -/
def pickCode (v : Int) : Int × Bool := (clampI (-32768) 32767 v, decide (32766 < v) || decide (v < -32767))

/-- PICKUP_CONVERSION of a present head: each of its two results by itself; Trowel keeps the two codes, and whether one of them
carries OVR or OPEN (R79, R242, R244). -/
def State.pickup (s : State) (h : Head) (p : Pickup) : State :=
  let opn (v : Int) : Bool := decide (v < s.rd HKP.PKCFG_OPEN_MIN)
  let a := pickCode p.a
  let b := pickCode p.b
  let s' := (s.putRes (2 * h.val) a.1 a.2 (opn a.1) false).putRes (2 * h.val + 1) b.1 b.2 (opn b.1) false
  s'.putEmt h { s'.emtOf h with pick := { a := a.1, b := b.1 }, pickBad := a.2 || b.2 || opn a.1 || opn b.1 }

/-! ## RTDs (R246 to R248) -/

/-- The resistance of a Pt1000 at `x` / 32 °C in units of 10^-18 × 2^-20 times 1,000 Ω: IEC 60751 with A, B, and C below
0 °C (R246). -/
def ptResistance (x : Int) : Int :=
  let one : Int := 1000000000000000000 * 1048576
  one + 3908300000000000 * x * 32768 - 577500000000 * x * x * 1024 -
    (if x < 0 then 4183000 * (x - 3200) * x * x * x else 0)

/-- The temperature in 1/16 °C, to the nearest, whose resistance is `r16` / 16 Ω, by bisection (R246; log entry 30). -/
def ptSearch : Nat → Int → Int → Int → Int
  | 0, _, lo, _ => lo
  | n + 1, r, lo, hi =>
    let mid := (lo + hi + 1) / 2
    if ptResistance (2 * mid - 1) ≤ r then ptSearch n r mid hi else ptSearch n r lo (mid - 1)

/-- The temperature of a resistance in 1/16 Ω (R246). -/
def ptTemp (r16 : Int) : Int := ptSearch 16 (r16 * (1000000000000000000 * 1048576) / 16000) (-3200) 13600

/-- The next enabled RTD input from `n` on, round the 12 (R245). -/
def nextRtd (en n : Nat) : Option (Fin 12) := ((List.range 12).map fun i => Fin.ofNat 12 (n + i)).find? fun i => hasBit en i.val

/-- The excitation off: the pulse in progress ends without a result (R248, R250). -/
def State.pulseOff (s : State) : State := { s with hkp.pulse := none, hkp.half1 := [], hkp.half2 := [] }

/-- A pulse whose input is no longer enabled ends: its pins are held at analog ground, and it yields no result (R248). -/
def State.pulseHeld (s : State) : State :=
  match s.hkp.pulse with
  | some (n, _) => if hasBit (s.rd HKP.RTD_EN_EN) n.val then s else s.pulseOff
  | none => s

/-- RTD_PULSE: the pulse of the round's input switched on at p = 0 (R245, R246). -/
def State.pulseOn (s : State) : State :=
  match nextRtd (s.rd HKP.RTD_EN_EN) (s.rd HKP.HSTAT_RTD_NEXT) with
  | none => s.pulseOff
  | some n =>
    { s.pulseOff with hkp.pulse := some (n, hasBit (s.rd HKP.RTD_MODE_FOUR_WIRE) n.val) }.wr HKP.HSTAT_RTD_NEXT n.val

/-- The result of a pulse from its two halves: the resistance in 1/16 Ω by the means of both halves and of V_ref (R246). -/
def State.rtdResult (s : State) (n : Fin 12) (four : Bool) : State :=
  let i := 16 + n.val
  let vref := s.hkp.ref[3]
  let l1 := s.hkp.half1
  let l2 := s.hkp.half2
  let fail (s : State) (neg : Bool) : State :=
    (s.putRes i (overCode neg) true false true).wr (HKP.RTD_T_VALID n.val) 0
  match firstOver (l1 ++ l2) with
  | some neg => fail s neg
  | none =>
    if vref ≤ 0 then fail s false else
    let num : Int := ((l1.filterMap id).sum * l2.length - (l2.filterMap id).sum * l1.length) * (if four then 8000 else 16000)
    let r16 := divNearI num (l1.length * l2.length * vref.toNat)
    if 32766 < r16 then fail s false else if r16 < -32767 then fail s true else
    let s := s.putRes i r16 false false true
    if s.on HKP.HSTAT_REF_FAIL then s.wr (HKP.RTD_T_VALID n.val) 0
    else
      let v := s.hkp.rtdAt.set n (some s.now)
      ({ s with hkp.rtdAt := v }.wrI (HKP.RTD_T_TEMP n.val) (ptTemp r16)).wr (HKP.RTD_T_VALID n.val) 1

/-- RTD_OPEN_LEAD: a tripped monitor ends the pulse in progress with an OPEN result (R247). -/
def rtdOpenLead (s : State) : State :=
  match s.hkp.pulse with
  | none => s
  | some (n, _) =>
    let s := (s.pulseOff.putRes (16 + n.val) 32767 true true true).wr (HKP.RTD_T_VALID n.val) 0
    (s.satInc HKP.HSTAT_OPEN_CNT).irq .hkp 0

/-- RTD_OPEN_LEAD (R247). -/
def execRtdOpenLead (s : State) : Host.Outcome State Fault Refusal := live s (rtdOpenLead s)

/-! ## Reference checks (R249) -/

/-- REF_CHECK_FAIL: the checks of a round, as they were measured, compared with their factory values (R249). -/
def State.refChecks (s : State) : State :=
  let bad := (List.finRange 3).any fun i =>
    decide (5 * 32768 < 1000 * (s.hkp.ref[i.val]'(by omega) - Config.refCheck (54 + i)).natAbs)
  let s := { s with hkp.refBad := if bad then s.hkp.refBad + 1 else 0, hkp.refGood := if bad then 0 else s.hkp.refGood + 1 }
  if !s.on HKP.HSTAT_REF_FAIL && decide (2 ≤ s.hkp.refBad) then
    ((s.wr HKP.HSTAT_REF_FAIL 1).irq .hkp 2).event .hkp 2 [(s.wr HKP.HSTAT_REF_FAIL 1).word .hkp 0x5004C]
  else if s.on HKP.HSTAT_REF_FAIL && decide (4 ≤ s.hkp.refGood) then s.wr HKP.HSTAT_REF_FAIL 0
  else s

/-! ## The round (R245, R250) -/

/-- The inputs that the regular sequence converts at a round position, RTDs apart (R245). -/
def roundInputs (p : Nat) : List Nat :=
  if p = 0 then [54, 55, 56, 57] else if p = 1 then [48, 49, 50, 51, 52, 53] else if p = 2 then [28, 29, 30, 31]
  else if p ≤ 6 then (List.range 4).map fun i => 32 + 4 * (p - 3) + i else []

/-- How many conversions form a result of a regular input other than an RTD: 16 of an on-die sensor, else 8 (R241). -/
def convCount (p : Nat) : Nat := if 3 ≤ p ∧ p ≤ 6 then 16 else 8

/-- The conversions of the `k`-th input of a round position. -/
def convOf (cs : Vector (Option Int) 64) (p k : Nat) : List (Option Int) := (cs.toList.drop (convCount p * k)).take (convCount p)

/-- HKP_ROUND_TICK: the work of the round position that ends with the tick. The pulse of a round ends in the tick of p = 2,
and only then gives its result (R245, R246, R249, R250). -/
def State.hkpWork (s : State) (cs : Vector (Option Int) 64) (rtd : Vector (Option Int) 32) : State :=
  let p := s.rd HKP.HSTAT_ROUND_POS
  let s := State.each (roundInputs p).zipIdx (fun i s => s.average i.1 (convOf cs p i.2)) s
  let s := if p = 0 then { s with hkp.ref := Vector.ofFn fun k => boxcar (convOf cs 0 k.val) }.refChecks else s
  let next := s.rd HKP.HSTAT_RTD_NEXT
  let s := if p = 2 then s.wr HKP.HSTAT_RTD_NEXT (((nextRtd (s.rd HKP.RTD_EN_EN) (next + 1)).map Fin.val).getD next) else s
  match s.hkp.pulse with
  | none => s
  | some (n, four) =>
    if p = 0 then { s with hkp.half1 := rtd.toList }
    else if p = 1 then { s with hkp.half2 := rtd.toList }
    else if p = 2 then (s.rtdResult n four).pulseOff
    else s

/-- The round restarted at p = 0; a round that is cut short produces no thermal evaluation (R250, R259). -/
def State.roundRestart (s : State) (short : Bool) : State :=
  ({ s with hkp.restart := s.hkp.restart.filter (fun n => decide (s.now < n)), hkp.evalDue := s.hkp.evalDue && !short }.wr
    HKP.HSTAT_ROUND_POS 0).pulseOn

/-- The round moved on at a tick boundary: to its next position, or to p = 0 where a restart is due (R245, R250). -/
def State.hkpStep (s : State) : State :=
  let p := s.rd HKP.HSTAT_ROUND_POS
  if s.hkp.restart.any fun n => decide (n ≤ s.now) then s.roundRestart (p != 9) else
    let q := (p + 1) % 10
    let s := s.wr HKP.HSTAT_ROUND_POS q
    if q = 0 then s.pulseOn
    else if q = 9 then { s with hkp.evalDue := true }
    else if q = 1 then { s with hkp.evalDue := false }
    else s

/-- SYNC_IN_EDGE: the edge selects the next tick boundary at least 1 µs away (R215, R250). -/
def syncInEdge (ns : Nat) (s : State) : State := 
  { s with tim.syncAt := s.tim.syncAt ++ [s.nextTick ns], hkp.restart := s.hkp.restart ++ [s.nextTick ns] }

/-- SYNC_IN_EDGE (R215). -/
def execSyncInEdge (ns : Fin 100000) (s : State) : Host.Outcome State Fault Refusal := live s (syncInEdge ns.val s)

/-! ## Thermal evaluation (R251 to R253) -/

/-- Twice the median of a list: the sum of its two middle values, which are one for an odd length (R251). -/
def medianTwice (l : List Int) : Int :=
  let m := l.mergeSort (· ≤ ·)
  m.getD ((l.length - 1) / 2) 0 + m.getD (l.length / 2) 0

/-- Whether a sensor's result is usable: no OVR, not failed (R251). -/
def State.sensorOk (s : State) (i : Nat) : Bool := !s.resOvr (32 + i) && !hasBit (s.rd THM.SFAIL_MASK) i

/-- SENSOR_FAIL of one sensor: 4 rounds in a row more than 15 °C from the median of the other valid ones (R251). -/
def State.sensorCheck (s : State) (valid : List Nat) (i : Nat) : State :=
  if hi : i < 16 then
    let others := (valid.filter (· != i)).map fun j => s.resVal (32 + j)
    let out := valid.contains i && others != [] && decide (480 < (2 * s.resVal (32 + i) - medianTwice others).natAbs)
    let n := if out then s.hkp.dev[i] + 1 else 0
    let v := s.hkp.dev.set i n
    let s := { s with hkp.dev := v }
    if n = 4 then
      let s := ((s.bitPut THM.SFAIL_MASK i true).wr (THM.SENS_FAILED i) 1).irq .thm 1
      s.eventFull .thm 1 0 [] [s.word .thm 0x51050] true
    else s
  else s

/-- The threshold of a level, in 1/16 °C (R252). -/
def State.theta16 (s : State) (k : Nat) : Int :=
  16 * (s.rd (if k = 1 then THM.TH_A_WARN else if k = 2 then THM.TH_A_STEP1 else if k = 3 then THM.TH_B_STEP2 else THM.TH_B_STEP3) : Int)

/-- The throttle step of a level (R254). -/
def stepOfLevel (l : Nat) : Nat := l - 1

/-- The step in force entered in the report of the frame in progress, once the frame has begun (R255). -/
def State.frameStep (s : State) : State :=
  if s.tick = 0 ∧ s.frameAt ≠ some s.now then s else { s with ptb.cur.step := max s.ptb.cur.step (s.rd THM.TSTAT_STEP) }

/-- TSTAT.STEP: the larger of FORCE_STEP and the step of the level (R254). -/
def State.showStep (s : State) : State :=
  (s.wr THM.TSTAT_STEP (max (s.rd THM.TCFG_FORCE_STEP) (stepOfLevel (s.rd THM.TSTAT_LEVEL)))).frameStep

/-- A level taken, with its interrupt and event record (R253). -/
def State.toLevel (s : State) (l : Nat) : State :=
  let s := ((s.wr THM.TSTAT_LEVEL l).wr THM.TSTAT_UP 0).wr THM.TSTAT_DN 0
  ((s.showStep).irq .thm 0).event .thm 0 [s.showStep.word .thm 0x5104C]

/-- LEVEL_TRANSITION: the counters and the level after an evaluation of `t` in 1/16 °C (R253). -/
def State.levelStep (s : State) (t : Int) : State :=
  let l := s.rd THM.TSTAT_LEVEL
  let up := if l < 4 ∧ s.theta16 (l + 1) ≤ t then s.rd THM.TSTAT_UP + 1 else 0
  let dn := if 0 < l ∧ t < s.theta16 l - 48 then s.rd THM.TSTAT_DN + 1 else 0
  let four := s.hkp.last.take 4
  if up = 4 then
    let m := four.foldl min t
    s.toLevel (((List.range 4).filter fun k => decide (s.theta16 (k + 1) ≤ m)).foldl (fun _ k => k + 1) 0)
  else if dn = 4 then
    let m := four.foldl max t
    s.toLevel (((List.range 4).filter fun k => decide (s.theta16 (k + 1) - 48 ≤ m)).foldl (fun _ k => k + 1) 0)
  else (s.wr THM.TSTAT_UP up).wr THM.TSTAT_DN dn

/-- THERMAL_LATCH: the count of evaluations at or above 155.0 °C, and the latch at the second; of the flash operations only the one in
progress goes on (R256 to R258). -/
def State.latchStep (s : State) (t : Int) (sensor : Nat) : State :=
  let n := if 2480 ≤ t then s.hkp.hot + 1 else 0
  let s := { s with hkp.hot := n }
  if n = 2 ∧ s.hkp.shut = 0 then
    (({ s with hkp.shut := 1, boot.ops := s.boot.ops.take 1 }.wrI THM.LATCH_INFO_TEMP t).wr THM.LATCH_INFO_SENSOR sensor).wr THM.LATCH_INFO_LATCHED 1
  else s

/-- The evaluation of a round (R251, R253, R256). -/
def State.thermalEval (s : State) : State :=
  let s := { s with hkp.evalDue := false }
  let valid := (List.range 16).filter s.sensorOk
  let s := State.each (List.range 16) (fun i s => s.sensorCheck valid i) s
  let valid := (List.range 16).filter s.sensorOk
  let s := State.each (List.range 16) (fun i s =>
    (s.wrI (THM.SENS_TEMP i) (s.resVal (32 + i))).wrB (THM.SENS_VALID i) (valid.contains i)) s
  if valid.length < 4 then
    let s := { s with hkp.low := s.hkp.low + 1, hkp.okay := 0 }
    if s.hkp.low = 4 ∧ !s.on THM.TSTAT_SENSE_FAIL then
      let s := (s.wr THM.TSTAT_SENSE_FAIL 1).irq .thm 1
      if s.rd THM.TSTAT_LEVEL = 4 then s else s.toLevel 4
    else s
  else
    let s := { s with hkp.low := 0, hkp.okay := s.hkp.okay + 1 }
    let hot := valid.foldl (fun m i => if s.resVal (32 + m) < s.resVal (32 + i) then i else m) (valid.headD 0)
    let t := s.resVal (32 + hot)
    let s := { s with hkp.last := (t :: s.hkp.last).take 4 }.wrI THM.TSTAT_TMAX t
    let s := if s.on THM.TSTAT_SENSE_FAIL then
        if 4 ≤ s.hkp.okay then s.wr THM.TSTAT_SENSE_FAIL 0 else s
      else s.levelStep t
    s.latchStep t hot

/-! ## Throttle (R254) -/

/-- The throttle actions that a tick boundary takes: clocks halved (R254). -/
def State.throttleTick (s : State) : State := { s with hkp.slow := decide (1 ≤ s.hkp.bndStep) }

/-- The divider that a clock output runs with: throttle step 1 doubles those of SYN2's outputs 4, 5 and 6, the clocks of the control
complex, Dust Sheet and Render fetch (R254, R434). -/
def State.divider (s : State) (o : Nat) : Nat :=
  s.rd (CLK.OUT_DIV o) * (if s.hkp.slow && 20 ≤ o && o ≤ 22 then 2 else 1)

/-- The step in force at a tick boundary noted, for the actions that take hold there (R254). -/
def State.throttleNote (s : State) : State := { s with hkp.bndStep := s.rd THM.TSTAT_STEP }.throttleTick

/-- The throttle actions that a coat boundary takes: no decomposition (R254). -/
def State.throttleCoat (s : State) : State := { s with hkp.plain := decide (2 ≤ s.hkp.bndStep) }

/-- The throttle actions that a frame boundary takes: frames of 3 coats (R14, R254). -/
def State.throttleFrame (s : State) : State :=
  { s with scd.variant := s.hkp.bndStep == 3 }.wrB SCD.RUN_INFO_VARIANT (s.hkp.bndStep == 3)

/-- THROTTLE_STEP_CHANGE: the change of step takes hold as far as the boundary that began the tick in progress allows, with the
step that was in force at that boundary (R254). -/
def throttleStepChange (s : State) : State :=
  let s := s.throttleTick
  let s := if s.step128 = 0 then s.throttleCoat else s
  if s.tick = 0 then s.throttleFrame else s

/-- THROTTLE_STEP_CHANGE (R254). -/
def execThrottleStepChange (s : State) : Host.Outcome State Fault Refusal := live s (throttleStepChange s)

/-! ## Checks of a commit (R252, R261) -/

/-- The broken rules of a commit of HKP (R261). -/
def hkpCheck (s : State) : List (Nat × Nat) :=
  if s.rdSh HKP.RTD_EN_UPPER = 0 then [] else [(CFG_RANGE, HKP.RTD_EN_UPPER.word)]

/-- The broken rules of a commit of THM (R252, R261). -/
def thmCheck (s : State) : List (Nat × Nat) :=
  let l := [THM.TH_A_WARN, THM.TH_A_STEP1, THM.TH_B_STEP2, THM.TH_B_STEP3]
  let v := l.map s.rdSh
  (l.filter fun f => decide (s.rdSh f < 100) || decide (154 < s.rdSh f)).map (fun f => (CFG_RANGE, f.word)) ++
  (if (v.zip (v.drop 1)).all fun (a, b) => decide (a < b) then [] else [(CFG_RANGE, THM.TH_A_WARN.word)])

end Sys2Proof.Machine
end

