-- ==== Sys2Proof/Machine/Calibration.lean ====
section
/-! DEFINITION. The calibration manager (R103 to R107, R262 to R278): pending and running kinds, turns of the converters, RFE and SKEW accumulation, checks, application at coat boundaries, staleness, and Primer. -/

namespace Sys2Proof.Machine

/-! ## Places and temperatures -/

/-- The mark keys of the items that carry their acceptance (R272). -/
def ftMark (h n : Nat) : Nat := h * 136 + n
def trimMark (h row : Nat) : Nat := 1088 + h * 128 + row
def skewMark (h row : Nat) : Nat := 2112 + h * 128 + row
def reliefMark (h row : Nat) : Nat := 3136 + h * 128 + row
def offsetMark (h row : Nat) : Nat := 4160 + h * 128 + row
def floatMark (h table : Nat) : Nat := 5184 + h * 8 + table
def deviceMark : Nat := 5248

/-- The block temperature T_h in 1/16 °C: on-die sensor h, or the evaluated T while that sensor is not valid (R265). -/
def State.blockTemp (s : State) (h : Nat) : Int :=
  if s.on (THM.SENS_VALID h) then s.rdI (THM.SENS_TEMP h) else s.rdI THM.TSTAT_TMAX

/-- The AON seconds count (R272). -/
def State.aonSec (s : State) : Nat := s.cal.aonTicks / 10000

/-- An accepted item marked with the time and temperature of its acceptance (R272). -/
def State.mark (s : State) (h key : Nat) : State :=
  { s with cal.marks := Sparse.put s.cal.marks key (s.aonSec, s.blockTemp h) }

/-- A device range offset marked with the time of its acceptance and the temperature evaluated then (R272). -/
def State.markDevice (s : State) : State :=
  { s with cal.marks := Sparse.put s.cal.marks deviceMark (s.aonSec, s.rdI THM.TSTAT_TMAX) }

/-! ## Pending and running kinds (R265, R266) -/

/-- The kinds of a head that run. -/
def State.calBusy (s : State) (h : Nat) : Nat := slice (s.rd CAL.BUSY_KINDS) (4 * h) 4

/-- The kinds of a head that are pending. -/
def State.calPend (s : State) (h : Nat) : Nat := slice (s.rd CAL.PEND_KINDS) (4 * h) 4

/-- A kind's running bit put. -/
def State.putBusy (s : State) (h : Head) (k : Nat) (b : Bool) : State := s.bitPut CAL.BUSY_KINDS (4 * h.val + k) b

/-- A kind's pending bit put. -/
def State.putPend (s : State) (h : Head) (k : Nat) (b : Bool) : State := s.bitPut CAL.PEND_KINDS (4 * h.val + k) b

/-- A pending WFL run asked of the lane group once nothing of the head runs; it may start at the next tick boundary at
least 1 µs away (R266). -/
def State.askWfl (s : State) (h : Head) (ns : Nat) : State :=
  if hasBit (s.calPend h.val) 2 && s.calBusy h.val == 0 then wflCalGo h ns s else s

/-- Kinds made pending for a head (R265). -/
def State.makePending (s : State) (h : Head) (kinds ns : Nat) : State :=
  (s.orBits CAL.PEND_KINDS (kinds % 16 * 2 ^ (4 * h.val))).askWfl h ns

/-- CAL_TRIGGER: after a thermal evaluation, the enabled kinds become pending for every head that has moved by more than
DELTA_T (R265). -/
def State.calTrigger (s : State) (ns : Nat) : State :=
  let d := s.rd CAL.TEMP_CFG_DELTA_T
  if !s.on CAL.MODE_AUTO_EN || d == 0 then s else
  State.each (List.finRange 8) (fun h s =>
    match (s.calOf h).tref with
    | none => s
    | some t => if 16 * d < (s.blockTemp h.val - t).natAbs then s.makePending h (s.rd CAL.MODE_KIND_EN) ns else s) s

/-- THERMAL_EVALUATION: once in a round, in the tick at p = 9, the temperature is evaluated (R245, R253). -/
def thermalEvaluation (ns : Nat) (s : State) : State := if s.hkp.evalDue then s.thermalEval.calTrigger ns else s

/-- THERMAL_EVALUATION (R253). -/
def execThermalEvaluation (ns : Fin 100000) (s : State) : Host.Outcome State Fault Refusal := live s (thermalEvaluation ns.val s)

/-- CAL_CMD: a write of CMD with GO (R265, R278). -/
def calCmdGo (heads kinds ns : Nat) (s : State) : State :=
  if heads % 256 = 0 ∨ kinds % 16 = 0 then s.errCode .cal CFG_ZERO CAL.CMD_GO.word
  else State.each ((List.finRange 8).filter fun h => hasBit heads h.val) (fun h s => s.makePending h kinds ns) s

/-- CAL_CMD (R265). -/
def execCalCmd (heads : Fin 256) (kinds : Fin 16) (ns : Fin 100000) (s : State) : Host.Outcome State Fault Refusal :=
  onPage .cal s (calCmdGo heads.val kinds.val ns.val s)

/-- The head's run ends once nothing of it runs any more: T_ref is set and DONE raised (R265, R266). -/
def State.runEnd (s : State) (h : Head) (ns : Nat) : State :=
  if s.calBusy h.val ≠ 0 then s else
  ((s.putCal h { s.calOf h with tref := some (s.blockTemp h.val) }).irq .cal 0).askWfl h ns

/-- LAST_RESULT and LAST_KIND (R267). -/
def State.lastResult (s : State) (h : Head) (kind result : Nat) : State :=
  (s.wr (CAL.HSTAT_LAST_RESULT h.val) result).wr (CAL.HSTAT_LAST_KIND h.val) kind

/-- 0 accepted, 1 partly refused, 2 all refused (R267). -/
def resultOf (good bad : Nat) : Nat := if bad = 0 then 0 else if good = 0 then 2 else 1

/-- Runs of ascending rows joined into cell sets of a head (R348). -/
def rowSets (h : Nat) : List Nat → List CellSet
  | [] => []
  | r :: t =>
    match rowSets h t with
    | c :: cs => if c.first = cellNo h (r + 1) 0 then { c with first := cellNo h r 0, rows := c.rows + 1 } :: cs
                 else { first := cellNo h r 0, rows := 1, cols := 1024, step := 0 } :: c :: cs
    | [] => [{ first := cellNo h r 0, rows := 1, cols := 1024, step := 0 }]

/-- Refused items reported: CAL_LIMIT, REFUSED, and the event record that names head, kind and rows. The head is its QUAL, refused rows
its cell sets, refused lanes the mask in ARG 1, and refused relief interpolators that in ARG 2 (R267; log entry 31). -/
def State.refused (s : State) (h : Head) (rows : List Nat) (lanes reliefs : Nat) : State :=
  let s := (s.errCode .cal CAL_LIMIT (CAL.HSTAT_LAST_RESULT h.val).word).irq .cal 1
  s.eventFull .cal 1 h.val (rowSets h.val rows) [s.word .cal (0x150090 + 4 * h.val), lanes, reliefs] false

/-! ## Turns of the converters (R103 to R106) -/

/-- DNL_STAT.TURN of a group (R117). -/
def State.showTurn (s : State) (h : Head) (g : Nat) : State :=
  let t := match (s.calOf h).turn g with
    | some n => if n < 128 then n % 16 else 16
    | none => 31
  s.wr (TDC.DNL_STAT_TURN h.val g) t

/-- DNL_STAT.TURN of every group. -/
def State.showTurns (s : State) (h : Head) : State := State.each (List.range 8) (fun g s => s.showTurn h g) s

/-- Whether the head's channels have no live edges, so that all interpolators are fed at once (R106). -/
def State.feedAll (s : State) (h : Head) : Bool := !s.headMeasures h

/-- The interpolators measured in the coat that ends: all that remain where they were all fed in it, or the turn of each group
(R103, R106). -/
def State.turnsNow (s : State) (h : Head) : List Nat :=
  let c := s.calOf h
  if c.fed then (List.range 136).filter fun n => hasBit c.left n else (List.range 8).filterMap c.turn

/-- The fine-time table of hit counts, halves rounded up (R104). -/
def ftTable (hits : List Nat) : List Nat :=
  let n := hits.sum
  (List.range 128).map fun i => divNear (8192 * (2 * (hits.take i).sum + hits.getD i 0)) (2 * n)

/-- A turn that has ended shown, with its hits and interpolator (R104, R117). -/
def State.turnEnded (s : State) (h : Head) (n : Nat) (hits : List Nat) : State :=
  let g := if n < 128 then n / 16 else n - 128
  let s := s.wr (TDC.DNL_STAT_LAST_N h.val g) (min hits.sum 16777215)
  let s := s.wr (TDC.DNL_MIN_MIN_HITS h.val g) (min 65535 (hits.foldl min (hits.headD 0)))
  (s.wr (TDC.DNL_MIN_MIN_INTP h.val g) n).irq (.tdc h) 1

/-- TDC_TURN_END: the counts of one interpolator at the end of a coat of its turn: the table, one coat more, or failure.
In REPEAT mode a first good measurement is kept and the turn runs again (R104, R268). -/
def State.turnEnd (s : State) (h : Head) (n : Nat) (counts : List Nat) : State :=
  let key := h.val * 136 + n
  let g := if n < 128 then n / 16 else n - 128
  let old := Sparse.get s.tdc.hits key []
  let hits := (List.range 128).map fun i => old.getD i 0 + counts.getD i 0
  let ext := Sparse.get s.tdc.ext key 0
  let clear (s : State) : State := { s with tdc.hits := Sparse.del s.tdc.hits key, tdc.ext := Sparse.del s.tdc.ext key }
  let finish (s : State) (it : CalItem) : State :=
    let c := s.calOf h
    let s := (s.turnEnded h n hits).putCal h { c with left := clrBit c.left n, res := c.res ++ [it] }
    { clear s with tdc.first := Sparse.del s.tdc.first key }
  if hits.all fun x => decide (4096 ≤ x) then
    let tab := ftTable hits
    let first := Sparse.get s.tdc.first key []
    if s.on CAL.MODE_REPEAT && first == [] then
      let s := clear (s.turnEnded h n hits)
      { s with tdc.first := Sparse.put s.tdc.first key tab }
    else finish s (.ft n tab hits (if first = [] then none else some first))
  else if ext < 3 then
    let s := s.wr (TDC.DNL_STAT_EXTENDS h.val g) (ext + 1)
    { s with tdc.hits := Sparse.put s.tdc.hits key hits, tdc.ext := Sparse.put s.tdc.ext key (ext + 1) }
  else (finish s (.bad 0 n)).irq (.tdc h) 2

/-- The turns of a head at a coat boundary, and the turn that each group goes on to; whether all interpolators are fed in the coat
that begins follows the head's presence in it (R103, R104, R106). -/
def State.turnsAtCoat (s : State) (h : Head) (hits : List (Nat × List Nat)) : State :=
  if !hasBit (s.calBusy h.val) 0 then s else
  let before (g : Nat) := (s.calOf h).turn g
  let t := State.each (s.turnsNow h) (fun n s => s.turnEnd h n (match hits.find? (fun x => x.1 == n) with
    | some x => x.2
    | none => [])) s
  State.each (List.range 8) (fun g t =>
    let a := (t.calOf h).turn g
    (if a.isSome && a != before g then t.wr (TDC.DNL_STAT_EXTENDS h.val g) 0 else t).showTurn h g)
    (t.putCal h { t.calOf h with fed := t.feedAll h })

/-- A TDC run stopped: turns that have ended stand (R103). -/
def State.stopTdc (s : State) (h : Head) : State :=
  let mine (k : Nat) : Bool := decide (k / 136 = h.val)
  let s := s.putCal h { s.calOf h with left := 0 }
  let s := { s with tdc.hits := s.tdc.hits.filter fun e => !mine e.1, tdc.ext := s.tdc.ext.filter fun e => !mine e.1,
                    tdc.first := s.tdc.first.filter fun e => !mine e.1 }
  (s.showTurns h).putBusy h 0 false

/-! ## RFE accumulation (R263) -/

/-- The output of a capture at an instant in 1/64 LSB after W, between the two samples around it, in 81,920ths of a lane
code; none where Float could not use one of them (R151, R263; log entry 32). -/
def Capt.at81920 (c : Capt) (t : Int) : Option Int :=
  let x := (10 * t - 4194304 * c.line) * c.q
  let i := x / 81920
  let f := x % 81920
  if c.q ≠ 0 ∧ c.good i ∧ c.good (i + 1) then
    some ((c.value i).1 * (81920 - f) + (c.value (i + 1)).1 * f)
  else none

/-- The comparator error of a threshold in FS/1,024 at an edge, in 7 × 81,920ths of FS/4,096 (R263). -/
def comparatorError (v th : Int) : Int := 2 * (v - 2048 * 81920) - 28 * th * 81920

/-- What one capture adds to its row's sums; a pulse counts for each comparator at whose rise the lane gave a usable sample (R263;
DESIGN CHOICE, log entry 156). -/
def State.rfeCapture (s : State) (w : Win) (row : Nat) (m : MeasRow) (c : Capt) (a : RfeAcc) : RfeAcc :=
  let bs := ((List.range (-c.first).toNat).map fun (i : Nat) => c.first + (i : Int)).filter c.good
  let a := { a with n := a.n + bs.length, base := a.base + (bs.map fun i => (c.value i).1 - 2048).sum }
  let g := row / 16
  let le : Int := s.rd (RFE.LE_TE_LE_TH w.head g)
  let te : Int := s.rd (RFE.LE_TE_TE_TH w.head g)
  let tabs := s.tabsFor w.mtick
  let level (e : Option Edge) : Option Int := e.bind fun e => c.at81920 (tabs.edgeTime w.head row e)
  m.pulses.foldl (fun a p =>
    if p.any Edge.sat then a else
    let a := match level (p.find? fun e => e.kind == 0) with
      | some v => { a with kLe := a.kLe + 1, le := a.le + comparatorError v le }
      | none => a
    match level (p.find? fun e => e.kind == 2) with
      | some v => { a with kTe := a.kTe + 1, te := a.te + comparatorError v te }
      | none => a) a

/-- The coats that a head's RFE or SKEW run counts: 16, and 32 in REPEAT mode (R263, R268). -/
def CalHead.coats (c : CalHead) : Nat := if c.twice then 32 else 16

/-- The captures of the tick that ends added to the sums of the RFE accumulations in progress (R263, R268). -/
def State.rfeAccumulate (s : State) : State :=
  let runs (h : Nat) : Bool := hasBit (s.calBusy h) 1 && decide ((s.calOf (Fin.ofNat 8 h)).rfe < (s.calOf (Fin.ofNat 8 h)).coats)
  State.each (s.wins.filter fun w => w.mtick == s.now && runs w.head) (fun w s =>
    State.each (List.range 128) (fun row s =>
      let m := w.row row
      if m.capts = [] then s else
        let key := w.head * 128 + row + 1024 * ((s.calOf (Fin.ofNat 8 w.head)).rfe / 16)
        let a := m.capts.foldl (fun a c => s.rfeCapture w row m c a) (Sparse.get s.cal.rfe key {})
        { s with cal.rfe := Sparse.put s.cal.rfe key a }) s) s

/-- The item of a row's sums: the baseline moves by minus its mean, the thresholds by minus their mean errors where the
row had at least 64 pulses (R263). -/
def RfeAcc.item (a : RfeAcc) (row : Fin 128) : CalItem :=
  let part (x : Int) (k : Nat) : Option Int := if 64 ≤ k then some (-(divNearI x (7 * 81920 * k))) else none
  .trim row (part a.le a.kLe) (part a.te a.kTe) (-(divNearI a.base (14 * a.n))) none

/-- The row of a trim or skew item. -/
def CalItem.pairRow : CalItem → Nat
  | .trim row _ _ _ _ => row.val
  | .skew row _ _ _ => row
  | _ => 128

/-- The two results of a row in REPEAT mode put together; a row with only one of them is refused (R268). -/
def CalItem.pairUp (first second : Option CalItem) : Option CalItem :=
  match first, second with
  | some (.trim _ l t b _), some (.trim row le te base _) => some (.trim row le te base (some (l, t, b)))
  | some (.skew _ v _ _), some (.skew row v' e _) => some (.skew row v' e (some v))
  | some (.trim row _ _ _ _), none | none, some (.trim row _ _ _ _) => some (.bad 1 row.val)
  | some (.skew row _ _ _), none | none, some (.skew row _ _ _) => some (.bad 3 row)
  | _, _ => none

/-- The results of two accumulations, row by row (R268). -/
def pairItems (first second : List CalItem) : List CalItem :=
  (List.range 128).filterMap fun r => CalItem.pairUp (first.find? fun x => x.pairRow == r) (second.find? fun x => x.pairRow == r)

/-- The sums of one accumulation of a head, by row: pass 0, or the second of REPEAT mode (R268). -/
def passRows {α : Type} (l : List (Nat × α)) (h : Head) (pass : Nat) : List (Nat × α) :=
  (l.filter fun e => e.1 / 128 == h.val + 8 * pass).map fun e => (e.1 % 128, e.2)

/-- The sums of a head taken out. -/
def withoutHead {α : Type} (l : List (Nat × α)) (h : Head) : List (Nat × α) := l.filter fun e => e.1 / 128 % 8 != h.val

/-- RFE_RUN_END: after the coats it counts the run's new trims go to their check; in REPEAT mode the first 16 coats give the first
result and the next 16 the second (R263, R268). -/
def rfeRunEnd (h : Head) (s : State) : State :=
  let c := s.calOf h
  let items (pass : Nat) : List CalItem :=
    ((passRows s.cal.rfe h pass).filter fun e => decide (0 < e.2.n)).map fun e => e.2.item (Fin.ofNat 128 e.1)
  if !hasBit (s.calBusy h.val) 1 || decide (c.rfe < 16) || c.rfe == 33 then s
  else if c.rfe < c.coats then s.putCal h { c with rfe1 := some (items 0) }
  else
    let res := if c.twice then pairItems (c.rfe1.getD (items 0)) (items 1) else items 0
    { s with cal.rfe := withoutHead s.cal.rfe h }.putCal h { c with rfe := 33, rfe1 := none, res := c.res ++ res }

/-- RFE_RUN_END (R263). -/
def execRfeRunEnd (h : Head) (s : State) : Host.Outcome State Fault Refusal := live s (rfeRunEnd h s)

/-! ## SKEW accumulation (R264) -/

/-- The item of a row's differences: their mean in 1/64 input sample, which is 160 units of 1/320 LSB, and its standard
error in 0.1 ps (R264, R269; log entry 33). -/
def skewItem (row n : Nat) (sum : Int) (sq : Nat) : CalItem :=
  let dev : Nat := (n * sq - (sum * sum).toNat) * 244140625 / (n * n * (n - 1) * 6710886400)
  .skew row (divNearI sum (160 * n)) (isqrt dev) none

/-- SKEW_RUN_END: once the last measurements of its coats have been refined, the run's new entries of the rows with at least 32
returns go to their check; in REPEAT mode the first 16 coats give the first result and the next 16 the second (R264, R268). -/
def skewRunEnd (h : Head) (s : State) : State :=
  let c := s.calOf h
  let items (pass : Nat) : List CalItem :=
    ((passRows s.cal.skew h pass).filter fun e => decide (32 ≤ e.2.1)).map fun e => skewItem e.1 e.2.1 e.2.2.1 e.2.2.2
  if !hasBit (s.calBusy h.val) 3 || decide (c.skew < 16) || c.skew == 33 || decide (s.now ≤ c.skewAt.getLastD 0) then s
  else if c.skew < c.coats then s.putCal h { c with skew1 := some (items 0) }
  else
    let res := if c.twice then pairItems (c.skew1.getD (items 0)) (items 1) else items 0
    { s with cal.skew := withoutHead s.cal.skew h }.putCal h { c with skew := 33, skew1 := none, res := c.res ++ res }

/-- SKEW_RUN_END (R264). -/
def execSkewRunEnd (h : Head) (s : State) : Host.Outcome State Fault Refusal := live s (skewRunEnd h s)

/-! ## Checks (R267, R268) -/

/-- The kind of an item: 0 TDC, 1 RFE, 3 SKEW. -/
def CalItem.kind : CalItem → Nat
  | .bad k _ => k
  | .ft _ _ _ _ | .relief _ _ => 0
  | .trim _ _ _ _ _ => 1
  | .skew _ _ _ _ => 3

/-- The row of an item, none for a relief interpolator. -/
def CalItem.row : CalItem → Option Nat
  | .ft n _ _ _ | .bad _ n => if n < 128 then some n else none
  | .relief r _ | .skew r _ _ _ => some r
  | .trim r _ _ _ _ => some r.val

/-- The group of a relief interpolator's item. -/
def CalItem.reliefGroup : CalItem → Option Nat
  | .ft n _ _ _ | .bad 0 n => if n < 128 then none else some (n - 128)
  | _ => none

/-- Whether two numbers agree within a tolerance. -/
def agree (a b : Int) (tol : Nat) : Bool := decide ((a - b).natAbs ≤ tol)

/-- Whether a bin's width lies between BIN_MIN and BIN_MAX in 0.1 ps (R267). -/
def State.binGood (s : State) (n h : Nat) : Bool :=
  decide (2 * s.rd CAL.LIM_TDC_BIN_MIN * n ≤ 15625 * h) && decide (15625 * h ≤ 2 * s.rd CAL.LIM_TDC_BIN_MAX * n)

/-- Whether a trim move keeps its field and its step (R267). -/
def trimGood (old move : Int) (step : Nat) : Bool :=
  decide (-128 ≤ old + move) && decide (old + move ≤ 127) && decide (move.natAbs ≤ step)

/-- Whether a comparator term agrees with the first result's: both are there and agree, or neither is (R268). -/
def agreePart (a b : Option Int) (tol : Nat) : Bool :=
  match a, b with
  | some x, some y => agree x y tol
  | none, none => true
  | _, _ => false

/-- Whether an item is accepted: by the limits of its kind, or in REPEAT mode by its first result alone (R267, R268). -/
def State.itemGood (s : State) (h : Head) : CalItem → Bool
  | .bad _ _ => false
  | .relief _ _ => true
  | .ft n tab hits first =>
    match first with
    | some f => (List.range 128).all fun i => agree (tab.getD i 0) (f.getD i 0) (s.rd CAL.REP_TOL_TDC)
    | none => hits.all (s.binGood hits.sum) &&
        (List.range 128).all fun i => agree (tab.getD i 0) (s.tabs.time h.val n i) (s.rd CAL.LIM_TDC_FT_STEP)
  | .trim r le te b first =>
    match first with
    | some (l, t, b1) => agreePart le l (s.rd CAL.REP_TOL_RFE) && agreePart te t (s.rd CAL.REP_TOL_RFE) &&
        agree (4 * b) (4 * b1) (s.rd CAL.REP_TOL_RFE)
    | none => trimGood (s.rdI (RFE.CH_TRIM_TIA_OFS h.val r.val)) b (s.rd CAL.LIM_RFE_BASE_STEP) &&
        trimGood (s.rdI (RFE.CH_TRIM_LE_OFS h.val r.val)) (le.getD 0) (s.rd CAL.LIM_RFE_OFS_STEP) &&
        trimGood (s.rdI (RFE.CH_TRIM_TE_OFS h.val r.val)) (te.getD 0) (s.rd CAL.LIM_RFE_OFS_STEP)
  | .skew r v _ first =>
    match first with
    | some f => agree v f (s.rd CAL.REP_TOL_SKEW)
    | none =>
      decide ((Sparse.get s.tabs.skew (h.val * 128 + r) 0 + v).natAbs ≤ s.rd CAL.LIM_SKEW_SKEW_MAX) &&
      decide (v.natAbs ≤ s.rd CAL.LIM_SKEW_SKEW_STEP)

/-- The largest standard error of a bin width of hit counts, 781.25 ps × √h / N, in fs (R269). -/
def tdcErrorOf (hits : List Nat) : Nat := isqrt (hits.foldl max 0 * 610351562500) / max 1 hits.sum

/-- The items of one kind checked (R267): accepted ones wait for the coat boundary, refused ones are reported. -/
def State.checkKind (s : State) (h : Head) (kind : Nat) (items : List CalItem) : State :=
  if items = [] then s else
  let good := items.filter (s.itemGood h)
  let bad := items.filter fun x => !s.itemGood h x
  let c := s.calOf h
  let tdcErr := good.foldl (fun m x => match x with | .ft _ _ hs _ => max m (tdcErrorOf hs) | _ => m) c.tdcErr
  let c := if kind = 0 then { c with good := c.good + good.length, bad := c.bad + bad.length, tdcErr := tdcErr } else c
  let s := s.putCal h { c with take := c.take ++ good }
  let res := if kind = 0 then resultOf c.good c.bad else resultOf good.length bad.length
  let s := s.lastResult h kind res
  let s := if kind = 3 ∧ good ≠ [] then
      s.wr (CAL.QUAL_SKEW_RES h.val) (min 255 (good.foldl (fun m x => match x with | .skew _ _ e _ => max m e | _ => m) 0))
    else s
  if bad = [] then s else s.refused h (bad.filterMap CalItem.row) 0 ((bad.filterMap CalItem.reliefGroup).foldl setBit 0)

/-- A kind ended where its results have been checked (R266). -/
def State.endKinds (s : State) (h : Head) (ns : Nat) : State :=
  let b := s.calBusy h.val
  let c := s.calOf h
  let s := if hasBit b 0 && c.left == 0 then
      let s := if 0 < c.good then s.wr (CAL.QUAL_TDC_RES h.val) (min 4095 c.tdcErr) else s
      (s.putBusy h 0 false).putCal h { c with good := 0, bad := 0, tdcErr := 0 }
    else s
  let s := if hasBit b 1 && c.rfe == 33 then (s.putBusy h 1 false).putCal h { s.calOf h with rfe := 0 } else s
  let s := if hasBit b 3 && c.skew == 33 then (s.putBusy h 3 false).putCal h { s.calOf h with skew := 0 } else s
  if s.calBusy h.val = b then s else s.runEnd h ns

/-- CAL_CHECK: the manager checks the results of a head item by item (R267, R270). -/
def calCheckHead (h : Head) (ns : Nat) (s : State) : State :=
  let items := (s.calOf h).res
  let s := s.putCal h { s.calOf h with res := [] }
  let s := State.each [0, 1, 3] (fun k s => s.checkKind h k (items.filter fun x => x.kind == k)) s
  s.endKinds h ns

/-- CAL_CHECK (R267). -/
def execCalCheck (h : Head) (ns : Fin 100000) (s : State) : Host.Outcome State Fault Refusal :=
  live s (calCheckHead h ns.val s)

/-! ## Foreground lane runs (R195, R196) -/

/-- Starting a foreground run, pending in the manager or asked of the group; a faulty manager starts none (R195, R266,
R274). -/
def wflRunStart (h : Head) (s : State) : State :=
  if s.on CAL.FAULT_STAT_HALTED then s else
  let t := wflCalStart h s
  if (t.wflOf h).run.isSome && (s.wflOf h).run.isNone then (t.putPend h 2 false).putBusy h 2 true else t

/-- WFL_CAL_START (R195). -/
def execWflCalStart (h : Head) (s : State) : Host.Outcome State Fault Refusal := live s (wflRunStart h s)

/-- WFL_CAL_END: after 16 ticks the lanes' results are taken or refused (R196, R267, R269). -/
def wflRunEnd (h : Head) (rs : List LaneResult) (ns : Nat) (s : State) : State :=
  match (s.wflOf h).run with
  | none => s
  | some n =>
    if s.now < n + 16 then s else
    let s := (s.takeLanes h (rs.take 8)).putWfl h { (s.takeLanes h (rs.take 8)).wflOf h with run := none }
    let s := (s.wr (WFL.GSTAT_CAL_BUSY h.val) 0).irq (.wfl h) 0
    let good := (rs.take 8).filter laneGood
    let bad := (List.range 8).filter fun i => match (rs.take 8)[i]? with
      | some r => !laneGood r
      | none => true
    let s := if good = [] then s else
      s.wr (CAL.QUAL_WFL_RES h.val) (min 255 (good.foldl (fun m r => min m r.spur) 255))
    let s := s.lastResult h 2 (resultOf good.length bad.length)
    let s := if bad = [] then s else (s.irq (.wfl h) 1).refused h [] (bad.foldl setBit 0) 0
    (s.putBusy h 2 false).runEnd h ns

/-- WFL_CAL_END (R196). -/
def execWflCalEnd (h : Head) (rs : List LaneResult) (ns : Fin 100000) (s : State) : Host.Outcome State Fault Refusal :=
  live s (wflRunEnd h rs ns.val s)

/-! ## The coat boundary (R266, R270, R272, R273) -/

/-- TBL_SRC of a head: the source of each group's tables, 3 where they differ (R107, R117). -/
def State.showSources (s : State) (h : Head) : State :=
  State.each (List.range 8) (fun g s =>
    let l := (groupTurns g).map fun n => Sparse.get s.tdc.src (h.val * 136 + n) 0
    s.wr (TDC.TBL_SRC_SRC h.val g) (if l.all fun x => x == l.headD 0 then l.headD 0 else 3)) s

/-- TBL_SRC of every head, after the AON copy has been put in force (R107). -/
def State.showAllSources (s : State) : State := State.each (List.finRange 8) (fun h s => s.showSources h) s

/-- One accepted item put in force (R262, R270). A trim that REPEAT mode accepts and whose field cannot hold its new value becomes a free
value (R268; log entry 157). -/
def State.applyItem (s : State) (h : Head) (x : CalItem) : State :=
  match x with
  | .ft n tab _ _ =>
    let key := h.val * 136 + n
    { s with tabs.ft := Sparse.put s.tabs.ft key tab, tdc.src := Sparse.put s.tdc.src key 2 }.mark h.val (ftMark h.val n)
  | .relief r v => { s with tabs.relief := Sparse.set s.tabs.relief (h.val * 128 + r) v 0 }.mark h.val (reliefMark h.val r)
  | .trim r le te b _ =>
    let mv (s : State) (f : Fld) (d : Int) : State :=
      let v := s.rdI f + d
      if -128 ≤ v ∧ v ≤ 127 then s.wrI f v else (s.wr f s.freeVal).freeNext
    (mv (mv (mv s (RFE.CH_TRIM_LE_OFS h.val r.val) (le.getD 0)) (RFE.CH_TRIM_TE_OFS h.val r.val) (te.getD 0))
      (RFE.CH_TRIM_TIA_OFS h.val r.val) b).mark h.val (trimMark h.val r.val)
  | .skew r v _ _ =>
    let key := h.val * 128 + r
    { s with tabs.skew := Sparse.set s.tabs.skew key (Sparse.get s.tabs.skew key 0 + v) 0 }.mark h.val (skewMark h.val r)
  | .bad _ _ => s

/-- CAL_APPLY: the accepted items of a head take hold together; a row that the host has committed at this boundary keeps
the host's value, and the result is superseded (R270). -/
def State.calApply (s : State) (h : Head) : State :=
  let c := s.calOf h
  let lost (x : CalItem) : Bool := match x with
    | .trim r _ _ _ _ => hasBit c.hostTrim r.val
    | .skew r _ _ _ => hasBit c.hostSkew r
    | _ => false
  let items := c.take.filter fun x => !lost x
  let s := if items = [] then s else (State.each items (fun x s => s.applyItem h x) s.saveTabs).showSources h
  let s := match c.take.find? lost with
    | some x => s.lastResult h x.kind 4
    | none => s
  let s := if items ≠ [] ∨ c.gen then s.wrapInc (CAL.HSTAT_CAL_GEN h.val) else s
  s.putCal h { c with take := [], gen := false, hostTrim := 0, hostSkew := 0 }

/-- Whether an item with an acceptance is stale at a coat boundary (R272; log entry 34). -/
def State.stale (s : State) (h key : Nat) : Bool :=
  match s.cal.marks.find? (fun e => e.1 == key) with
  | none => false
  | some (_, sec, t) =>
    (s.rd CAL.AGE_LIM_SEC != 0 && decide (s.rd CAL.AGE_LIM_SEC + sec < s.aonSec)) ||
    decide (16 * s.rd CAL.TEMP_CFG_STALE_DT < (s.blockTemp h - t).natAbs)

/-- The rows whose records carry CALAGE, and those whose WFM records do, in the coat that begins (R272). -/
def State.calAges (s : State) (h : Head) : State :=
  let rows := List.range 128
  let age := rows.filter fun r => (s.tabs.ftTable h.val r == []) || s.stale h.val (ftMark h.val r) || s.stale h.val (trimMark h.val r)
  let nominal (r : Nat) : Bool := !(s.cal.marks.any fun e => e.1 == skewMark h.val r) && Sparse.get s.tabs.skew (h.val * 128 + r) 0 == 0
  let wfm := rows.filter fun r => nominal r || s.stale h.val (skewMark h.val r)
  let s := s.putCal h { s.calOf h with age := age.foldl setBit 0, wfmAge := wfm.foldl setBit 0 }
  let before := s.rd (CAL.HSTAT_STALE_ROWS h.val)
  let s := s.wr (CAL.HSTAT_STALE_ROWS h.val) age.length
  if before = 0 ∧ age ≠ [] then s.irq .cal 2 else s

/-- A running RFE or SKEW accumulation discarded and pending again (R273). -/
def State.discardRun (s : State) (h : Head) (k : Nat) : State :=
  let c := s.calOf h
  let s := if k = 1 then { s with cal.rfe := withoutHead s.cal.rfe h }.putCal h { c with rfe := 0, rfe1 := none }
    else { s with cal.skew := withoutHead s.cal.skew h }.putCal h { c with skew := 0, skew1 := none, skewAt := [] }
  ((s.putBusy h k false).putPend h k true).lastResult h k 3

/-- Runs that the image or the head's leaving ends (R273). -/
def State.calInterrupts (s : State) (h : Head) : State :=
  let b := s.calBusy h.val
  let none_ := s.cal.primer.isNone && s.rd SCD.RUN_INFO_CAL_SHARE == 0
  let s := if hasBit b 0 && none_ then (s.stopTdc h).lastResult h 0 3 else s
  let out := none_ || !s.headMeasures h
  let s := if hasBit b 1 && out then s.discardRun h 1 else s
  (if hasBit b 3 && out then s.discardRun h 3 else s).askWfl h 0

/-- CAL_RUN_START: the pending TDC, RFE and SKEW runs of a head start together, where nothing of the head runs and no
lane run is pending; all wait for an image with CAL slots, the last two for a measuring head without throttle step 2 or 3 too (R45,
R266). -/
def State.calRunStart (s : State) (h : Head) : State :=
  let p := s.calPend h.val
  let w := s.wflOf h
  if s.on CAL.FAULT_STAT_HALTED || s.calBusy h.val != 0 || hasBit p 2 || w.pend.isSome || w.run.isSome then s else
  let tdc := hasBit p 0 && (s.cal.primer.isSome || s.rd SCD.RUN_INFO_CAL_SHARE != 0)
  let live := s.headMeasures h && !s.hkp.plain && s.rd SCD.RUN_INFO_CAL_SHARE != 0
  let s := if tdc then
      let s := (s.putPend h 0 false).putBusy h 0 true
      let s := s.putCal h { s.calOf h with left := 2 ^ 136 - 1, fed := s.feedAll h, good := 0, bad := 0, tdcErr := 0 }
      State.each (List.range 8) (fun g s => s.wr (TDC.DNL_STAT_EXTENDS h.val g) 0) (s.showTurns h)
    else s
  let s := if hasBit p 1 && live then
      { (s.putPend h 1 false).putBusy h 1 true with cal.rfe := withoutHead s.cal.rfe h }.putCal h
        { s.calOf h with rfe := 0, rfe1 := none, twice := s.on CAL.MODE_REPEAT }
    else s
  if hasBit p 3 && live then
    { (s.putPend h 3 false).putBusy h 3 true with cal.skew := withoutHead s.cal.skew h }.putCal h
      { s.calOf h with skew := 0, skew1 := none, skewAt := [s.now], twice := s.on CAL.MODE_REPEAT }
  else s

/-- A coat counted by the RFE and SKEW accumulations; a coat under throttle step 2 or 3 does not count (R266). -/
def State.countCoat (s : State) (h : Head) (plain : Bool) : State :=
  if plain then s else
  let c := s.calOf h
  let b := s.calBusy h.val
  let rfe := if hasBit b 1 && decide (c.rfe < c.coats) then c.rfe + 1 else c.rfe
  let skew := if hasBit b 3 && decide (c.skew < c.coats) then c.skew + 1 else c.skew
  let ended := skew != c.skew && skew % 16 == 0
  s.putCal h { c with rfe := rfe, skew := skew, skewAt := c.skewAt ++ if ended then [s.now] else [] }

/-- The relief offsets that a coat of all the head's interpolators has measured go to their check, those of Primer with its end
(R262, R275). -/
def State.reliefAtCoat (s : State) (h : Head) (rs : List (Nat × Int)) : State :=
  let c := s.calOf h
  if hasBit (s.calBusy h.val) 0 && c.fed && s.cal.primer.isNone then
    s.putCal h { c with res := c.res ++ rs.map fun x => .relief (x.1 % 128) x.2 }
  else s

/-- The manager's part of a coat boundary for the coat that ends, for one head; `plain` tells whether that coat ran under throttle
step 2 or 3, `hits` the calibration hits of its turns, `rs` the relief offsets that it measured. -/
def State.calAtCoat (s : State) (h : Head) (plain : Bool) (hits : List (Nat × List Nat)) (rs : List (Nat × Int)) : State :=
  (((((s.reliefAtCoat h rs).turnsAtCoat h hits).countCoat h plain).calApply h).calInterrupts h)

/-- The manager's part of a coat boundary for the coat that begins, after the throttle step that holds in it (R266, R272). -/
def State.calBegins (s : State) : State := State.each (List.finRange 8) (fun h s => (s.calRunStart h).calAges h) s

/-! ## Parity errors (R274) -/

/-- CAL_PARITY_ERROR: the runs in progress of the heads concerned end as interrupted; two errors in consecutive ticks
declare the manager faulty (R274). -/
def calParityError (heads : Nat) (s : State) : State :=
  let again := s.cal.errAt == some (s.now - 1) && decide (0 < s.now)
  let s := { s with cal.errAt := some s.now }
  let s := State.each ((List.finRange 8).filter fun h => hasBit heads h.val) (fun h s =>
    let b := s.calBusy h.val
    let c := s.calOf h
    let kept (l : List CalItem) : List CalItem := l.filter fun x => !hasBit b x.kind
    let s := s.putCal h { c with res := kept c.res, take := kept c.take }
    let s := if hasBit b 0 then ((s.stopTdc h).putPend h 0 true).lastResult h 0 3 else s
    let s := if hasBit b 1 then s.discardRun h 1 else s
    let s := if hasBit b 2 then
        (((s.putWfl h { s.wflOf h with run := none }).wr (WFL.GSTAT_CAL_BUSY h.val) 0).putBusy h 2 false).putPend h 2 true
          |>.lastResult h 2 3
      else s
    let s := if hasBit b 3 then s.discardRun h 3 else s
    s.askWfl h 0) s
  let s := (s.satInc CAL.FAULT_STAT_PARITY).irq .cal 4
  if again ∧ !s.on CAL.FAULT_STAT_HALTED then
    let s := s.wr CAL.FAULT_STAT_HALTED 1
    s.eventFull .cal 4 0 [] [s.word .cal 0x1500B8] true
  else s

/-- CAL_PARITY_ERROR (R274). -/
def execCalParityError (heads : Fin 256) (s : State) : Host.Outcome State Fault Refusal := live s (calParityError heads.val s)

/-! ## Primer (R275, R276) -/

/-- Primer begins: the lane runs of all groups, and a run of all interpolators of every head from the next coat boundary
(R275). -/
def State.primerStart (s : State) : State :=
  let s := { s with cal.primer := some s.now }
  State.each (List.finRange 8) (fun h s => s.makePending h 5 0) s

/-- PRIMER_END: Primer's relief offsets, baselines and comparator terms are checked beside its tables; T_ref is set, and a
SKEW run becomes pending for every head whose skew entries came from no store of this device (R265, R275, R276). -/
def primerEnd (rs : List PrimerResult) (s : State) : State :=
  if s.cal.primer.isNone || s.rd CAL.BUSY_KINDS != 0 || s.rd CAL.PEND_KINDS &&& 0x55555555 != 0 then s else
  let s := State.each rs (fun r s =>
    let s := s.checkKind r.head 0 (r.relief.map fun x => .relief (x.1 % 128) x.2)
    let s := s.checkKind r.head 1 (r.trims.map fun x => .trim (Fin.ofNat 128 x.1) (some x.2.1) (some x.2.2.1) x.2.2.2 none)
    s.putCal r.head { s.calOf r.head with good := 0, bad := 0 }) s
  let s := State.each (List.finRange 8) (fun h s =>
    let s := s.putCal h { s.calOf h with tref := some (s.blockTemp h.val) }
    if hasBit s.cal.stored h.val then s else s.makePending h 8 0) s
  { s with cal.primer := none }

/-- PRIMER_END (R275). -/
def execPrimerEnd (rs : List PrimerResult) (s : State) : Host.Outcome State Fault Refusal := live s (primerEnd rs s)

/-! ## Registers (R277, R278) -/

/-- A BLOCK reset of CAL taking hold: all runs stop, and nothing is pending (R273). -/
def State.calBlockReset (s : State) : State :=
  let s := State.each (List.finRange 8) (fun h s =>
    let s := s.stopTdc h
    let w := s.wflOf h
    let s := if hasBit (s.calBusy h.val) 2 then (s.putWfl h { w with run := none }).wr (WFL.GSTAT_CAL_BUSY h.val) 0
      else if hasBit (s.calPend h.val) 2 then (s.putWfl h { w with pend := none }).wr (WFL.GSTAT_CAL_PEND h.val) 0 else s
    s.putCal h { s.calOf h with rfe := 0, skew := 0, rfe1 := none, skew1 := none, skewAt := [], res := [], take := [] }) s
  { s with cal.rfe := [], cal.skew := [] }

/-- The broken rules of a commit of CAL (R278). -/
def calCheck (s : State) : List (Nat × Nat) :=
  let zero := [CAL.TEMP_CFG_STALE_DT, CAL.LIM_TDC_BIN_MAX, CAL.LIM_TDC_FT_STEP, CAL.LIM_RFE_OFS_STEP, CAL.LIM_RFE_BASE_STEP,
    CAL.LIM_SKEW_SKEW_STEP, CAL.LIM_SKEW_SKEW_MAX, CAL.REP_TOL_TDC, CAL.REP_TOL_RFE, CAL.REP_TOL_SKEW]
  ((zero.filter fun f => s.rdSh f == 0).map fun f => (CFG_ZERO, f.word)) ++
  (if s.rdSh CAL.LIM_TDC_BIN_MAX ≤ s.rdSh CAL.LIM_TDC_BIN_MIN then [(CFG_RANGE, CAL.LIM_TDC_BIN_MIN.word)] else []) ++
  (if s.rdSh CAL.TEMP_CFG_DELTA_T ≠ 0 ∧ s.rdSh CAL.TEMP_CFG_STALE_DT ≤ s.rdSh CAL.TEMP_CFG_DELTA_T then
    [(CFG_RANGE, CAL.TEMP_CFG_STALE_DT.word)] else [])

end Sys2Proof.Machine
end

