-- ==== Sys2Proof/Machine/Flash.lean ====
section
/-! DEFINITION. The configuration flash (R426 to R433): its areas and records, the queue of flash operations, host writes of areas, and the calibration store (R276). -/

namespace Sys2Proof.Machine

/-! ## Areas and records (R427 to R429) -/

/-- The areas of R427 that the device writes: 0 BAND, 1 configuration, 2 firmware A, 3 firmware B, 4 schedule image,
5 equalisation, 6 DIMM training, 7 calibration store, 8 safety store, 9 event log: offset and size of one copy. -/
def flashBase (area : Nat) : Nat × Nat :=
  [(0x10000, 0x10000), (0x50000, 0x40000), (0x200000, 0x800000), (0xA00000, 0x800000), (0x1200000, 0x100000),
   (0x30000, 0x10000), (0xD0000, 0x20000), (0x1300000, 0x100000), (0x1500000, 0x480000), (0x1E00000, 0x800000)].getD area (0, 0)

/-- Whether an area is a record in two copies (R428). -/
def isRecord (area : Nat) : Bool := !([2, 3, 4, 9].contains area)

/-- The offset of a copy of a record. -/
def copyAt (area copy : Nat) : Nat := (flashBase area).1 + copy * (flashBase area).2

/-- The CRC of a record: over header and body with the CRC field zero (R428). -/
def recordCrc (hdr body : List Byte) : Nat := crc32c (hdr.take 16 ++ zeros 4 ++ (hdr.drop 20).take 44 ++ body)

/-- LEN of the record at an offset. -/
def State.recLen (s : State) (at_ : Nat) : Nat := u32 (s.fldN (at_ + 12) 4) 0

/-- SEQ of the record at an offset. -/
def State.recSeq (s : State) (at_ : Nat) : Nat := u32 (s.fldN (at_ + 8) 4) 0

/-- The body of the record at an offset. -/
def State.recBody (s : State) (at_ : Nat) : List Byte := s.fldN (at_ + 64) (s.recLen at_)

/-- Whether a copy is valid: MAGIC, LEN and CRC check (R428). -/
def State.recValid (s : State) (area copy : Nat) : Bool :=
  let a := copyAt area copy
  decide (s.recLen a + 64 ≤ (flashBase area).2) && u32 (s.fldN a 4) 0 == (Config.recordMagic area).toNat &&
  u32 (s.fldN (a + 16) 4) 0 == recordCrc (s.fldN a 64) (s.recBody a)

/-- Whether a sequence number is higher in serial order (R429). -/
def serialAbove (a b : Nat) : Bool := let d := (a + 2 ^ 32 - b) % 2 ^ 32; decide (1 ≤ d) && decide (d < 2 ^ 31)

/-- The copy selected of a record, none where it is absent (R429). -/
def State.recSelect (s : State) (area : Nat) : Option Nat :=
  match s.recValid area 0, s.recValid area 1 with
  | true, true => some (if serialAbove (s.recSeq (copyAt area 1)) (s.recSeq (copyAt area 0)) then 1 else 0)
  | true, false => some 0
  | false, true => some 1
  | false, false => none

/-- The copy that a write of a record goes to, and the sequence number it gets (R428). -/
def State.recTarget (s : State) (area : Nat) : Nat × Nat :=
  match s.recSelect area with
  | some c => (1 - c, (s.recSeq (copyAt area c) + 1) % 2 ^ 32)
  | none => (0, 1)

/-- A record written: the copy erased, the body programmed, the header last (R428). -/
def State.recWrite (s : State) (area : Nat) (ext body : List Byte) : State :=
  let (c, seq) := s.recTarget area
  let a := copyAt area c
  let hdr := leBytes 4 (Config.recordMagic area).toNat ++ zeros 4 ++ leBytes 4 seq ++ leBytes 4 body.length ++ zeros 4 ++
    subBytes ext 0 44
  let hdr := overlay hdr 16 (leBytes 4 (recordCrc hdr body))
  (((s.ferase a (flashBase area).2).fstN (a + 64) body).fstN a hdr)

/-! ## Operations (R432) -/

/-- Whether a source has an operation requested or running. -/
def State.flashBusy (s : State) (src : FlashSrc) : Bool := s.boot.ops.any fun o => o.src == src

/-- An operation put at the end of the queue; none is started once the thermal latch is set (R258). -/
def State.flashAsk (s : State) (o : FlashOp) : State := if s.latched then s else { s with boot.ops := s.boot.ops ++ [o] }

/-- An operation interrupted by a loss of power: its copy or area is left erased, so a record's copy is invalid and the
other copy stands (R428). -/
def State.flashCut (s : State) (o : FlashOp) : State :=
  if isRecord o.area then s.ferase (copyAt o.area (s.recTarget o.area).1) (flashBase o.area).2
  else if o.area = 9 then s else s.ferase (flashBase o.area).1 (flashBase o.area).2

/-- The event log entry by entry: 64 bytes each, a fresh sector erased first and begun with a header whose content is
free (R433; log entry 36). -/
def State.logWrite (s : State) (b : List Byte) : State :=
  let p := s.rd CTL.LOG_PTR_OFS
  let base := (flashBase 9).1
  let s := if p % 65536 = 0 then (s.ferase (base + p) 65536).fstN (base + p) (s.freeBytes 64) |>.freeNext else s
  let q := if p % 65536 = 0 then p + 64 else p
  (s.fstN (base + q) b).wr CTL.LOG_PTR_OFS ((q + 64) % 0x800000)

/-- The bytes of a completed operation (R428, R433). -/
def State.flashPut (s : State) (o : FlashOp) : State :=
  if o.area = 9 then s.logWrite o.body
  else if isRecord o.area then s.recWrite o.area o.ext o.body
  else (s.ferase (flashBase o.area).1 (flashBase o.area).2).fstN (flashBase o.area).1 o.body

/-- FLASH_OPERATION_DONE: the running operation ends; its bytes stand in the flash, and its source reports (R428, R432).
-/
def flashOperationDone (s : State) : State :=
  match s.boot.ops with
  | [] => s
  | o :: rest =>
    let s := { s with boot.ops := rest }
    let s := s.flashPut o
    let s := match o.src with
      | .ctl => (s.wr CTL.FLASH_STAT_BUSY 0).wr CTL.FLASH_STAT_CODE OK
      | .cal => ((s.wr CAL.STORE_BUSY 0).wr CAL.STORE_CODE OK).irq .cal 3
      | .saf => (s.wr SAF.MODE_STORE_BUSY 0).wr SAF.MODE_STORE_CODE OK
      | .mem | .band | .log => s
    s.irq .ctl 0

/-- FLASH_OPERATION_DONE (R428). -/
def execFlashOperationDone (s : State) : Host.Outcome State Fault Refusal := live s (flashOperationDone s)

/-- The event records that wait are handed to the log one at a time (R433). -/
def State.logPump (s : State) : State :=
  match s.flq with
  | [] => s
  | e :: t => if s.flashBusy .log || s.latched then s else { s with flq := t }.flashAsk { src := .log, area := 9, body := e.bytes }

/-- FLASH_CMD: a write with GO of an area from device memory (R432, R451). The source holds a record with its header,
of which the device forms MAGIC, SEQ, LEN and CRC itself (log entry 37); a source in a failed channel fails its check, and nothing
is written (R236, log entry 162). -/
def flashCmdGo (area : Nat) (s : State) : State :=
  let w := CTL.FLASH_CMD_GO.word
  let len := s.rd CTL.FL_LEN_LEN
  let busyFw := decide (1 ≤ s.rd CTL.BOOT_STAT_STAGE) && area == 2 + s.rd CTL.BOOT_STAT_FW_SLOT
  let busyImg := area == 4 && (match s.scd.load with | some l => l.flash | none => false)
  if area = 0 then s.errCode .ctl CFG_ZERO w
  else if 5 < area then s.errCode .ctl CFG_RANGE w
  else if len = 0 then s.errCode .ctl CFG_ZERO CTL.FL_LEN_LEN.word
  else if (flashBase area).2 < len then s.errCode .ctl CFG_RANGE CTL.FL_LEN_LEN.word
  else if busyFw || busyImg || s.flashBusy .ctl then s.errCode .ctl CFG_BUSY w
  else
    let a := s.rd CTL.FL_SRC_HI_ADDR * 2 ^ 32 + s.rd CTL.FL_SRC_LO_ADDR * 64
    if s.rangeFailed a len then s.wr CTL.FLASH_STAT_CODE PARITY else
    let b := s.ldN a len
    (s.flashAsk (if isRecord area then { src := .ctl, area := area, ext := (b.drop 20).take 44, body := b.drop 64 }
      else { src := .ctl, area := area, body := b })).wr CTL.FLASH_STAT_BUSY 1

/-- FLASH_CMD (R432). -/
def execFlashCmd (area : Fin 8) (s : State) : Host.Outcome State Fault Refusal := onPage .ctl s (flashCmdGo area.val s)

/-! ## The calibration store (R276; log entry 38) -/

/-- One 9-byte entry of the store: kind, key, value. -/
def storeEntry (kind key value : Nat) : List Byte := leBytes 1 kind ++ leBytes 4 key ++ leBytes 4 value

/-- The AON copy as the store holds it: the device identity, then the entries. Kinds: 0 device range offset, 1 range
offsets, 2 Float tables, 3 fine-time tables by 128 times the interpolator's key plus bin, 4 relief offsets, 5 CH_TRIM by
head times 128 plus row, 6 skew, 7 and 8 acceptance in seconds and temperature. -/
def State.calStore (s : State) : List Byte :=
  let ints (k : Nat) (l : List (Nat × Int)) : List Byte := l.flatMap fun e => storeEntry k e.1 (unsgn 32 e.2)
  leBytes 8 Config.serialNumber.toNat ++ storeEntry 0 0 (s.rd CAL.DEV_OFS_OFS) ++ ints 1 s.tabs.rofs ++ ints 2 s.tabs.flt ++
  (s.tabs.ft.flatMap fun e => e.2.zipIdx.flatMap fun (v, i) => storeEntry 3 (e.1 * 128 + i) v) ++ ints 4 s.tabs.relief ++
  ((List.range 8).flatMap fun h => (List.range 128).flatMap fun r =>
    let v := s.rd (RFE.CH_TRIM_LE_OFS h r) + 256 * s.rd (RFE.CH_TRIM_TE_OFS h r) + 65536 * s.rd (RFE.CH_TRIM_TIA_OFS h r)
    if v = 0 then [] else storeEntry 5 (h * 128 + r) v) ++
  ints 6 s.tabs.skew ++
  s.cal.marks.flatMap fun e => storeEntry 7 e.1 e.2.1 ++ storeEntry 8 e.1 (unsgn 32 e.2.2)

/-- The entries of a store's body. -/
def storeEntries : Nat → List Byte → List (Nat × Nat × Nat)
  | 0, _ => []
  | n + 1, b => if b.length < 9 then [] else (u8 b 0, u32 b 1, u32 b 5) :: storeEntries n (b.drop 9)

/-- One entry of the store taken into the AON copy; measured items only when the identity matches (R276). -/
def State.loadEntry (s : State) (mine : Bool) (e : Nat × Nat × Nat) : State :=
  let (k, key, v) := e
  let i := sgn 32 v
  match k with
  | 0 => s.wr CAL.DEV_OFS_OFS v
  | 1 => { s with tabs.rofs := Sparse.set s.tabs.rofs key i 0 }
  | 2 => { s with tabs.flt := Sparse.put s.tabs.flt key i }
  | _ =>
    if !mine then s else
    match k with
    | 3 => { s with tabs.ft := Sparse.put s.tabs.ft (key / 128) (Sparse.get s.tabs.ft (key / 128) [] ++ [v]),
                    tdc.src := Sparse.put s.tdc.src (key / 128) 1 }
    | 4 => { s with tabs.relief := Sparse.set s.tabs.relief key i 0 }
    | 5 => if 1024 ≤ key then s else ((s.wr (RFE.CH_TRIM_LE_OFS (key / 128) (key % 128)) (v % 256)).wr
        (RFE.CH_TRIM_TE_OFS (key / 128) (key % 128)) (v / 256 % 256)).wr
        (RFE.CH_TRIM_TIA_OFS (key / 128) (key % 128)) (v / 65536 % 256)
    | 6 => { s with tabs.skew := Sparse.set s.tabs.skew key i 0 }
    | 7 => { s with cal.marks := Sparse.put s.cal.marks key (v, (Sparse.get s.cal.marks key (0, 0)).2) }
    | 8 => { s with cal.marks := Sparse.put s.cal.marks key ((Sparse.get s.cal.marks key (0, 0)).1, i) }
    | _ => s

/-- The AON copy loaded from the selected store at boot; heads whose skew entries came from a store of this device need
no SKEW run (R276). -/
def State.calLoad (s : State) : State :=
  match s.recSelect 7 with
  | none => s
  | some c =>
    let b := s.recBody (copyAt 7 c)
    let mine := u64 b 0 == Config.serialNumber.toNat
    let es := storeEntries b.length (b.drop 8)
    let s := State.each es (fun e s => s.loadEntry mine e) s
    let stored := if mine then
        ((es.filter fun e => e.1 == 7 && decide (2112 ≤ e.2.1)).map fun e => (e.2.1 - 2112) / 128).foldl setBit 0 else 0
    State.each (List.finRange 8) (fun h s => s.showSources h) { s with cal.stored := stored }

/-- STORE: a write of STORE.GO writes the AON copy to the flash store (R276, R277). -/
def storeGo (s : State) : State :=
  if s.on CAL.STORE_BUSY then s.errCode .cal CFG_BUSY CAL.STORE_GO.word
  else (s.flashAsk { src := .cal, area := 7, body := s.calStore }).wr CAL.STORE_BUSY 1

/-- STORE (R276). -/
def execStore (s : State) : Host.Outcome State Fault Refusal := onPage .cal s (storeGo s)

end Sys2Proof.Machine
end

