-- ==== Sys2Proof/Machine/SafetyFn.lean ====
section
/-! DEFINITION. The two safety islands (R279 to R310): field images, set selection, evaluation and conclusion of coats, safety inputs, output pairs, emitter enables, faults and states, and safety telegrams. -/

namespace Sys2Proof.Machine

/-! ## Field images (R280 to R282) -/

/-- Byte of a field image. -/
def FieldImg.byte (f : FieldImg) (o : Nat) : Byte := if o < 256 then f.hdr.getD o 0 else Sparse.get f.cells o f.other

/-- The length of a field image (R280). -/
def fieldLen : Nat := 4194560

/-- All bytes of a field image. -/
def FieldImg.bytes (f : FieldImg) : List Byte := (List.range fieldLen).map f.byte

/-- A field image taken from a sparse memory at an address. -/
def fieldAt (m : List Host.Cell) (a : Nat) (other : Byte) : FieldImg :=
  { hdr := (List.range 256).map fun i => Sparse.get m (a + i) other
    other := other
    cells := (m.filter fun c => decide (a + 256 ≤ c.1) && decide (c.1 < a + fieldLen)).map fun c => (c.1 - a, c.2) }

/-- Whether a set is enabled, its number of fields, and its SCALE (R280). -/
def FieldImg.setEn (f : FieldImg) (s : Nat) : Bool := hasBit (u8 f.hdr 12) s
def FieldImg.count (f : FieldImg) (s : Nat) : Nat := u8 f.hdr (16 + s)
def FieldImg.scale (f : FieldImg) (s : Nat) : Nat := u16 f.hdr (24 + 2 * s)

/-- The table entry of island A or B for a set, field, head, row and column (R280). -/
def FieldImg.entry (f : FieldImg) (b : Bool) (set field h row col : Nat) : Nat :=
  (f.byte (256 + (if b then 2097152 else 0) + ((((2 * set + field) * 8 + h) * 16 + row / 8) * 1024 + col))).toNat

/-- The result of the checks of a field image, as R9 codes it. An image that fails MAGIC, VERSION, IMG_LEN or CRC reports that,
whatever its counts and enabled sets say, for then they are not known to be what was compiled (R282; DESIGN CHOICE, log entry 147:
the rule orders no steps). -/
def FieldImg.check (f : FieldImg) : Nat :=
  let ens := (List.range 8).filter f.setEn
  if u32 f.hdr 0 ≠ 0x4644535A ∨ u16 f.hdr 4 ≠ 1 ∨ u32 f.hdr 8 ≠ fieldLen then CFG_RANGE
  else if u32 f.hdr 0x30 ≠ crc32c (overlay f.bytes 0x30 (zeros 4)) then CFG_RANGE
  else if ens = [] ∨ ens.any (fun s => f.count s == 0) then CFG_ZERO
  else if ens.any (fun s => decide (2 < f.count s)) then CFG_RANGE
  else OK

/-- The live values of the fields of a page's register that only CONFIG may change, as one word. -/
def State.rwlWord (s : State) (p : Page) (off : Nat) : Nat :=
  ((p.fields.filter fun f => f.key / 32 == off && f.acc == Acc.rwl).map fun f => s.rd f * 2 ^ (f.key % 32)).sum

/-- The offsets of a page's registers with such fields, in register order. -/
def rwlOffsets (p : Page) : List Nat :=
  ((p.fields.filter fun f => f.acc == Acc.rwl).map fun f => f.key / 32).eraseDups.mergeSort (· ≤ ·)

/-- Whether a head's HCFG permits class 4 or 5 (R284). -/
def State.permits (s : State) (h : Nat) : Bool := s.on (SAF.HCFG_PERMIT4 h) || s.on (SAF.HCFG_PERMIT5 h)

/-- The configuration identity (R282): field image, the RWL registers of SAF, and those of MSK for the heads that permit
class 4 or 5 (log entry 39). -/
def State.scid (s : State) : Nat :=
  match s.saf.img with
  | none => 0
  | some f =>
    let msk := ((List.range 8).filter s.permits).flatMap fun h => [0xC4040 + 4 * h, 0xC40A0 + 4 * h, 0xC40C0 + 4 * h]
    crc32c (f.bytes ++ ((rwlOffsets .saf).flatMap fun o => leBytes 4 (s.rwlWord .saf o)) ++
      msk.flatMap fun o => leBytes 4 (s.rwlWord .msk o))

/-- A field image taken by the islands, or none, with FSET and both SCIDs; without one every selection is invalid (R282). -/
def State.takeImage (s : State) (f : Option FieldImg) : State :=
  let s := { s with saf.img := f, saf.selBad := s.saf.selBad || f.isNone }
  let s := s.wrB SAF.STAT_SEL_INVALID s.saf.selBad
  let s := State.each (List.range 8) (fun i s =>
    match f with
    | some f => ((s.wrB (SAF.FSET_EN i) (f.setEn i)).wr (SAF.FSET_FIELD_CNT i) (f.count i)).wr (SAF.FSET_SCALE i) (f.scale i)
    | none => ((s.wr (SAF.FSET_EN i) 0).wr (SAF.FSET_FIELD_CNT i) 0).wr (SAF.FSET_SCALE i) 0) s
  (s.wr SAF.SCID_A_SCID s.scid).wr SAF.SCID_B_SCID s.scid

/-! ## States and faults (R297, R298) -/

/-- The islands' state: 0 START, 1 CONFIG, 2 RUN, 3 FAULT_W. -/
def State.safState (s : State) : Nat := s.rd SAF.STAT_STATE

/-- The interrupt of a change of state. -/
def State.toState (s : State) (n : Nat) : State :=
  if s.safState = n then s else (s.wr SAF.STAT_STATE n).irq .saf 2

/-- Both emitter enables off. -/
def State.emitOff (s : State) : State := (s.wr SAF.EMIT_HS_EN 0).wr SAF.EMIT_LS_EN 0

/-- The pairs shown: OSSD1_ON, OSSD2_ON and RESTART_REQ (R309). -/
def State.showPairs (s : State) : State :=
  let both := s.saf.chA &&& s.saf.chB
  let w := hasBit s.saf.wait 0 || (hasBit s.saf.wait 1 && s.on SAF.OSSD_CFG_OSSD2_EN && s.on SAF.OSSD_CFG_OSSD2_SRC)
  ((s.wrB SAF.STAT_OSSD1_ON (hasBit both 0)).wrB SAF.STAT_OSSD2_ON (hasBit both 1)).wrB SAF.STAT_RESTART_REQ w

/-- Whether a pair waits for a restart event of its own once it has gone off: a MANUAL one that does not follow the other (R293). -/
def State.manual (s : State) (p : Nat) : Bool :=
  if p = 0 then !s.on SAF.OSSD_CFG_AUTO1 else !s.on SAF.OSSD_CFG_AUTO2 && s.on SAF.OSSD_CFG_OSSD2_SRC

/-- Channels put at the states given. A pair of which a channel turns off raises DEMAND where it was on, and waits for a
restart event where it is MANUAL (R292, R293). -/
def State.putChannels (s : State) (a b : Nat) : State :=
  let lost (p : Nat) : Bool := (hasBit s.saf.chA p && !hasBit a p) || (hasBit s.saf.chB p && !hasBit b p)
  let demand := [0, 1].any fun p => hasBit (s.saf.chA &&& s.saf.chB) p && lost p
  let wait := [0, 1].foldl (fun w p => if lost p && s.manual p then setBit w p else w) s.saf.wait
  let s := { s with saf.chA := a, saf.chB := b, saf.wait := wait }.showPairs
  if demand then s.irq .saf 1 else s

/-- All outputs and enables off. -/
def State.safOff (s : State) : State := (s.putChannels 0 0).emitOff

/-- A fault latched: a new one raises FAULT and writes an event record; CROSS, CLOCK, SELFTEST and TABLE put the islands
in FAULT_W (R298). -/
def State.safFault (s : State) (f : Fld) (bit : Nat) : State :=
  if hasBit (s.rd f) bit then s else
  let s := (s.bitPut f bit true).irq .saf 0
  let s := s.event .saf 0 [s.word .saf 0x60048]
  if f = SAF.FAULT_CROSS ∨ f = SAF.FAULT_CLOCK ∨ f = SAF.FAULT_SELFTEST ∨ f = SAF.FAULT_TABLE then
    (s.safOff).toState 3
  else if f = SAF.FAULT_EMIT then s.emitOff else s

/-- The island faults that only a WARM or POR clears, and EMIT: any stands. -/
def State.emitFaults (s : State) : Bool :=
  [SAF.FAULT_EMIT, SAF.FAULT_CLOCK, SAF.FAULT_CROSS, SAF.FAULT_SELFTEST].any s.on

/-- The level of the inputs of a function: all evaluated states of inputs with that function are 1. -/
def State.inputsHigh (s : State) (func : Nat) : Bool :=
  (List.range 4).all fun n => s.rd (SAF.INCFG_FUNC n) != func || hasBit (s.rd SAF.INSTAT_STATE) (4 * n + 2)

/-- An ESTOP input stands at 0. -/
def State.estop (s : State) : Bool := !s.inputsHigh 4

/-- Whether a connection is LIVE. -/
def State.connLive (s : State) (c : Nat) : Bool := s.rd (SAF.CONN_STAT_STATE c) == 2

/-- A command bit of any LIVE connection: 0 STOP, 1 WARN, 3 EMIT_OFF (R304, R306). -/
def State.commanded (s : State) (bit : Nat) : Bool :=
  s.saf.conns.toList.zipIdx.any fun (k, c) => s.connLive c && hasBit k.cmd bit

/-- Whether a dirt alarm stands on any head, or a freeze that is routed to island A (R299). -/
def State.dirtStands (s : State) : Bool := (List.range 8).any fun h => s.on (MSK.DIRT_STAT_ALARM h)
def State.freezeStands (s : State) : Bool := s.on RND.FRZ_STAT_FREEZE && s.on RND.FRZ_CFG_ROUTE

/-- Whether a diagnosis asks for the action given or, for 2, a stop (R299). -/
def State.diagActs (s : State) (act : Nat) : Bool :=
  (s.dirtStands && s.rd SAF.DIAG_ACT_DIRT == act) || (s.freezeStands && s.rd SAF.DIAG_ACT_DISP == act)

/-- Any latched fault that stops: CONN counts where a connection of REACT 0 latched it (R293, R306; log entry 40). -/
def State.anyFault (s : State) : Bool :=
  s.rd SAF.FAULT_DISC != 0 || s.rd SAF.FAULT_OSSD != 0 ||
  [SAF.FAULT_EMIT, SAF.FAULT_CROSS, SAF.FAULT_CLOCK, SAF.FAULT_SELFTEST, SAF.FAULT_TABLE].any s.on

/-- Whether a cause holds a channel of OSSD1 off; `b` tells island B (R293, R299, R302). -/
def State.stopCause (s : State) (b : Bool) : Bool :=
  s.safState != 2 || s.role == 3 || s.on SEC.MT_STAT_UNLOCKED || decide (2 ≤ s.hkp.shut) ||
  (if b then s.saf.fs[2].on else s.saf.fs[0].on) || s.estop || s.saf.selBad || s.commanded 0 ||
  (s.saf.conns.toList.any fun c => c.stop) || s.diagActs 2 || s.on SAF.STAT_MEAS_STOP || s.anyFault

/-- Whether a cause holds a channel of OSSD2 off (R293). -/
def State.warnCause (s : State) (b : Bool) : Bool :=
  !s.on SAF.OSSD_CFG_OSSD2_EN || s.stopCause b ||
  (s.on SAF.OSSD_CFG_OSSD2_SRC && ((if b then s.saf.fs[3].on else s.saf.fs[1].on) || s.commanded 1 ||
    (s.saf.conns.toList.any fun c => c.warn) || s.diagActs 1))

/-- The cause of a pair for an island. -/
def State.pairCause (s : State) (p : Nat) (b : Bool) : Bool := if p = 0 then s.stopCause b else s.warnCause b

/-- OSSD2's channel where it follows OSSD1: as OSSD1's channel of the same island (R293). -/
def State.follow2 (s : State) (m : Nat) : Nat :=
  if s.on SAF.OSSD_CFG_OSSD2_SRC then m else putBit m 1 (hasBit m 0 && s.on SAF.OSSD_CFG_OSSD2_EN)

/-- The causes that stand, noted: a cause that arises has a MANUAL pair wait for a restart event, one that is off too (R293; log
entry 148). -/
def State.noteCauses (s : State) : State :=
  let now := [0, 1].filter fun p => s.pairCause p false || s.pairCause p true
  let wait := (now.filter fun p => !hasBit s.saf.cause p && s.manual p).foldl setBit s.saf.wait
  { s with saf.cause := now.foldl setBit 0, saf.wait := wait }.showPairs

/-- OSSD_UPDATE: every channel with a standing cause goes off; with `on`, at a tick strobe, a pair whose causes have all
ended and that does not wait for a restart turns on (R293). -/
def State.ossdUpdate (s : State) (on : Bool) : State :=
  let keep (m : Nat) (b : Bool) : Nat := s.follow2 ([0, 1].foldl (fun m p => if s.pairCause p b then clrBit m p else m) m)
  let s := (s.putChannels (keep s.saf.chA false) (keep s.saf.chB true)).noteCauses
  if !on then s else
  let up := [0, 1].filter fun p => !s.pairCause p false && !s.pairCause p true && !hasBit s.saf.wait p
  s.putChannels (s.follow2 (up.foldl setBit s.saf.chA)) (s.follow2 (up.foldl setBit s.saf.chB))

/-- Whether the emitter enables may stand, their check apart: not within 30 ms of the release of POR or WARM either (R257, R295, R299,
R424, R445; log entry 41). -/
def State.emitAllowed (s : State) : Bool :=
  (s.safState == 1 || s.safState == 2) && s.on SAF.EMIT_REQ && !s.emitFaults && decide (s.hkp.shut < 2) &&
  !(s.estop && s.on SAF.DIAG_ACT_ESTOP_EMIT) && !s.commanded 3 && !s.on SEC.MT_STAT_UNLOCKED && decide (s.boot.upAt + 300 ≤ s.now)

/-- The emitter enables follow their conditions (R295). -/
def State.emitUpdate (s : State) : State :=
  if s.emitAllowed && s.saf.emitOk then (s.wr SAF.EMIT_HS_EN 1).wr SAF.EMIT_LS_EN 1 else s.emitOff

/-! ## Emitter enables (R295, R296) -/

/-- EMIT_REQ: a change of REQ from 0 to 1 holds both enables off for the check (R295). -/
def emitReq (s : State) : State :=
  if s.on SAF.EMIT_REQ then s else ({ s with saf.emitOk := false }.wr SAF.EMIT_REQ 1).emitOff

/-- A write of 0 to REQ: both enables off, and the next change to 1 is checked anew (R295). -/
def State.emitDrop (s : State) : State := ({ s with saf.emitOk := false }.wr SAF.EMIT_REQ 0).emitOff

/-- EMIT_REQ (R295). -/
def execEmitReq (s : State) : Host.Outcome State Fault Refusal := onPage .saf s (emitReq s)

/-- The emitter readbacks shown, and the tick since which both read low (R296). -/
def State.putReadbacks (s : State) (hs ls : Bool) : State :=
  let s := (s.wrB SAF.EMIT_HS_RB hs).wrB SAF.EMIT_LS_RB ls
  { s with saf.rbLow := if hs || ls then none else some (s.saf.rbLow.getD s.now) }

/-- EMIT_CHECK: 1 ms after REQ both readbacks must read low; the islands assert the enables, and both must read high
within 1 ms (R295, R296). -/
def emitCheck (offHs offLs onHs onLs : Bool) (s : State) : State :=
  if s.saf.emitOk || !s.emitAllowed then s else
  let s := s.putReadbacks offHs offLs
  if offHs || offLs then s.safFault SAF.FAULT_EMIT 0 else
  let s := { s with saf.emitOk := true }.emitUpdate
  let s := s.putReadbacks onHs onLs
  if onHs && onLs then s else { s with saf.emitOk := false }.safFault SAF.FAULT_EMIT 0

/-- EMIT_CHECK (R295). -/
def execEmitCheck (offHs offLs onHs onLs : Bool) (s : State) : Host.Outcome State Fault Refusal :=
  live s (emitCheck offHs offLs onHs onLs s)

/-- EMIT_FAULT: a readback that has differed from its enable for 1 ms (R296). -/
def emitFault (hs ls : Bool) (s : State) : State :=
  let s := s.putReadbacks hs ls
  if hs != s.on SAF.EMIT_HS_EN || ls != s.on SAF.EMIT_LS_EN then { s with saf.emitOk := false }.safFault SAF.FAULT_EMIT 0 else s

/-- EMIT_FAULT (R296). -/
def execEmitFault (hs ls : Bool) (s : State) : Host.Outcome State Fault Refusal := live s (emitFault hs ls s)

/-! ## Safety inputs (R290 to R292) -/

/-- One channel filtered: the filtered state and the count of samples that differ from it (R290). -/
def filterChan (filt x : Bool) (n : Nat) : Bool × Nat := if x = filt then (filt, 0) else if n + 1 = 300 then (x, 0) else (filt, n + 1)

/-- One input sampled on both channels. A disagreement has lasted 0 at the first sample that shows it, and 10 µs more at each one
after (R290, R291). -/
def State.sampleInput (s : State) (n : Nat) (a b : Bool) : State :=
  if hn : n < 4 then
    if s.rd (SAF.INCFG_FUNC n) = 0 then s else
    let k := s.saf.ins[n]
    let st := s.rd SAF.INSTAT_STATE
    let b := if s.on (SAF.INCFG_ANTIVAL n) then !b else b
    let (fa, na) := filterChan (hasBit st (4 * n)) a k.cntA
    let (fb, nb) := filterChan (hasBit st (4 * n + 1)) b k.cntB
    let disc := if fa != fb && hasBit st (4 * n + 3) then k.disc + 1 else 0
    let hit := fa != fb && decide (100 * s.rd (SAF.INCFG_DISC_TIME n) ≤ disc)
    let cause := (k.cause || hit) && (fa || fb)
    let v := s.saf.ins.set n { k with cntA := na, cntB := nb, disc := disc, cause := cause }
    let s := { s with saf.ins := v }.wr SAF.INSTAT_STATE (putBit (putBit (putBit st (4 * n) fa) (4 * n + 1) fb) (4 * n + 3) (fa != fb))
    if hit then s.safFault SAF.FAULT_DISC n else s
  else s

/-- SAFETY_INPUT_SAMPLE: bit n of `a` and of `b` is the level of `SINnA` and `SINnB` (R290). -/
def safetyInputSample (a b : Nat) (s : State) : State :=
  (State.each (List.range 4) (fun n s => s.sampleInput n (hasBit a n) (hasBit b n)) s).ossdUpdate false |>.emitUpdate

/-- SAFETY_INPUT_SAMPLE (R290). -/
def execSafetyInputSample (a b : Fin 16) (s : State) : Host.Outcome State Fault Refusal :=
  live s (safetyInputSample a.val b.val s)

/-- Whether the cause of a latched fault that a restart clears is still present (R291, R294, R296, R298). -/
def State.causePresent (s : State) : Bool :=
  (s.saf.ins.toList.zipIdx.any fun (k, n) => k.cause && s.rd (SAF.INCFG_FUNC n) != 0) ||
  ([0, 1].any fun p => hasBit (s.rd SAF.FAULT_OSSD) p && decide (s.now < s.saf.ossdBad.toList.getD p 0 + 10000)) ||
  (s.on SAF.FAULT_EMIT && (match s.saf.rbLow with | some n => decide (s.now < n + 10000) | none => true)) ||
  (s.saf.conns.toList.zipIdx.any fun (k, c) => (k.stop || k.warn) && !s.connLive c) ||
  [SAF.FAULT_CROSS, SAF.FAULT_CLOCK, SAF.FAULT_SELFTEST, SAF.FAULT_TABLE].any s.on

/-- A restart event: taken while ESTOP inputs are 1, no field state is set and no fault cause is present; it clears the
latched faults and lifts the restart requirement (R292). -/
def State.restartEvent (s : State) : State :=
  if s.estop || (s.saf.fs.toList.any fun f => f.on) || s.causePresent then s else
  let s := (((s.wr SAF.FAULT_DISC 0).wr SAF.FAULT_OSSD 0).wr SAF.FAULT_EMIT 0).wr SAF.FAULT_CONN 0
  let conns := s.saf.conns.map fun (k : ConnSt) => { k with stop := false, warn := false }
  { s with saf.conns := conns, saf.wait := 0 }.showPairs

/-- The evaluated states taken at a tick strobe, and the restart events of the RESTART inputs (R290, R292). -/
def State.evalInputs (s : State) : State :=
  State.each (List.range 4) (fun n s =>
    if hn : n < 4 then
      let st := s.rd SAF.INSTAT_STATE
      let old := hasBit st (4 * n + 2)
      let new := if hasBit st (4 * n) == hasBit st (4 * n + 1) then hasBit st (4 * n) else old
      let k := s.saf.ins[n]
      let v := s.saf.ins.set n { k with ones := if new then k.ones + 1 else 0 }
      let s := { s with saf.ins := v }.wr SAF.INSTAT_STATE (putBit st (4 * n + 2) new)
      if s.rd (SAF.INCFG_FUNC n) = 5 ∧ old ∧ !new ∧ 2000 ≤ k.ones ∧ k.ones ≤ 50000 then s.restartEvent else s
    else s) s

/-! ## Output tests (R294) -/

/-- The phase of a channel's test pulse within the 10 ms, in µs (R294). -/
def pulsePhase (pair : Nat) (b : Bool) : Nat := 2500 * pair + (if b then 5000 else 0)

/-- Whether a readback is low at an instant of the 10 ms; `lows` names the stretches in which it is. -/
def lowAt (lows : List (Nat × Nat)) (t : Nat) : Bool := lows.any fun x => decide (x.1 ≤ t) && decide (t < x.2)

/-- Whether a readback is low throughout `n` µs from an instant on. -/
def lowFor (lows : List (Nat × Nat)) (t n : Nat) : Bool := (List.range n).all fun i => lowAt lows (t + i)

/-- The longest stretch, in µs, that a readback stands at a level between two instants of the 10 ms. -/
def longest (lows : List (Nat × Nat)) (level : Bool) (a b : Nat) : Nat :=
  ((List.range (b - a)).foldl (fun (m : Nat × Nat) i =>
    if lowAt lows (a + i) != level then (m.1 + 1, max m.2 (m.1 + 1)) else (0, m.2)) (0, 0)).2

/-- Whether a channel's readback met the conditions of R294 over the 10 ms that begin with its pulse's phase: on, it follows its
pulse, does not stand low for 1 ms beside it, and does not drop in the pulse of another channel that is on; off, it does not stand
high for 1 ms. -/
def State.readbackGood (s : State) (pair : Nat) (b : Bool) (lows : List (Nat × Nat)) : Bool :=
  let on (p : Nat) (b : Bool) : Bool := hasBit (if b then s.saf.chB else s.saf.chA) p
  if on pair b then
    let others := [(0, false), (0, true), (1, false), (1, true)].filter fun c => c != (pair, b) && on c.1 c.2
    lowFor lows 150 150 && decide (longest lows false 450 10000 < 1000) &&
    others.all fun c =>
      let d := (pulsePhase c.1 c.2 + 10000 - pulsePhase pair b) % 10000
      (List.range 300).all fun i => !lowAt lows (d + i)
  else decide (longest lows true 0 10000 < 1000)

/-- OSSD_TEST_PULSE: the 10 ms test of a channel: `pair` 0 or 1, `b` for channel B; `lows` are the stretches, in µs from the phase of
its pulse on, in which its readback reads low (R294). -/
def ossdTestPulse (pair : Fin 2) (b : Bool) (lows : List (Nat × Nat)) (s : State) : State :=
  let good := s.readbackGood pair.val b lows
  let on := hasBit (if b then s.saf.chB else s.saf.chA) pair.val
  let v := if good && !on then s.saf.ossdBad else s.saf.ossdBad.set pair s.now
  let s := { s with saf.ossdBad := v }
  if good then s else (s.safFault SAF.FAULT_OSSD pair.val).ossdUpdate false

/-- OSSD_TEST_PULSE (R294). -/
def execOssdTestPulse (pair : Fin 2) (b : Bool) (lows : List (Nat × Nat)) (s : State) : Host.Outcome State Fault Refusal :=
  live s (ossdTestPulse pair b lows s)

/-! ## Selection (R283) -/

/-- The set index read at a tick strobe, none where the telegram in use requests none (R283, R304). -/
def State.setIndex (s : State) : Option Nat :=
  if s.on SAF.SEL_SRC then
    let c := s.saf.conns.toList.getD (s.rd SAF.SEL_CONN) {}
    if hasBit c.set 3 then some (c.set % 8) else none
  else
    some (((List.range 3).filter fun k =>
      (List.range 4).any fun n => s.rd (SAF.INCFG_FUNC n) == k + 1 && hasBit (s.rd SAF.INSTAT_STATE) (4 * n + 2)).foldl setBit 0)

/-- The index read at a strobe, kept with the readings of its coat (R283). -/
def State.readIndex (s : State) : State :=
  let s := if s.step128 = 0 then { s with saf.idxPrev := s.saf.idx, saf.idx := none } else s
  let r := s.setIndex
  { s with saf.idx := some (match s.saf.idx with
      | none => r
      | some x => if x = r then x else none) }

/-- The selection shown (R309). -/
def State.showSel (s : State) : State :=
  (s.wrB SAF.STAT_SEL_INVALID s.saf.selBad).wr SAF.STAT_FSET (s.saf.set.getD 0)

/-- Both counts of both fields restarted (R288). -/
def restartCounts (v : Vector FieldSt 4) : Vector FieldSt 4 := v.map fun (f : FieldSt) => { f with det := 0, clr := 0 }

/-- The selection of the coming coat at a coat boundary, and the coat's record begun (R283). -/
def State.safCoat (s : State) (wasEmpty : Bool) : State :=
  let done := { s.saf.cur with empty := wasEmpty }
  if s.safState ≠ 2 then { s with saf.prev := done, saf.concluded := true, saf.cur := {} } else
  let s := match s.saf.idxPrev with
    | some (some i) =>
      let en := match s.saf.img with | some f => f.setEn i | none => false
      if en then { s with saf.set := some i, saf.selBad := false, saf.missed := 0 }
      else { s with saf.selBad := true, saf.missed := 0 }
    | _ =>
      let n := s.saf.missed + 1
      { s with saf.missed := n, saf.selBad := s.saf.selBad || decide (4 ≤ n) }
  let bad := s.saf.selBad || (s.on SAF.SEL_SRC && !s.connLive (s.rd SAF.SEL_CONN))
  { s with saf.selBad := bad, saf.prev := done, saf.concluded := false, saf.cur := { set := s.saf.set } }.showSel

/-! ## Evaluation (R281, R284 to R286) -/

/-- What an island finds of one cell. -/
structure CellEval where
  unmon : Bool := false
  pf  : Bool := false
  wf  : Bool := false
  out : Bool := false
  deriving DecidableEq, Repr

/-- Whether a distance counts under an entry, in units of `unit` per coarse bin, with `more` bins added (R281). -/
def counts (v scale unit more d : Nat) : Bool := v != 0 && decide (d < unit * (v * 2 ^ scale + more))

/-- Whether a measurement of a row meets a case of R286 for an island: it was not made, was dropped or left unlit, or fell in a
flagged tick; for island A its records carry DEGR, for island B its summary BLIND. -/
def State.unmonitored (s : State) (w : Win) (row : Nat) (b : Bool) : Bool :=
  let m := w.row row
  !w.worked row || hasBit w.dropped (row / 16) || w.degr ||
  (if b then m.blind || m.scrim.isNone else m.degr || !m.masked || s.chanFailed (w.col % 4))

/-- Island A's findings of a row (R284). -/
def State.islandA (s : State) (f : FieldImg) (set : Nat) (w : Win) (row : Nat) : CellEval :=
  let e (field : Nat) := f.entry false set field w.head row w.col
  if s.unmonitored w row false then { unmon := e 0 != 0 } else
  let sc := slice (f.scale set) (2 * w.head) 2
  let rets := ((w.row row).rets.getD [])
  let near := 128 * s.rd (SAF.HCFG_NEAR_RANGE w.head)
  let used := rets.filter fun r => !((r.cls == 4 && s.on (SAF.HCFG_PERMIT4 w.head) ||
    r.cls == 5 && s.on (SAF.HCFG_PERMIT5 w.head)) && decide (near ≤ r.range))
  { pf := used.any fun r => counts (e 0) sc 128 0 r.range
    wf := used.any fun r => counts (e 1) sc 128 0 r.range
    out := rets.any fun r => counts (e 0) sc 128 2 r.range }

/-- Island B's findings of a row, with whether it holds a counting peak in the protective field whatever its
persistence; `last` tells whether the cell's previous measurement held one (R285). -/
def State.islandB (s : State) (f : FieldImg) (set : Nat) (w : Win) (row : Nat) (last : Bool) : CellEval × Bool :=
  let e (field : Nat) := f.entry true set field w.head row w.col
  if s.unmonitored w row true then ({ unmon := e 0 != 0 }, false) else
  let sc := slice (f.scale set) (2 * w.head) 2
  let ps := (w.row row).scrim.getD []
  let ok (p : Peak) : Bool := !s.permits w.head || decide (p.bin < s.rd (SAF.HCFG_NEAR_RANGE w.head)) || last
  ({ pf := ps.any fun p => counts (e 0) sc 1 0 p.bin && ok p
     wf := ps.any fun p => counts (e 1) sc 1 0 p.bin && ok p
     out := ps.any fun p => counts (e 0) sc 1 2 p.bin },
   ps.any fun p => counts (e 0) sc 1 0 p.bin)

/-- A row's findings entered in its column's. -/
def ColEval.row (c : ColEval) (r : Nat) (x : CellEval) : ColEval :=
  { c with seen := setBit c.seen r, pf := putBit c.pf r x.pf, wf := putBit c.wf r x.wf, out := putBit c.out r x.out
           unmon := putBit c.unmon r x.unmon }

/-- Where the islands keep a cell column. -/
def colKey (head col : Nat) : Nat := head * 1024 + col

/-- An island's findings of a column in a coat. -/
def CoatEval.col (c : CoatEval) (b : Bool) (key : Nat) : ColEval := Sparse.get (if b then c.b else c.a) key {}

/-- An island's findings of a column changed. -/
def CoatEval.upd (c : CoatEval) (b : Bool) (key : Nat) (f : ColEval → ColEval) : CoatEval :=
  if b then { c with b := Sparse.put c.b key (f (c.col true key)) } else { c with a := Sparse.put c.a key (f (c.col false key)) }

/-- Whether a measurement of tick `m` belongs to the coat before the one in progress. -/
def State.coatBefore (s : State) (m : Nat) : Bool := decide (m + s.step128 < s.now)

/-- The record of the coat of a measurement. -/
def State.evalOf (s : State) (m : Nat) : CoatEval := if s.coatBefore m then s.saf.prev else s.saf.cur

/-- The record of the coat of a measurement changed. -/
def State.coatEval (s : State) (m : Nat) (f : CoatEval → CoatEval) : State :=
  if s.coatBefore m then { s with saf.prev := f s.saf.prev } else { s with saf.cur := f s.saf.cur }

/-- One row of a unit evaluated by an island. Island B's bit of the cell follows its latest measurement, and an evaluation that a
replay makes anew starts from the bit that its first pass found (R285, R286). -/
def State.safRow (s : State) (f : FieldImg) (set : Nat) (w : Win) (row : Nat) (b : Bool) : State :=
  let key := colKey w.head w.col
  if b then
    let old := Sparse.get s.saf.peaks key 0
    let c := (s.evalOf w.mtick).col true key
    let last := if hasBit c.had row then hasBit c.prior row else hasBit old row
    let x := s.islandB f set w row last
    let s := { s with saf.peaks := Sparse.set s.saf.peaks key (putBit old row x.2) 0 }
    s.coatEval w.mtick fun c => c.upd true key fun y =>
      { y.row row x.1 with had := setBit y.had row, prior := putBit y.prior row last }
  else s.coatEval w.mtick fun c => c.upd false key fun y => y.row row (s.islandA f set w row)

/-- The slot of a unit in an island (engine 11, lane 0 for A and 1 for B); a unit marked for replay waits for its
replayed pass (R284 to R286). -/
def State.safUnit (s : State) (u : WorkUnit) (b : Bool) : State :=
  if s.safState ≠ 2 || s.scd.marks.any (fun r => r.wu == u) then s else
  match s.winOf u, s.saf.img, (s.evalOf u.mtick).set with
  | some w, some f, some set => State.each (List.range 16) (fun i s => s.safRow f set w (16 * u.group + i) b) s
  | _, _, _ => s

/-- The column of cells that a unit's measurements lie in. -/
def State.unitCol (s : State) (u : WorkUnit) : Nat := 8 * (s.tickOf u.mtick % 128) + emitterColumn u.window

/-- A unit marked for replay: what the islands found of it is forgotten until its replayed pass (R286). -/
def State.forgetUnit (s : State) (u : WorkUnit) : State :=
  let off (m : Nat) : Nat := (List.range 16).foldl (fun m i => clrBit m (16 * u.group + i)) m
  State.each [false, true] (fun b s => s.coatEval u.mtick fun c => c.upd b (colKey u.head (s.unitCol u)) fun y =>
    { y with seen := off y.seen, pf := off y.pf, wf := off y.wf, out := off y.out, unmon := off y.unmon }) s

/-- Both islands told of dropped units: their cells of the protective field are unmonitored, whatever the islands had found of them
(R48, R286). -/
def State.tellIslands (s : State) (us : List WorkUnit) : State :=
  match s.saf.img with
  | none => s
  | some f => State.each us (fun u s =>
      match (s.evalOf u.mtick).set with
      | none => s
      | some set => State.each [false, true] (fun b s => s.coatEval u.mtick fun c =>
          c.upd b (colKey u.head (s.unitCol u)) fun y => (List.range 16).foldl (fun y i =>
            let row := 16 * u.group + i
            y.row row { unmon := f.entry b set 0 u.head row (s.unitCol u) != 0 }) y) s) s

/-- The bits of `a` that are not in `b`. -/
def without (a b : Nat) : Nat := a - (a &&& b)

/-- The rows of a column that a set's protective field covers, as a mask (R280). -/
def FieldImg.fieldRows (f : FieldImg) (b : Bool) (set key : Nat) : Nat :=
  (List.range 16).foldl (fun m band =>
    if f.entry b set 0 (key / 1024) (8 * band) (key % 1024) = 0 then m else m + 255 * 2 ^ (8 * band)) 0

/-- The rows of a column that are unmonitored for an island: so evaluated, or not evaluated at all (R286). -/
def FieldImg.unmonRows (f : FieldImg) (c : CoatEval) (b : Bool) (set key : Nat) : Nat :=
  (c.col b key).unmon ||| without (f.fieldRows b set key) (c.col b key).seen

/-- The heads of which an island found something by `g` in a coat, its unmonitored cells counting (R286). -/
def FieldImg.heads (f : FieldImg) (c : CoatEval) (b : Bool) (set : Nat) (g : ColEval → Nat) : Nat :=
  ((List.range 8).filter fun h => (List.range 1024).any fun col =>
    g (c.col b (colKey h col)) != 0 || f.unmonRows c b set (colKey h col) != 0).foldl setBit 0

/-- Whether an island found something by `g` in a coat on cells that are monitored for both islands (R289). -/
def FieldImg.found (f : FieldImg) (c : CoatEval) (b : Bool) (set : Nat) (g : ColEval → Nat) : Bool :=
  (if b then c.b else c.a).any fun x =>
    without (without (g x.2) (f.unmonRows c false set x.1)) (f.unmonRows c true set x.1) != 0

/-- A field's state after a coat (R287). -/
def FieldSt.conclude (f : FieldSt) (n clr : Nat) (det : Bool) : FieldSt :=
  let d := if det then f.det + 1 else 0
  let c := if det then 0 else f.clr + 1
  { det := d, clr := c, on := if n ≤ d then true else if clr ≤ c then false else f.on }

/-- The verdicts of a coat under its set: the heads that detect in the protective and in the warning field for A and for B, the
field states after it, divergence, and what is shown (R287, R289). -/
def State.conclude (s : State) (f : FieldImg) (set : Nat) : State :=
  let c := s.saf.prev
  let pfA := f.heads c false set ColEval.pf ||| c.scrubA
  let pfB := f.heads c true set ColEval.pf ||| c.scrubB
  let wfA := f.heads c false set ColEval.wf ||| c.scrubA
  let wfB := f.heads c true set ColEval.wf ||| c.scrubB
  let unmon := f.heads c false set (fun _ => 0) ||| f.heads c true set (fun _ => 0)
  let n := s.rd SAF.EVAL_N
  let clr := s.rd SAF.EVAL_CLR_COATS
  let v := s.saf.fs.zipWith (fun (x : FieldSt) (m : Nat) => x.conclude n clr (m != 0)) #v[pfA, wfA, pfB, wfB]
  let diverge := (f.found c false set ColEval.pf && !f.found c true set ColEval.out) ||
    (f.found c true set ColEval.pf && !f.found c false set ColEval.out)
  let d := if diverge then s.saf.div + 1 else 0
  let s := { s with saf.fs := v, saf.div := d, saf.wfHeads := wfA ||| wfB }
  let s := (((s.wr SAF.VERDICT_PF_A pfA).wr SAF.VERDICT_PF_B pfB).wr SAF.VERDICT_UNMON unmon).wr SAF.VERDICT_WF_A wfA
  let s := ((s.wrapInc SAF.STAT_COATS).wrB SAF.STAT_PF_DEM (v[0].on || v[2].on)).wrB SAF.STAT_WF_DEM (v[1].on || v[3].on)
  let s := if s.scd.measuring && !v[0].on && !v[2].on && pfA == 0 && pfB == 0 then s.wr SAF.STAT_MEAS_STOP 0 else s
  if d = s.rd SAF.EVAL_DIV_COATS then s.safFault SAF.FAULT_CROSS 0 else s

/-- COAT_CONCLUSION: at the end of tick 1 of the following coat the islands conclude the coat and exchange verdicts. A
coat with no set in force, or emptied by throttle step 3, is skipped. A coat is concluded under its own set, and where another set
has taken hold since, its counts then start at 0 (R287 to R289; log entries 42 and 149). -/
def coatConclusion (s : State) : State :=
  if s.safState ≠ 2 || s.saf.concluded || s.step128 != 1 then s else
  let s := { s with saf.concluded := true }
  let c := s.saf.prev
  let s := match c.set, s.saf.img with
    | some set, some f => if c.empty then s else s.conclude f set
    | _, _ => s
  if c.set = s.saf.set then s else { s with saf.fs := restartCounts s.saf.fs }

/-- COAT_CONCLUSION (R287). -/
def execCoatConclusion (s : State) : Host.Outcome State Fault Refusal := live s (coatConclusion s)

/-- The bytes of the safety store before the field image: the SCID and the RWL registers of SAF (log entry 44). -/
def safStoreHead : Nat := 4 + 4 * (rwlOffsets .saf).length

/-- The field image of the safety store, where one is selected. -/
def State.storeImage (s : State) : Option FieldImg :=
  (s.recSelect 8).map fun c => fieldAt s.flash (copyAt 8 c + 64 + safStoreHead) 0xFF

/-- The 4 KiB of an image around an offset of a table, taken from another image (R282). -/
def FieldImg.reload (f store : FieldImg) (b : Bool) (o : Nat) : FieldImg :=
  let at_ := 256 + (if b then 2097152 else 0) + o / 4096 * 4096
  { f with cells := (List.range 4096).foldl (fun m i => Sparse.set m (at_ + i) (store.byte (at_ + i)) f.other) f.cells }

/-- TABLE_SCRUB: a parity error that an island's scrub found in the coat that ends: island B, offset of the entry in its table, and
whether the reload failed. The entry's band counts for both fields where it is an entry of the coat's set, and the island takes the
4 KiB around it from the safety store; where it cannot, it raises a TABLE fault (R282). -/
def State.tableScrub (s : State) (errs : List (Bool × Nat × Bool)) : State :=
  State.each errs (fun (b, o, fails) s =>
    let h := o / 16384 % 8
    let c := s.saf.prev
    let c := if c.set ≠ some (o / 262144) then c
      else if b then { c with scrubB := setBit c.scrubB h } else { c with scrubA := setBit c.scrubA h }
    let s := { s with saf.prev := c }
    match s.storeImage, s.saf.img with
    | some store, some f => if fails then s.safFault SAF.FAULT_TABLE 0 else { s with saf.img := some (f.reload store b o) }
    | _, _ => s.safFault SAF.FAULT_TABLE 0) s

/-! ## The tick strobe -/

/-- RUN entered, from START or from CONFIG: no set in force, fields set until coats have cleared them, and both pairs
waiting unless START_AUTO is set (R283, R293; log entry 43). -/
def State.enterRun (s : State) : State :=
  let s := { s with saf.set := none, saf.selBad := true, saf.idx := none, saf.idxPrev := none, saf.missed := 0, saf.div := 0,
                    saf.fs := Vector.replicate 4 {}, saf.peaks := [], saf.cur := {}, saf.prev := {}, saf.concluded := true,
                    saf.cause := 3, saf.wait := if s.on SAF.OSSD_CFG_START_AUTO then 0 else 3 }
  (((s.toState 2).wr SAF.STAT_PF_DEM 1).wr SAF.STAT_WF_DEM 1).showSel.showPairs

/-- A connection's receiver put in SYNC where it is enabled with role 2 or 3, off otherwise (R306). -/
def State.connInit (s : State) (c : Nat) : State :=
  let use := s.on (SAF.CONN_CFG_EN c) && decide (2 ≤ s.rd (SAF.CONN_CFG_ROLE c))
  if hc : c < 16 then
    let k := s.saf.conns[c]
    let v := s.saf.conns.set c { k with last := none, got := 0, cmd := 0, set := 0 }
    { s with saf.conns := v }.wr (SAF.CONN_STAT_STATE c) (if use then 1 else 0)
  else s

/-- What the islands do at a tick strobe (R283, R290, R293, R295, R297, R299, R306). -/
def State.safTick (s : State) : State :=
  let s := if s.saf.toConfig ∧ s.safState ≠ 3 then ({ s with saf.toConfig := false }.putChannels 0 0).toState 1
    else { s with saf.toConfig := false }
  let s := s.evalInputs.readIndex
  let s := if !s.scd.measuring || s.headMask == 0 then s.wr SAF.STAT_MEAS_STOP 1 else s
  let s := State.each (List.range 16) (fun c s => if s.rd (SAF.CONN_STAT_STATE c) = 3 then s.connInit c else s) s
  let bad := s.saf.selBad || (s.on SAF.SEL_SRC && !s.connLive (s.rd SAF.SEL_CONN))
  ({ s with saf.selBad := bad }.showSel.ossdUpdate true).emitUpdate

/-! ## Loads, configuration, and states (R282, R297, R298) -/

/-- FLOAD: a write with GO (R282). -/
def floadGo (flash : Bool) (s : State) : State :=
  if s.safState ≠ 1 then s.wr SAF.FLOAD_CODE SAFETY_LOCK
  else if s.on SAF.FLOAD_BUSY then s.wr SAF.FLOAD_CODE CFG_BUSY
  else (s.wrB SAF.FLOAD_FLASH flash).wr SAF.FLOAD_BUSY 1

/-- FLOAD (R282). -/
def execFload (flash : Bool) (s : State) : Host.Outcome State Fault Refusal := onPage .saf s (floadGo flash s)

/-- FLOAD_DONE: the load ends with its result, and the identities are computed; one from device memory ends at the
first burst that fails its check (R231, R282). -/
def floadDone (flips : List Flip) (s : State) : State :=
  if !s.on SAF.FLOAD_BUSY then s else
  let a := s.rd SAF.FL_ADDR_ADDR * 4096
  let flash := s.on SAF.FLOAD_FLASH
  let inside := !flash && decide (a + fieldLen ≤ s.memSize)
  let bad := if inside then s.firstBad flips a (fieldLen / 64) else none
  let s := s.countFirst flips bad
  let f := if flash then s.storeImage else if inside then some (fieldAt (s.asRead flips).mem a 0) else none
  let code := match f with
    | none => CFG_RANGE
    | some f => if bad.isSome then PARITY else f.check
  let s := (s.wr SAF.FLOAD_BUSY 0).wr SAF.FLOAD_CODE code
  s.takeImage (if code = 0 then f else none)

/-- ENTER_CONFIG: CONFIG is entered at the next tick strobe, from any state except FAULT_W (R297). -/
def enterConfig (s : State) : State := if s.safState = 3 then s else { s with saf.toConfig := true }

/-- ENTER_CONFIG (R297). -/
def execEnterConfig (s : State) : Host.Outcome State Fault Refusal := onPage .saf s (enterConfig s)

/-- Whether a configuration may be confirmed, the SCID apart (R297). -/
def State.confirmable (s : State) : Bool :=
  let dup := (List.range 3).any fun k => decide (1 < ((List.range 4).filter fun n => s.rd (SAF.INCFG_FUNC n) == k + 1).length)
  let source := (List.range 4).any (fun n => s.rd (SAF.INCFG_FUNC n) == 5) ||
    (List.range 16).any fun c => s.on (SAF.CONN_CFG_EN c) && decide (2 ≤ s.rd (SAF.CONN_CFG_ROLE c))
  let manual := !s.on SAF.OSSD_CFG_AUTO1 || (s.on SAF.OSSD_CFG_OSSD2_EN && !s.on SAF.OSSD_CFG_AUTO2)
  let need := manual || !s.on SAF.OSSD_CFG_START_AUTO
  (match s.saf.img with
    | some f => (List.range 8).all fun i => !f.setEn i || f.count i == 1 || f.count i == 2
    | none => false) && !dup && (!need || source)

/-- The words of the RWL registers of SAF, in register order (R282). -/
def State.rwlWords (s : State) : List Byte := (rwlOffsets .saf).flatMap fun o => leBytes 4 (s.rwlWord .saf o)

/-- The configuration that stands, confirmed under its SCID (R297). -/
def State.confirmed (s : State) (v : Nat) : State :=
  { s with saf.confirmed := some v, saf.confWords := s.rwlWords, saf.confImg := s.saf.img }

/-- CONFIRM: a write of CONFIRM leaves CONFIG for RUN, or is refused (R297). -/
def confirm (v : Nat) (s : State) : State :=
  let w := SAF.CONFIRM_SCID.word
  if s.safState ≠ 1 then s.errCode .saf SAFETY_LOCK w
  else if s.on SAF.FLOAD_BUSY then s.errCode .saf CFG_BUSY w
  else
    let s := (s.wr SAF.SCID_A_SCID s.scid).wr SAF.SCID_B_SCID s.scid
    if s.confirmable && v == s.rd SAF.SCID_A_SCID && v == s.rd SAF.SCID_B_SCID then
      (s.errCode .saf OK w).confirmed v |>.enterRun
    else s.errCode .saf CFG_RANGE w

/-- CONFIRM (R297). -/
def execConfirm (v : BitVec 32) (s : State) : Host.Outcome State Fault Refusal := onPage .saf s (confirm v.toNat s)

/-- SAFETY_STORE: a write of MODE.STORE writes the confirmed configuration to the safety store, as it was confirmed (R297, R432). -/
def safetyStore (s : State) : State :=
  let w := SAF.MODE_STORE.word
  if s.on SAF.MODE_STORE_BUSY then s.errCode .saf CFG_BUSY w else
  match s.saf.confImg, s.saf.confirmed with
  | some f, some v =>
    (s.flashAsk { src := .saf, area := 8, body := leBytes 4 v ++ s.saf.confWords ++ f.bytes }).wr SAF.MODE_STORE_BUSY 1
  | _, _ => s.wr SAF.MODE_STORE_CODE CFG_RANGE

/-- SAFETY_STORE (R297). -/
def execSafetyStore (s : State) : Host.Outcome State Fault Refusal := onPage .saf s (safetyStore s)

/-- The RWL fields of SAF taken from the bytes of the safety store (R309). -/
def State.restoreRwl (s : State) (b : List Byte) : State :=
  State.each (rwlOffsets .saf).zipIdx (fun (o, i) s =>
    let word := u32 b (4 + 4 * i)
    State.each (Page.saf.fields.filter fun f => f.key / 32 == o && f.acc == Acc.rwl) (fun f s =>
      s.wr f (word / 2 ^ (f.key % 32))) s) s

/-- ISLAND_START_END: the self-test and the load from the safety store have ended; START ends in RUN when the SCID
computed equals the confirmed one, in CONFIG otherwise, and in FAULT_W when the self-test failed (R297, R298). -/
def islandStartEnd (selfTest : Bool) (s : State) : State :=
  if s.safState ≠ 0 ∨ s.rd CTL.BOOT_STAT_STAGE = 7 then s else
  if !selfTest then s.safFault SAF.FAULT_SELFTEST 0 else
  match s.recSelect 8 with
  | none => (s.takeImage none).toState 1
  | some c =>
    let b := s.fldN (copyAt 8 c + 64) safStoreHead
    let s := s.restoreRwl b
    let f := fieldAt s.flash (copyAt 8 c + 64 + safStoreHead) 0xFF
    let s := s.takeImage (if f.check = 0 then some f else none)
    let s := State.each (List.range 16) (fun c s => s.connInit c) s
    if f.check = 0 ∧ s.scid = u32 b 0 then (s.confirmed s.scid).enterRun
    else s.toState 1

/-- ISLAND_START_END (R297). -/
def execIslandStartEnd (selfTest : Bool) (s : State) : Host.Outcome State Fault Refusal := live s (islandStartEnd selfTest s)

/-- CLOCK_FAULT: no tick strobe for 300 µs, or a tick period 2 % off over a coat (R298). -/
def execClockFault (s : State) : Host.Outcome State Fault Refusal := live s (s.safFault SAF.FAULT_CLOCK 0)

/-- ISLAND_PARITY_ERROR: a parity error in an island's logic state (R298). -/
def execIslandParityError (s : State) : Host.Outcome State Fault Refusal := live s (s.safFault SAF.FAULT_SELFTEST 0)

/-- The islands put back to START by WARM, POR or TAKEOVER: the RWL fields at their reset values until the load, faults
cleared, outputs and enables off (R299, R309, R444). -/
def State.safStart (s : State) : State :=
  let s := s.safOff
  let s := { s with regs := s.regs.filter fun e => !(Page.saf.fields.map Fld.key).contains e.1, saf := {} }
  s

/-- Whether a value is broken for a commit of SAF (R310); every RWL commit outside CONFIG is rejected (R297). -/
def safCheck (s : State) : List (Nat × Nat) :=
  let changed := Page.saf.fields.filter fun f => f.acc == Acc.rwl && s.rdSh f != s.rd f
  let lock := if s.safState = 1 then [] else changed.map fun f => (SAFETY_LOCK, f.word)
  let zero (f : Fld) : List (Nat × Nat) := if s.rdSh f = 0 then [(CFG_ZERO, f.word)] else []
  let bad (f : Fld) (b : Bool) : List (Nat × Nat) := if b then [(CFG_RANGE, f.word)] else []
  lock ++ zero SAF.EVAL_N ++ zero SAF.EVAL_CLR_COATS ++ zero SAF.EVAL_DIV_COATS ++
  bad SAF.EVAL_N (decide (4 < s.rdSh SAF.EVAL_N)) ++ bad SAF.EVAL_CLR_COATS (decide (8 < s.rdSh SAF.EVAL_CLR_COATS)) ++
  bad SAF.EVAL_DIV_COATS (s.rdSh SAF.EVAL_DIV_COATS == 1) ++
  bad SAF.DIAG_ACT_DIRT (s.rdSh SAF.DIAG_ACT_DIRT == 3) ++ bad SAF.DIAG_ACT_DISP (s.rdSh SAF.DIAG_ACT_DISP == 3) ++
  bad SAF.SEL_SRC (s.rdSh SAF.SEL_SRC == 1 && decide (s.rdSh (SAF.CONN_CFG_ROLE (s.rdSh SAF.SEL_CONN)) < 2)) ++
  ((List.range 4).flatMap fun n =>
    zero (SAF.INCFG_DISC_TIME n) ++
    bad (SAF.INCFG_DISC_TIME n) (decide (0 < s.rdSh (SAF.INCFG_DISC_TIME n)) && decide (s.rdSh (SAF.INCFG_DISC_TIME n) < 10) ||
      decide (500 < s.rdSh (SAF.INCFG_DISC_TIME n))) ++
    bad (SAF.INCFG_FUNC n) (decide (5 < s.rdSh (SAF.INCFG_FUNC n)))) ++
  ((List.range 8).flatMap fun h => zero (SAF.HCFG_NEAR_RANGE h)) ++
  (List.range 16).flatMap fun c =>
    zero (SAF.CONN_TIM_WDOG c) ++ zero (SAF.CONN_TIM_TX_MS c) ++
    bad (SAF.CONN_TIM_WDOG c) (decide (1000 < s.rdSh (SAF.CONN_TIM_WDOG c))) ++
    bad (SAF.CONN_TIM_TX_MS c) (decide (1000 < s.rdSh (SAF.CONN_TIM_TX_MS c))) ++
    bad (SAF.CONN_CFG_REACT c) (s.rdSh (SAF.CONN_CFG_REACT c) == 3) ++
    bad (SAF.CONN_CFG_ROLE c) (s.rdSh (SAF.CONN_CFG_EN c) == 1 && s.rdSh (SAF.CONN_CFG_ROLE c) == 0)

/-! ## Telegrams (R304 to R306) -/

/-- CONN_ID of a connection (R305). -/
def State.connId (s : State) (c : Nat) : Nat :=
  let own := s.rd GSL.IDENT_DOMAIN_ID
  let partner := s.rd (SAF.CONN_CFG_PARTNER c)
  if s.on (SAF.CONN_CFG_OWNER c) then own * 262144 + c * 16384 + partner
  else partner * 262144 + s.rd (SAF.CONN_CFG_OWN_IDX c) * 16384 + own

/-- A connection's state put. -/
def State.putConn (s : State) (c : Nat) (f : ConnSt → ConnSt) : State :=
  if hc : c < 16 then
    let v := s.saf.conns.set c (f s.saf.conns[c])
    { s with saf.conns := v }
  else s

/-- A connection put in FAULT: its reaction applies (R306). -/
def State.connFault (s : State) (c : Fin 16) : State :=
  let react := s.rd (SAF.CONN_CFG_REACT c.val)
  let s := (s.wr (SAF.CONN_STAT_STATE c.val) 3).irq .saf 3
  let s := s.putConn c.val fun k => { k with stop := k.stop || react == 0, warn := k.warn || react == 1, cmd := 0 }
  if react ≤ 1 then s.safFault SAF.FAULT_CONN 0 else s

/-- An accepted command telegram: the connection's count, its commands, and a restart event (R292, R306). -/
def State.connAccept (s : State) (c : Fin 16) (seq cmd set : Nat) (inSeq : Bool) : State :=
  let k := s.saf.conns.toList.getD c.val {}
  let wasLive := s.connLive c.val
  let got := if k.last.isNone then 0 else if inSeq then k.got + 1 else 0
  let s := s.putConn c.val fun k => { k with last := some seq, got := got, accAt := s.now, cmd := cmd, set := set }
  let s := if !wasLive ∧ 2 ≤ got then (s.wr (SAF.CONN_STAT_STATE c.val) 2).irq .saf 3 else s
  if wasLive && hasBit cmd 2 && !hasBit k.cmd 2 then s.restartEvent else s

/-- A telegram received for a connection and checked (R306). -/
def State.telegram (s : State) (c : Fin 16) (b : List Byte) : State :=
  if s.rd (SAF.CONN_STAT_STATE c.val) = 0 then s else
  let k := s.saf.conns.toList.getD c.val {}
  let seq := u16 b 4
  let dir := if s.on (SAF.CONN_CFG_OWNER c.val) then 1 else 0
  if u32 b 0x1C ≠ crc32c (b.take 28) then s.satInc (SAF.CONN_STAT_BAD c.val)
  else if u32 b 0 ≠ s.connId c.val ∨ u8 b 7 ≠ 16 + dir ∨ u8 b 6 ≠ 2 then
    (s.wr (SAF.CONN_STAT_MASQ c.val) 1).connFault c
  else if s.saf.confirmed ≠ some (u32 b 0xC) then s.connFault c
  else match k.last with
    | none => s.connAccept c seq (u8 b 8) (u8 b 9) false
    | some last =>
      let d := (seq + 65536 - last) % 65536
      if d = 0 then s
      else if d = 1 then s.connAccept c seq (u8 b 8) (u8 b 9) true
      else if d ≤ 16 then (s.satInc (SAF.CONN_STAT_GAP c.val)).connAccept c seq (u8 b 8) (u8 b 9) false
      else s.satInc (SAF.CONN_STAT_BAD c.val)

/-- The enabled connection of a transport that a telegram names by its CONN_ID; on a Gosia port, a telegram that names
none is charged to the lowest connection of the port (R338; log entry 45). -/
def State.connFor (s : State) (port : Option Nat) (b : List Byte) : Option (Fin 16) :=
  let cs := (List.finRange 16).filter fun c => s.on (SAF.CONN_CFG_EN c.val) &&
    match port with
    | none => !s.on (SAF.CONN_CFG_TRANSPORT c.val)
    | some p => s.on (SAF.CONN_CFG_TRANSPORT c.val) && s.rd (SAF.CONN_CFG_PORT c.val) == p
  match cs.find? fun c => s.connId c.val == u32 b 0 with
  | some c => some c
  | none => if port.isSome then cs.head? else none

/-- TELEGRAM_RECEIVE: a safety telegram through the mailbox (no port) or through a Gosia port (R306, R338). -/
def telegramReceive (port : Option Nat) (b : List Byte) (s : State) : State :=
  match s.connFor port (subBytes b 0 32) with
  | some c => (s.telegram c (subBytes b 0 32)).ossdUpdate false |>.emitUpdate
  | none => if port.isNone then s.satInc CXL0.DOE_STAT_DISC else s

/-- TELEGRAM_RECEIVE (R306). -/
def execTelegramReceive (port : Option (Fin 4)) (b : List Byte) (s : State) : Host.Outcome State Fault Refusal :=
  live s (telegramReceive (port.map Fin.val) b s)

/-- OUT of a status telegram (R304). -/
def State.outByte (s : State) : Nat :=
  b2n (s.on SAF.STAT_OSSD1_ON) + 2 * b2n (s.on SAF.STAT_OSSD2_ON) + 4 * b2n (s.on SAF.STAT_PF_DEM) + 8 * b2n (s.on SAF.STAT_WF_DEM) +
  16 * b2n (s.anyFault || s.on SAF.FAULT_CONN) + 32 * b2n (s.on SAF.STAT_RESTART_REQ)

/-- A status telegram (R304). -/
def State.statusTelegram (s : State) (c seq : Nat) : List Byte :=
  let dir := if s.on (SAF.CONN_CFG_OWNER c) then 0 else 1
  let b := leBytes 4 (s.connId c) ++ leBytes 2 seq ++ leBytes 1 1 ++ leBytes 1 (16 + dir) ++ leBytes 1 s.outByte ++
    leBytes 1 (s.saf.set.getD 0) ++ leBytes 2 s.frame ++ leBytes 4 (s.saf.confirmed.getD 0) ++
    leBytes 1 (s.rd SAF.VERDICT_PF_A ||| s.rd SAF.VERDICT_PF_B) ++ leBytes 1 s.saf.wfHeads ++
    leBytes 1 (s.rd SAF.VERDICT_UNMON) ++ zeros 9
  b ++ leBytes 4 (crc32c b)

/-- STATUS_TELEGRAM_SEND: every TX_MS, or after OUT or SET has changed, at most one in a millisecond (R306). -/
def statusTelegramSend (c : Fin 16) (s : State) : State :=
  let k := s.saf.conns[c]
  let role := s.rd (SAF.CONN_CFG_ROLE c.val)
  let now := s.outByte + 256 * s.saf.set.getD 0
  let due := match k.txAt with
    | none => true
    | some t => decide (t + 10 * s.rd (SAF.CONN_TIM_TX_MS c.val) ≤ s.now) || (decide (t + 10 ≤ s.now) && k.sent != now)
  if !s.on (SAF.CONN_CFG_EN c.val) || role % 2 == 0 || !due then s else
  let b := s.statusTelegram c.val k.txSeq
  let s := s.putConn c.val fun k => { k with txSeq := (k.txSeq + 1) % 65536, txAt := some s.now, sent := now }
  if s.on (SAF.CONN_CFG_TRANSPORT c.val) then s.send (.telegram (s.rd (SAF.CONN_CFG_PORT c.val)) b)
  else
    let mine := s.saf.doeQ.filter fun e => e.1 == c.val
    let q := if 4 ≤ mine.length then s.saf.doeQ.erase (mine.headD (0, [])) else s.saf.doeQ
    { s with saf.doeQ := q ++ [(c.val, b)] }

/-- STATUS_TELEGRAM_SEND (R306). -/
def execStatusTelegramSend (c : Fin 16) (s : State) : Host.Outcome State Fault Refusal := live s (statusTelegramSend c s)

/-- TELEGRAM_WATCHDOG: no accepted telegram for WDOG ms since the last one (R306; log entry 46). -/
def telegramWatchdog (c : Fin 16) (s : State) : State :=
  let k := s.saf.conns[c]
  let st := s.rd (SAF.CONN_STAT_STATE c.val)
  if (st = 1 ∨ st = 2) ∧ k.last.isSome ∧ k.accAt + 10 * s.rd (SAF.CONN_TIM_WDOG c.val) ≤ s.now then
    ((s.satInc (SAF.CONN_STAT_LATE c.val)).connFault c).ossdUpdate false
  else s

/-- TELEGRAM_WATCHDOG (R306). -/
def execTelegramWatchdog (c : Fin 16) (s : State) : Host.Outcome State Fault Refusal := live s (telegramWatchdog c s)

end Sys2Proof.Machine
end

