-- ==== Sys2Proof/Machine/Twin.lean ====
section
/-! DEFINITION. The twin pair (R311 to R334): heartbeats and the twin port, the retention store, checkpoints, causes and roles. Takeover, role choice and wake-up, which touch every block, stand in the file on start-up. -/

namespace Sys2Proof.Machine

/-! ## Power (R440, R441) -/

/-- The power domains switched on, from the state and the heads and channels in use (R440). Bits 0 to 31 are the low
word. -/
def State.domains (s : State) : Nat :=
  let mt := if s.on SEC.MT_STAT_UNLOCKED then 2 ^ 49 else 0
  if s.inHold then 2 ^ 0 + 2 ^ 1 + 2 ^ 38 else
  let heads := s.headMask
  let perHead := heads * 2 ^ 4 + heads * 2 ^ 12 + heads * 2 ^ 20
  let quads := (List.range 4).foldl (fun m q => if heads / 4 ^ q % 4 = 0 then m else m + 2 ^ (28 + q)) 0
  let chans := (List.range 4).foldl (fun m c => if s.on (MEM.STAT_FAILED c) then m else m + 2 ^ (34 + c)) 0
  2 ^ 0 + 2 ^ 1 + 2 ^ 2 + 2 ^ 3 + perHead + quads + 2 ^ 32 + 2 ^ 33 + chans +
    (List.range 11).foldl (fun m i => m + 2 ^ (38 + i)) 0 + mt

/-- DOM_ON shows the domains that are on (R449). -/
def State.showDomains (s : State) : State :=
  let d := s.domains
  (s.wr PWR.DOM_ON_LO_ON d).wr PWR.DOM_ON_HI_ON (d / 2 ^ 32)

/-- Whether the device is one of a twin pair (R313). -/
def State.twinEn (s : State) : Bool := s.on TWN.CFG_TWIN_EN

/-- Whether the device publishes records in its role: in single-device mode and as TOPCOAT (R314). -/
def State.publishes (s : State) : Bool := !s.twinEn || s.role == 0 || s.role == 1

/-! ## Channel failure (R236) -/

/-- The cells of the present heads whose contexts lie in a channel: the columns with column mod 4 = c. -/
def State.channelCells (s : State) (c : Nat) : List CellSet :=
  s.heads.map fun h => { first := cellNo h.val 0 c, rows := 128, cols := 256, step := 2 }

/-- A channel declared failed: FAILED and its interrupt, and an event record; the failure is permanent (R236). -/
def channelFail (c : Fin 4) (s : State) : State :=
  if s.on (MEM.STAT_FAILED c.val) then s else
  let s := ((s.wr (MEM.STAT_FAILED c.val) 1).wr (MEM.STAT_TRAINED c.val) 0).orBits LTH.MEM_SIZE_FAILED (2 ^ c.val)
  let s := { s.bitPut CLK.PHY_LOCK_DDR c.val false with boot.memFail := true }.unclean.showDomains
  (s.irq (.mem c) 0).eventFull (.mem c) 0 0 (s.channelCells c.val) [] true

/-- The channels whose parity and tag errors of the coat have gone beyond 64 since they stood at `was` are declared failed (R236). -/
def State.channelsOver (t : State) (was : Vector Nat 4) : State :=
  State.each ((List.finRange 4).filter fun c => decide (was[c] ≤ 64) && decide (64 < t.memErrs[c])) channelFail t

/-! ## The twin port and the paths (R317, R318) -/

/-- Whether a path whose last sign came at a tick is silent: none within the last 1 ms (R317, R318). -/
def State.silentSince (s : State) (t : Option Nat) : Bool :=
  match t with
  | some t => decide (t + 10 ≤ s.now)
  | none => true

/-- The ALIVE path is present (R317). -/
def State.alivePresent (s : State) : Bool := !s.silentSince s.twn.aliveAt

/-- The twin-port path is present (R318). -/
def State.portPresent (s : State) : Bool := !s.silentSince s.twn.msgAt

/-- A device that becomes TOPCOAT out of HOLD or SHADOW reports from then on: its first event record is that of the takeover or the
handover (R356; DEDUCED, log entry 167). -/
def State.eventsAnew (s : State) : State := { s with host.evq := [], host.evSeq := 0 }

/-- A cause reported in EVENTS; the interrupt and the event record only in a role that reports so (R322, R333). -/
def State.twnEvent (s : State) (f : Fld) : State :=
  let s := s.wr f 1
  if s.role = 0 ∨ s.role = 1 ∨ s.role = 3 then
    (s.irq .twn 0).event .twn 0 [s.word .twn 0x7004C, s.word .twn 0x70050, s.word .twn 0x70054]
  else s

/-- A message of the twin port but for its CRC (R318). -/
def State.twinBody (s : State) (kind : Nat) (body : List Byte) : List Byte :=
  let flags := b2n s.alivePresent + 2 * b2n s.twn.ckptOk + 4 * b2n (s.on TWN.STAT_CFG_STALE) +
    8 * b2n (s.rd TWN.STAT_SHADOW_FRAMES == 8)
  leBytes 1 kind ++ leBytes 1 s.role ++ leBytes 2 flags ++ leBytes 2 s.frame ++ leBytes 2 s.tick ++
  leBytes 2 (s.rd GSL.EPOCH_CUR) ++ leBytes 2 s.twn.fhDone ++ leBytes 2 (s.rd TWN.CKPT_STAT_FRAME) ++
  leBytes 2 (s.rd STP.KEY_STAT_CHECK) ++ leBytes 4 (s.rd SCD.RUN_SEQ_IMG_SEQ) ++ leBytes 4 s.twn.cfgSeq ++
  leBytes 8 s.dtime64 ++ subBytes body 0 60

/-- A message of the twin port sent (R318). -/
def State.twinSend (s : State) (kind : Nat) (body : List Byte) : State :=
  let b := s.twinBody kind body
  s.send (.twin (b ++ leBytes 4 (crc32c b)))

/-- TWIN_BEAT_SEND: at each tick start a Topcoat sends BEAT, a device in UNDERCOAT or SHADOW STANDBY (R318); none after a thermal shutdown (R257). -/
def State.beat (s : State) : State :=
  let body := leBytes 1 (s.rd SAF.VERDICT_PF_A) ++ leBytes 1 (s.rd SAF.VERDICT_UNMON)
  if !s.twinEn || decide (2 ≤ s.hkp.shut) then s
  else if s.role = 1 ∧ s.twn.quietAt = none then s.twinSend 1 body
  else if s.role = 2 ∨ s.role = 3 then s.twinSend 2 body
  else s

/-- ALIVE_TOGGLE: a Topcoat toggles ALIVE of every present head at each tick start (R317). -/
def State.aliveToggle (s : State) : State :=
  if s.twinEn ∧ s.hkp.shut < 2 ∧ s.role = 1 ∧ s.twn.quietAt = none then { s with twn.alive := Nat.xor s.twn.alive s.headMask } else s

/-- A device whose beats and ALIVE have both stopped for 1 ms raises no token again until WARM or POR (R323). -/
def State.barred (s : State) : Bool :=
  match s.twn.quietAt with
  | some t => decide (t + 10 ≤ s.now)
  | none => false

/-! ## The retention store (R319) -/

/-- Whether a field belongs to the mirrored configuration: shadowed, and not host-facing (R319). -/
def mirrored (p : Page) (f : Fld) : Bool :=
  let ring := p == .ptb && ((List.range 8).any (fun h => f == PTB.RING_BASE_ADDR h || f == PTB.RING_SIZE_SIZE h) ||
    f == PTB.FH_BASE_ADDR || f == PTB.FH_SIZE_SIZE)
  (f.acc == Acc.rws || f.acc == Acc.rwl || f.acc == Acc.wos) && !ring && p != .cxl0 && p != .cxl1

/-- The mirrored fields. -/
def mirroredFields : List Fld := Page.all.flatMap fun p => p.fields.filter fun f => mirrored p f

/-- The partitions in force. -/
def State.partsInForce (s : State) : List (Nat × List Byte) :=
  ((List.range 9).filter fun p => hasBit (s.rd SCD.ACTIVE_PRESENT) p).map fun p => (p, (s.imgSlot p true).part)

/-- The retention store filled with what is in force (R315, R319). -/
def State.fillRetention (s : State) : State :=
  let keys := mirroredFields.map Fld.key
  { s with twn.ret := { regs := s.regs.filter fun e => keys.contains e.1
                        tabs := s.tabs, hdr := s.scd.runHdr, parts := s.partsInForce, pal := s.rnd.pal
                        fw := s.rd CTL.BOOT_STAT_FW_SLOT } }

/-- A table entry of a mirror item put into tables. -/
def Tabs.putMirror (t : Tabs) (e : Nat × Nat × Int) : Tabs :=
  match e.1 with
  | 0 => { t with flt := Sparse.put t.flt e.2.1 e.2.2 }
  | 1 => { t with rofs := Sparse.put t.rofs e.2.1 e.2.2 }
  | 2 => { t with skew := Sparse.put t.skew e.2.1 e.2.2 }
  | _ => { t with coef := Sparse.put t.coef e.2.1 e.2.2 }

/-- The table entries of tables as a mirror item lists them. -/
def Tabs.mirror (t : Tabs) : List (Nat × Nat × Int) :=
  (t.flt.map fun e => (0, e)) ++ (t.rofs.map fun e => (1, e)) ++ (t.skew.map fun e => (2, e)) ++ (t.coef.map fun e => (3, e))

/-- A table entry of a mirror item put into the retention store. -/
def RetStore.putTab (r : RetStore) (e : Nat × Nat × Int) : RetStore :=
  if e.1 = 4 then { r with pal := Sparse.put r.pal e.2.1 e.2.2.toNat } else { r with tabs := r.tabs.putMirror e }

/-- The table entries of the retention store as a mirror item lists them. -/
def RetStore.mirror (r : RetStore) : List (Nat × Nat × Int) :=
  r.tabs.mirror ++ r.pal.map fun (e : Nat × Nat) => (4, e.1, (e.2 : Int))

/-- What the SHA-384 digests of the retention store cover: the configuration and the image. What the store holds fixes the digests; one
that disagrees at a takeover comes with TAKE_FAIL (R319, R326; log entry 166). -/
def RetStore.digests (r : RetStore) : List (List Byte) :=
  [sha384 (r.regs.flatMap fun e => leBytes 4 e.1 ++ leBytes 4 e.2), sha384 (r.hdr ++ r.parts.flatMap fun e => e.2)]

/-- An item taken into the retention store (R319). -/
def RetStore.take (r : RetStore) : CfgItem → RetStore
  | .fields vals tabs => tabs.foldl RetStore.putTab { r with regs := vals.foldl (fun m e => Sparse.put m e.1 e.2) r.regs }
  | .image hdr parts => { r with hdr := hdr, parts := parts.foldl (fun m e => Sparse.put m e.1 e.2) r.parts
                                 loaded := r.loaded.filter fun e => !parts.any fun p => p.1 == e.1 }
  | .load parts => { r with loaded := parts }
  | .whole vals tabs hdr parts => tabs.foldl RetStore.putTab { r with regs := vals, tabs := {}, pal := [], hdr := hdr, parts := parts }

/-- CFG_MIRROR_SEND: an item sent to the partner; CFG_SEQ counts it (R319). -/
def State.mirrorSend (s : State) (i : CfgItem) : State :=
  if s.twinEn ∧ s.role = 1 then
    ({ s with twn.cfgSeq := (s.twn.cfgSeq + 1) % 2 ^ 32 }.twinSend 6 []).send (.twinCfg i)
  else s

/-- CFG_STORE_RESEND: a Topcoat whose twin port is present sends the whole store to a partner that shows CFG_STALE
(R319). -/
def cfgStoreResend (s : State) : State :=
  if s.portPresent && (s.twn.msg.any fun m => hasBit m.flags 2) then
    let r := s.fillRetention.twn.ret
    s.mirrorSend (.whole r.regs r.mirror r.hdr r.parts)
  else s

/-- CFG_STORE_RESEND (R319). -/
def execCfgStoreResend (s : State) : Host.Outcome State Fault Refusal := live s (cfgStoreResend s)

/-- The image of the retention store put in force (R324, R444). -/
def State.installImage (s : State) (hdr : List Byte) (parts : List (Nat × List Byte)) : State :=
  let s := { s with scd.runHdr := hdr, scd.slots := Vector.replicate 18 {}, scd.held := 0, host.spdm.stale := true }
  let s := State.each parts (fun e s => s.putSlot e.1 true { hdr := hdr, part := e.2, load := 0 }) s
  (s.wr SCD.ACTIVE_PRESENT (parts.foldl (fun m e => setBit m e.1) 0)).showRun

/-- The tables that the mirror carries put (R319). -/
def State.putMirrored (s : State) (t : Tabs) : State :=
  { s with tabs.flt := t.flt, tabs.rofs := t.rofs, tabs.skew := t.skew, tabs.coef := t.coef }

/-- The mirrored configuration taken from the retention store (R444): fields, Float tables, coefficients and skew, palettes, and
the image. The tables of the AON calibration copy stay, and the safety configuration comes from flash. -/
def State.restore (s : State) : State :=
  let r := s.twn.ret
  let s := State.each (mirroredFields.filter fun f => !(Page.saf).fields.contains f) (fun f s => s.wr f (Sparse.get r.regs f.key f.reset)) s
  { s.putMirrored r.tabs with rnd.pal := r.pal }.installImage r.hdr r.parts

/-! ## What a device loses when its domains go off -/

/-- The contents of the datapath and of device memory lost (R444): nothing measured is kept, and memory holds nothing. -/
def State.dropDatapath (s : State) : State :=
  { s with wins := [], codes := [], satHist := [], carry := [], fifo := [], stage := [], mem := [], lth := {}, stp := {}, ptb := {},
           msk := Vector.replicate 8 {}, wfl := Vector.replicate 8 {}, emt := Vector.replicate 8 {},
           scd.done := [], scd.marks := [], scd.replays := [], scd.dropped := [], scd.errs := [],
           scd.errsPrev := [], scd.skips := [], scd.load := none, scd.measuring := false, scd.resumeAt := none,
           scd.renumbered := 0, memErrs := Vector.replicate 4 0 }

/-- Every token released: the latches of this device go free (R311, R329). -/
def State.lowerTokens (s : State) : State := (s.wr TWN.TOKENS_REQ 0).wr TWN.TOKENS_GRANT 0

/-- A Topcoat holds the token of every head of its image: a head that joins has its token raised, one that leaves has it lowered (R317;
DEDUCED, log entry 165). -/
def State.holdTokens (s : State) : State :=
  if s.twinEn && s.role == 1 && s.rd TWN.TOKENS_REQ != 0 then
    (s.wr TWN.TOKENS_REQ s.headMask).wr TWN.TOKENS_GRANT (s.rd TWN.TOKENS_GRANT &&& s.headMask)
  else s

/-- HOLD entered in a role: the retention store is filled, and every domain but PD00, PD01 and the CXL PHY goes off
(R315, R440, R441). -/
def State.enterHold (s : State) (role : Nat) : State :=
  let s := s.fillRetention
  let s := s.safStart.dropDatapath.lowerTokens
  let s := State.each (List.range 3) (fun p s => s.wr (GSL.PORT_STAT_UP p) 0) s
  let s := { s with commits := [], resets := [] }
  ((s.wr TWN.STAT_ROLE role).wr PWR.STATE_STATE 2).showDomains

/-! ## Causes (R329) -/

/-- Whether cells are degraded by a permanent fault: a failed channel, gate-drive fault, exhausted lane group or image
slot (R28, R329). -/
def State.degraded (s : State) : Bool :=
  s.rd LTH.MEM_SIZE_FAILED != 0 || s.exhausted != 0 || s.scd.badSlots != 0 ||
  ((List.range 8).any fun h => s.rd (EMT.GD_FAULT_LINE_FAULT h) != 0 || s.rd (EMT.GD_FAULT_COL_FAULT h) != 0)

/-- A Topcoat stops being Topcoat: its tokens go low, beats and ALIVE stop, and the cause is kept with its class. After a
permanent stop it enters FAILED in HOLD (R329). -/
def State.stopTopcoat (s : State) (code : Nat) (permanent : Bool) : State :=
  if !s.twinEn || s.role != 1 then s else
  let s := ((s.wr TWN.CAUSE_CODE code).wrB TWN.CAUSE_PERMANENT permanent).lowerTokens
  let s := { s with twn.quietAt := some s.now, twn.stopDue := none }
  if permanent ∧ code ≤ 5 then s.enterHold 5 else s.wr TWN.STAT_ROLE 5

/-- Whether the cause with a code of R329 stands: island faults, or a permanent fault that degrades cells. -/
def State.causeStands (s : State) (code : Nat) : Bool :=
  if code = 3 then s.on SAF.FAULT_SELFTEST || s.on SAF.FAULT_CLOCK
  else if code = 4 then s.on SAF.FAULT_CROSS || s.on SAF.FAULT_TABLE
  else code == 5 && s.degraded && s.on TWN.CTRL_DEGR_HANDOVER

/-- The relinquish itself: RELINQUISH is sent and the device stops being Topcoat. -/
def State.relinquishNow (s : State) (code : Nat) : State :=
  (s.twinSend 3 []).stopTopcoat code (code != 3)

/-- RELINQUISH: a Topcoat gives its role up for one of the causes 3, 4 and 5; for the last at the next coat boundary
(R329). -/
def relinquish (code : Nat) (s : State) : State :=
  if !s.twinEn || s.role != 1 || !s.causeStands code then s
  else if code = 5 then { s with twn.stopDue := some (s.now + (128 - s.step128)) }
  else s.relinquishNow code

/-- RELINQUISH (R329). -/
def execRelinquish (code : Nat) (s : State) : Host.Outcome State Fault Refusal := live s (relinquish code s)

/-- At a coat boundary a relinquish that waited for it (R329). -/
def State.relinquishDue (s : State) : State :=
  if s.twn.stopDue.any fun t => decide (t ≤ s.now) then s.relinquishNow 5 else s

/-! ## Receiving (R318, R319, R331) -/

/-- Whether KIND and ROLE of a message fit each other (R318). -/
def kindFits (kind role : Nat) : Bool :=
  if kind = 2 then role == 2 || role == 3 else if kind = 4 then role == 3
  else (kind == 1 || kind == 3 || kind == 5 || kind == 6) && role == 1

/-- Whether a message is valid (R318). -/
def twinValid (b : List Byte) : Bool :=
  b.length == 96 && u32 b 92 == crc32c (b.take 92) && kindFits (u8 b 0) (u8 b 1)

/-- Both paths were missed for at least a tick, and less than 1 ms, when one of them returns (R322). -/
def State.blip (s : State) : State :=
  let gap (t : Option Nat) : Bool := t.any fun t => decide (t + 2 ≤ s.now)
  if s.twinEn ∧ s.role = 2 ∧ gap s.twn.msgAt ∧ gap s.twn.aliveAt ∧ ¬ (s.silentSince s.twn.msgAt ∧ s.silentSince s.twn.aliveAt)
  then (s.twnEvent TWN.EVENTS_BLIP).satInc TWN.COUNT_BLIPS else s

/-- The shadow of the partner's position, epoch and time aligned to a BEAT (R316). -/
def State.align (s : State) (b : List Byte) : State :=
  let s := ((s.wr SCD.TICK_POS_TICK (u16 b 6)).wr SCD.TICK_POS_FRAME (u16 b 4)).wr GSL.EPOCH_CUR (u16 b 8)
  { s with tim.dtime := u64 b 0x18 * 2 ^ 24 }

/-- A SHADOW device compares what a BEAT shows with its own: key, image and configuration, and the verdicts of the last
concluded coat, which both devices hold from tick 4 of a coat on (R330). -/
def State.compareBeat (s : State) (m : PartnerMsg) : State :=
  let same := m.keyCheck == s.rd STP.KEY_STAT_CHECK && m.imgSeq == s.rd SCD.RUN_SEQ_IMG_SEQ && m.cfgSeq == s.twn.cfgSeq
  let own := s.rd SAF.VERDICT_PF_A + 256 * s.rd SAF.VERDICT_UNMON
  if same && (decide (s.step128 < 4) || m.verdict == own) then s else s.unclean

/-- An item of the configuration mirror at the partner (R319). -/
def State.takeItem (s : State) (seq : Nat) (item : Option CfgItem) : State :=
  match item with
  | none => s
  | some i =>
    let whole : Bool := match i with | .whole .. => true | _ => false
    let next := seq == (s.twn.cfgSeq + 1) % 2 ^ 32
    let s := { s with twn.cfgSeq := seq, twn.ret := s.twn.ret.take i }
    let s := if whole then s.wr TWN.STAT_CFG_STALE 0 else if next then s else s.wr TWN.STAT_CFG_STALE 1
    if s.role = 3 then s.restore else s

/-- Whether a Topcoat sees a cause of its own under R329. -/
def State.ownCause (s : State) : Bool :=
  s.latched || s.on TIM.XTAL_STAT_FAIL || s.on SCD.LEASE_EXPIRED || s.causeStands 3 || s.causeStands 4 || s.causeStands 5

/-- GRANT: the Topcoat answers an allowed request with TICK_H four ticks on, the codes of its heads for that tick, and
their integrator states (R331, R332). -/
def State.grantHandover (s : State) : State :=
  if s.ownCause || !(s.twn.partnerSwap || s.on TWN.CTRL_REVERT_EN) || s.twn.grant.isSome then s else
  let n := s.now + 4
  let codes := (List.finRange 8).map fun h => dacClamp (s.target h (s.tickOf n))
  let accs := (List.finRange 8).map fun h => (s.emtOf h).acc / 256
  let s := { s with twn.grant := some (n, codes, accs), twn.released := false }
  s.twinSend 5 (leBytes 2 (s.frameOf n) ++ leBytes 2 (s.tickOf n) ++ codes.flatMap (leBytes 2) ++
    accs.flatMap fun a => leBytes 2 (unsgn 16 a))

/-- A GRANT taken by a device in SHADOW (R331). -/
def State.takeGrant (s : State) (b : List Byte) : State :=
  let t := u16 b 0x22 % 512
  let ahead := ((u16 b 0x20 % 32768 + 32768 - s.frame) % 32768) * 512 + t - s.tick
  let codes := (List.range 8).map fun h => u16 b (0x24 + 2 * h)
  let accs := (List.range 8).map fun h => sgn 16 (u16 b (0x34 + 2 * h))
  { s with twn.grant := some (s.now + ahead, codes, accs), twn.released := false }

/-- What a message of the partner says of itself, kept (R320). -/
def partnerMsg (b : List Byte) : PartnerMsg :=
  { role := u8 b 1, flags := u16 b 2, frame := u16 b 4 % 32768, fhDone := u16 b 0x0A % 32768
    keyCheck := u16 b 0x0E, imgSeq := u32 b 0x10, cfgSeq := u32 b 0x14, verdict := u16 b 0x20 }

/-- The partner heard: its message kept, the link and the partner shown; a Topcoat shows whether its own beat is seen, and
reports the loss of that (R317, R320). -/
def State.heardPartner (s : State) (m : PartnerMsg) : State :=
  let was := s.twn.msg
  let swap := if m.role = 2 then true else if m.role = 1 then false else s.twn.partnerSwap
  let s := { s with twn.msgAt := some s.now, twn.msg := some m, twn.partnerSwap := swap }
  let s := (s.wr TWN.STAT_LINK 1).wr TWN.STAT_PARTNER 1
  let seen := hasBit m.flags 0
  if s.role = 1 then
    let s := s.wrB TWN.STAT_ALIVE seen
    if !seen && (was.any fun w => hasBit w.flags 0) then s.twnEvent TWN.EVENTS_ALIVE_LOST else s
  else s

/-- What a message shows a SHADOW device of its alignment (R318). -/
def State.heardAlign (s : State) (align : Option Int) : State :=
  match align with
  | some a =>
    if s.role != 3 then s else
    let s := (s.wrI TWN.ALIGN_OFFSET (clampI (-32768) 32767 a)).wrB TWN.ALIGN_LOCK (decide (a.natAbs ≤ 40))
    if 40 < a.natAbs then s.unclean else s
  | none => s

/-- What a message of each kind asks for: 1 a beat, 3 a request to relinquish, 4 a request for handover, 5 a grant, 6 an item of
the configuration (R318, R319, R325, R330). -/
def State.heardKind (s : State) (b : List Byte) (m : PartnerMsg) (item : Option CfgItem) : State :=
  let kind := u8 b 0
  if kind = 1 then
    if s.role = 2 then s.align b else if s.role = 3 then State.compareBeat s m else s
  else if kind = 3 then if s.role = 2 then { s with twn.relinq := true } else s
  else if kind = 4 then if s.role = 1 then s.grantHandover else s
  else if kind = 5 then if s.role = 3 then s.takeGrant b else s
  else if kind = 6 then if s.role = 2 ∨ s.role = 3 then s.takeItem m.cfgSeq item else s
  else s

/-- TWIN_MESSAGE_RECEIVE: a valid message renews the path and is handled by its kind; `align` is the residual of the
partner's tick in ps that a SHADOW device measures, `item` what a CFG message carries (R318, R319, R330, R331). -/
def twinMessageReceive (b : List Byte) (item : Option CfgItem) (align : Option Int) (s : State) : State :=
  if !s.twinEn || !twinValid b then s else
  let m := partnerMsg b
  ((s.blip.heardPartner m).heardAlign align).heardKind b m item

/-- TWIN_MESSAGE_RECEIVE (R318). -/
def execTwinMessageReceive (b : List Byte) (item : Option CfgItem) (align : Option Int) (s : State) :
    Host.Outcome State Fault Refusal := live s (twinMessageReceive b item align s)

/-- ALIVE_EDGE: an edge on an `ALIVE_Hh` input of a present head renews the ALIVE path (R317). -/
def aliveEdge (h : Head) (s : State) : State :=
  let heads := if s.role = 2 then hdrHeadMask s.twn.ret.hdr else s.headMask
  if !s.twinEn || s.role == 1 || !hasBit heads h.val then s else
  { s.blip with twn.aliveAt := some s.now }.wr TWN.STAT_ALIVE 1

/-- ALIVE_EDGE (R317). -/
def execAliveEdge (h : Head) (s : State) : Host.Outcome State Fault Refusal := live s (aliveEdge h s)

/-- PATH_SILENCE: a path that has been silent for 1 ms is shown so and reported by the rows of R322; a silent port makes
the retention store stale (R319). With both paths silent the Undercoat reports nothing here: it takes over. -/
def pathSilence (s : State) : State :=
  if !s.twinEn then s else
  let portGone := s.silentSince s.twn.msgAt && s.on TWN.STAT_LINK
  let s1 := if portGone then (s.wr TWN.STAT_LINK 0).wr TWN.STAT_PARTNER 0 else s
  if s.role = 1 then
    if portGone then
      if s.on (GSL.PORT_STAT_UP 3) then s1.twnEvent TWN.EVENTS_PARTNER_LOST else s1.twnEvent TWN.EVENTS_LINK_LOST
    else s1
  else if s.role = 2 ∨ s.role = 3 then
    let s1 := if portGone then s1.wr TWN.STAT_CFG_STALE 1 else s1
    let aliveGone := s.silentSince s.twn.aliveAt && s.on TWN.STAT_ALIVE
    let s1 := if aliveGone then s1.wr TWN.STAT_ALIVE 0 else s1
    let s1 := if portGone && s.alivePresent then s1.twnEvent TWN.EVENTS_LINK_LOST else s1
    if aliveGone && s.portPresent then s1.twnEvent TWN.EVENTS_ALIVE_LOST else s1
  else s1

/-- PATH_SILENCE (R322). -/
def execPathSilence (s : State) : Host.Outcome State Fault Refusal := live s (pathSilence s)

/-! ## Host memory (R342) -/

/-- Whether the device can reach host memory: CXL negotiated with CXL.cache, and the link not down (R336, R342). -/
def State.cacheUp (s : State) : Bool :=
  s.on CXL0.LINK_STAT_CXL && s.on CXL0.LINK_STAT_CACHE_EN && s.rd CXL0.LINK_STAT_STATE != 2

/-- Bytes written to host memory in full lines of 64 bytes (R342). -/
def State.hostWrite (s : State) (a : Nat) (b : List Byte) : State :=
  if s.cacheUp then
    State.each (List.range (divUp b.length 64)) (fun i s => s.send (.hostLine (a + 64 * i) (subBytes b (64 * i) 64))) s
  else s

/-! ## Checkpoints (R320, R321, R325) -/

/-- The bytes of one checkpoint buffer (R320). -/
def ckptBytes : Nat := 33558528

/-- The address of the checkpoint buffer of a frame (R320). -/
def State.ckptAddr (s : State) (frame : Nat) : Nat :=
  s.rd TWN.CKPT_ADDR_HI_ADDR * 2 ^ 32 + s.rd TWN.CKPT_ADDR_LO_ADDR * 4096 + frame % 2 * ckptBytes

/-- A checkpoint's header page with its COMPLETE bit and the CRC of its summaries (R320). -/
def ckptPage (hdr : List Byte) (complete : Bool) (crc count : Nat) : List Byte :=
  let h := overlay (overlay (overlay hdr 0x0B (leBytes 1 (b2n complete))) 0x14 (leBytes 4 crc)) 0x20 (leBytes 4 count)
  h.take 60 ++ leBytes 4 (crc32c (h.take 60)) ++ zeros 4032

/-- A checkpoint in progress abandoned (R320, R354). -/
def State.ckptAbandon (s : State) : State :=
  if s.on TWN.CKPT_STAT_BUSY then
    { s with twn.ckptOk := false }.wr TWN.CKPT_STAT_BUSY 0 |>.satInc TWN.CKPT_STAT_FAILS
  else s

/-- CHECKPOINT_WRITE: at the snapshot boundary of the frame just ended, a Topcoat writes the buffer's header with COMPLETE
0; a checkpoint still in progress has missed its deadline (R320). A device that cannot reach host memory writes none
(R336). -/
def State.ckptStart (s : State) : State :=
  if !s.twinEn || s.role != 1 || s.twn.quietAt.isSome || s.twn.released || !s.ptb.prev.ended then s else
  let s := s.ckptAbandon
  if !s.cacheUp then s else
  let f := s.ptb.prev
  let hdr := leBytes 4 0x4B43535A ++ leBytes 2 f.frame ++ leBytes 2 f.epoch ++ leBytes 2 f.domain ++ leBytes 1 f.heads ++
    zeros 1 ++ leBytes 4 f.imgSeq ++ leBytes 2 f.keyCheck ++ zeros 6 ++ leBytes 8 f.ts ++ zeros 32
  let s := { s with twn.ckptHdr := hdr, twn.ckptFrame := f.frame }.wr TWN.CKPT_STAT_BUSY 1
  s.hostWrite (s.ckptAddr f.frame) (ckptPage hdr false 0 s.twn.ckptCnt)

/-- Slot headers of an image: coat, age and header word of each valid slot, most recent first (R219, R220, R321). -/
def imgSlots (b : List Byte) : List (Nat × Nat × Nat) :=
  let fu := u16 b 0 % 32768
  let l := (List.range 4).filterMap fun c =>
    let w := u32 b (0x20 + 24 * c)
    if hasBit w 15 then some (c, (fu + 32768 - w % 32768) % 32768, w) else none
  l.mergeSort fun x y => decide (x.2.1 < y.2.1) || (x.2.1 == y.2.1 && decide (y.1 ≤ x.1))

/-- A return entry of a slot as a MEAS field holds it (R321). -/
def measEntry (b : List Byte) (c i : Nat) : Nat :=
  let e := leNat (subBytes b (0x24 + 24 * c + 5 * i) 5)
  slice e 0 20 + slice e 32 4 * 2 ^ 20 + slice e 36 4 * 2 ^ 24

/-- A MEAS field (R321). -/
def measField (b : List Byte) (x : Option (Nat × Nat × Nat)) : Nat :=
  match x with
  | some (c, age, w) =>
    if 3 < age then 0 else
    let none_ := hasBit w 18
    let nret := if none_ then 0 else slice w 16 2
    let e (i : Nat) : Nat := if none_ then 0 else measEntry b c i
    1 + c * 2 + age * 8 + nret * 32 + slice w 18 1 * 2 ^ 7 + slice w 19 1 * 2 ^ 8 + slice w 20 1 * 2 ^ 9 +
      e 0 * 2 ^ 10 + (if 1 ≤ nret then e 1 * 2 ^ 38 else 0) + e nret * 2 ^ 66
  | none => 0

/-- The 32-byte summary of an image (R321). -/
def summary (b : List Byte) : List Byte :=
  let l := imgSlots b
  subBytes b 0 2 ++ subBytes b 8 2 ++ subBytes b 10 2 ++ subBytes b 12 2 ++
  leBytes 12 (measField b l[0]?) ++ leBytes 12 (measField b l[1]?)

/-- The stable image of a cell for the checkpoint of a frame; a failed channel yields a fresh one (R221, R236). -/
def State.ckptImage (s : State) (frame cell : Nat) : List Byte :=
  if s.chanFailed (cell % 4) then freshImage else s.ldN (s.ctxAddr cell + 128 * (frame % 2)) 128

/-- The contexts of Lath: 8 heads of 128 rows and 1,024 columns (R219). -/
def contextCount : Nat := 2 ^ 20

/-- The summaries of all contexts as they stood at the end of a frame (R328). -/
def State.summaries (s : State) (f : Nat) : List Byte := (List.range contextCount).flatMap fun c => summary (s.ckptImage f c)

/-- Summaries stored in the checkpoint region, a burst at a time (R328). -/
def State.storeSummaries (s : State) (sums : List Byte) : State :=
  let base := (s.region 4).1
  State.each (List.range (contextCount / 2)) (fun i s => s.engineStore 4 9 (base + 64 * i) (subBytes sums (64 * i) 64)) s

/-- A completed checkpoint counted (R328). -/
def State.ckptCounted (s : State) : State :=
  { s with twn.ckptCnt := (s.twn.ckptCnt + 1) % 2 ^ 32, twn.ckptOk := true }

/-- CHECKPOINT_COMPLETE: the summaries are formed into the CKPT region and written to the host buffer, and the header is
written again with COMPLETE 1 (R320). -/
def checkpointComplete (s : State) : State :=
  if !s.on TWN.CKPT_STAT_BUSY then s else
  let f := s.twn.ckptFrame
  let sums := s.summaries f
  let s := (s.storeSummaries sums).ckptCounted
  let s := s.hostWrite (s.ckptAddr f + 4096) sums
  let s := s.hostWrite (s.ckptAddr f) (ckptPage s.twn.ckptHdr true (crc32c sums) s.twn.ckptCnt)
  (s.wr TWN.CKPT_STAT_FRAME f).wr TWN.CKPT_STAT_BUSY 0

/-- CHECKPOINT_COMPLETE (R320). -/
def execCheckpointComplete (s : State) : Host.Outcome State Fault Refusal := live s (checkpointComplete s)

/-- CHECKPOINT_ABANDON: a checkpoint not complete at its deadline (R320). -/
def execCheckpointAbandon (s : State) : Host.Outcome State Fault Refusal := live s s.ckptAbandon

/-- Whether a pulled buffer is a complete checkpoint that this device may use (R325). -/
def State.ckptGood (s : State) (x : List Byte × List Byte) : Bool :=
  let (h, sums) := x
  u32 h 0 == 0x4B43535A && u8 h 0x0B % 2 == 1 && u32 h 0x3C == crc32c (subBytes h 0 60) &&
  sums.length == 33554432 && u32 h 0x14 == crc32c sums &&
  u16 h 0x10 == s.rd STP.KEY_STAT_CHECK && u32 h 0x0C == s.rd SCD.RUN_SEQ_IMG_SEQ

/-- The complete checkpoint with the higher FRAME (R325); frame counters compare as serial numbers. -/
def State.ckptChoice (s : State) (p : Pull) : Option (List Byte × List Byte) :=
  (p.bufs.filter s.ckptGood).foldl (fun m x => match m with
    | none => some x
    | some y => if 0 < (u16 x.1 4 + 32768 - u16 y.1 4) % 32768 ∧ (u16 x.1 4 + 32768 - u16 y.1 4) % 32768 < 16384
        then some x else some y) none

/-- The slot of a MEAS field, with its coat; a measurement of four returns keeps the three it has, and a return has no
INTENSITY (R321, R325). -/
def measSlot (frameU m : Nat) : Option (Nat × List Byte) :=
  if m % 2 = 0 then none else
  let n := slice m 5 2
  let k := min n 2
  let ent (i : Nat) : Nat :=
    let e := slice m (10 + 28 * (if i = n ∨ i = 2 then 2 else i)) 28
    slice e 0 20 + slice e 20 4 * 2 ^ 32 + slice e 24 4 * 2 ^ 36
  let hdr := (frameU + 32768 - slice m 3 2) % 32768 + 2 ^ 15 + k * 2 ^ 16 + slice m 7 1 * 2 ^ 18 + slice m 8 1 * 2 ^ 19 +
    slice m 9 1 * 2 ^ 20
  let ents := if slice m 7 1 = 1 then zeros 20 else
    (List.range 4).flatMap fun i => if i ≤ k then leBytes 5 (ent i) else zeros 5
  some (slice m 1 2, leBytes 4 hdr ++ ents)

/-- The image that a summary expands into; the calibration stamp, which a summary lacks, is a free value (R325). -/
def expand (b : List Byte) (stamp : Nat) : List Byte :=
  let fu := u16 b 0 % 32768
  let m0 := leNat (subBytes b 8 12)
  let slots := [measSlot fu m0, measSlot fu (leNat (subBytes b 20 12))].filterMap id
  let coatU := if m0 % 2 = 1 then slice m0 1 2 else 0
  let head := leBytes 4 (u16 b 0 + coatU * 2 ^ 16) ++ zeros 4 ++ subBytes b 2 2 ++ subBytes b 4 2 ++ subBytes b 6 2 ++
    leBytes 2 stamp ++ zeros 16
  slots.foldr (fun x img => overlay img (0x20 + 24 * x.1) x.2) (head ++ zeros 96)

/-- Both images of every context of a working channel written from its summary (R329). -/
def State.seedContexts (s : State) (sums : List Byte) : State :=
  State.each (List.range contextCount) (fun c s =>
    if s.chanFailed (c % 4) then s else
    let img := expand (subBytes sums (32 * c) 32) (Config.freeNat (s.free + c))
    s.stN (s.ctxAddr c) (img ++ img)) s

/-- The contexts count as seeded: no head is fresh (R329). -/
def State.seededNow (s : State) : State :=
  { s with lth.seeded := true, lth.freshHeads := 0, lth.used := 255, lth.tags := [], free := s.free + contextCount }

/-- CHECKPOINT_PULL: the newest qualifying checkpoint is expanded into both images of every context, which then are not
fresh; with none, every context starts fresh (R325). -/
def State.ckptPull (s : State) (p : Pull) : State :=
  match s.ckptChoice p with
  | none => { s with lth.seeded := false, lth.freshHeads := 255, lth.used := 0 }
  | some (h, sums) =>
    (s.seedContexts sums).seededNow.wr TWN.CKPT_STAT_FRAME (u16 h 4)

/-! ## Handover (R330 to R332) -/

/-- SHADOW_FRAME_CHECK and HANDOVER_REQ at a frame boundary: clean frames in a row are counted, a permanent fault ends in
FAILED, and after 8 the device asks for the handover it may ask for (R330 to R332). -/
def State.shadowFrame (s : State) : State :=
  if !s.twinEn || s.role != 3 then s else
  let clean := !s.twn.unclean && s.scd.measuring
  let s := { s with twn.unclean := false }
  let s := if clean then s.wr TWN.STAT_SHADOW_FRAMES (min 8 (s.rd TWN.STAT_SHADOW_FRAMES + 1))
    else s.wr TWN.STAT_SHADOW_FRAMES 0
  if s.degraded || s.causeStands 4 then s.enterHold 5
  else if s.rd TWN.STAT_SHADOW_FRAMES = 8 ∧ s.twn.grant = none ∧
      (s.twn.swap = true ∨ (s.on TWN.CTRL_REVERT_EN = true ∧ s.on TWN.CAUSE_PERMANENT = false)) then s.twinSend 4 []
  else s

/-- At the start of the granted tick both devices hold the granted DAC codes, and the new one takes the servo states
(R331). -/
def State.handoverTick (s : State) : State :=
  match s.twn.grant with
  | some (n, codes, accs) =>
    if n ≠ s.now then s else
    State.each (List.finRange 8) (fun h s =>
      let e := s.emtOf h
      let acc := if s.role = 3 then 256 * accs.getD h.val 0 else e.acc
      (s.putEmt h { e with acc := acc, mir := if s.present h.val then .run else e.mir }).wr (EMT.MIR_DAC_CODE h.val)
        (codes.getD h.val 0)) s
  | none => s

/-- HANDOVER_TOKEN_RELEASE: at T + 48.0 µs the old Topcoat lowers every token (R331). -/
def handoverTokenRelease (s : State) : State :=
  match s.twn.grant with
  | some (n, _, _) =>
    if s.role = 1 ∧ n = s.now then { s.lowerTokens with twn.released := true, ptb.cur.twin := true } else s
  | none => s

/-- HANDOVER_TOKEN_RELEASE (R331). -/
def execHandoverTokenRelease (s : State) : Host.Outcome State Fault Refusal := live s (handoverTokenRelease s)

/-- HANDOVER_TOKEN_RAISE: at T + 48.5 µs the new device raises every token; once every latch grants it is Topcoat, and its
OSSD pairs wait for no restart event (R302, R331). -/
def handoverTokenRaise (grants : Nat) (s : State) : State :=
  match s.twn.grant with
  | some (n, _, _) =>
    if s.role = 3 ∧ n = s.now ∧ s.barred = false then
      let s := (s.wr TWN.TOKENS_REQ s.headMask).wr TWN.TOKENS_GRANT (grants &&& s.headMask)
      if s.rd TWN.TOKENS_GRANT = s.headMask then
        let s := (s.wr TWN.STAT_ROLE 1).satInc TWN.COUNT_HANDOVERS
        let s := { s with twn.grant := none, twn.swap := false, twn.quietAt := none, ptb.cur.twin := true, saf.wait := 0 }
        ((s.wr TWN.STAT_SHADOW_FRAMES 0).showPairs.eventsAnew.twnEvent TWN.EVENTS_HANDOVER).ossdUpdate true
      else s
    else s
  | none => s

/-- HANDOVER_TOKEN_RAISE (R331). -/
def execHandoverTokenRaise (grants : BitVec 8) (s : State) : Host.Outcome State Fault Refusal :=
  live s (handoverTokenRaise grants.toNat s)

/-- HANDOVER_OLD_STOP: at T + 300 µs, its last measurements drained, the old device stops its beats and ALIVE, and its
OSSD pairs go off as its islands power down (R302, R331). -/
def handoverOldStop (s : State) : State :=
  match s.twn.grant with
  | some (n, _, _) =>
    if s.role = 1 ∧ s.twn.released = true ∧ n + 3 ≤ s.now ∧ s.twn.quietAt = none then
      let s := ((s.wr TWN.CAUSE_CODE 8).wr TWN.CAUSE_PERMANENT 0).satInc TWN.COUNT_HANDOVERS
      { s with twn.quietAt := some s.now }.safStart.twnEvent TWN.EVENTS_HANDOVER
    else s
  | none => s

/-- HANDOVER_OLD_STOP (R331). -/
def execHandoverOldStop (s : State) : Host.Outcome State Fault Refusal := live s (handoverOldStop s)

/-- After its frame-header record the old device of a handover fills its retention store and enters HOLD as UNDERCOAT;
its beats may start again with a later takeover (R331). -/
def State.handoverEnd (s : State) : State :=
  if s.role = 1 ∧ s.twn.released = true ∧ s.twn.quietAt.isSome = true then
    { s.enterHold 2 with twn.grant := none, twn.released := false, twn.quietAt := none }
  else s

/-! ## Checks of a commit (R333, R334) -/

/-- The broken rules of a commit of TWN: its role, and buffers that cross the end of the address space. -/
def twnCheck (s : State) : List (Nat × Nat) :=
  let a := s.rdSh TWN.CKPT_ADDR_HI_ADDR * 2 ^ 32 + s.rdSh TWN.CKPT_ADDR_LO_ADDR * 4096
  if 2 ^ 64 < a + 2 * ckptBytes then [(CFG_RANGE, TWN.CKPT_ADDR_LO_ADDR.word)] else []

/-- The CKPT region must hold 33 MiB in a device of a pair: a rule for commits of LTH (R320, R334). -/
def lthTwinCheck (s : State) : List (Nat × Nat) :=
  if s.twinEn && decide (s.rdSh (LTH.REG_SIZE_MIB 4) < 33) then [(CFG_RANGE, (LTH.REG_SIZE_MIB 4).word)] else []

end Sys2Proof.Machine
end

