-- ==== Sys2Proof/Machine/Host.lean ====
section
/-! DEFINITION. The host attachment over CXL 3.1 (R335 to R359): the link, device memory through HDM, the rings in host memory, and the resets of host-facing state. The command ring's WRITE and READ entries stand beside the register fabric. -/

namespace Sys2Proof.Machine

/-! ## The link (R335, R336, R357) -/

/-- Whether the link carries traffic. -/
def State.linkUp (s : State) : Bool := s.rd CXL0.LINK_STAT_STATE != 2

/-- Whether the port can train to a combination of speed, width and flits (R335). -/
def linkLegal (speed width : Nat) (flit256 lopt cxl : Bool) : Bool :=
  (width == 4 || width == 8 || width == 16) && decide (1 ≤ speed) && decide (speed ≤ 6) &&
  (!lopt || flit256) && (!flit256 || decide (5 ≤ speed)) && (speed != 6 || flit256) && (!cxl || decide (3 ≤ speed))

/-- LINK_TRAINING: the port has trained and negotiated CXL, or falls back to a PCIe endpoint with CXL.io only (R336). -/
def linkTraining (speed width : Nat) (flit256 lopt cxl cache mem : Bool) (s : State) : State :=
  if !linkLegal speed width flit256 lopt cxl then s else
  let s := (s.wr CXL0.LINK_STAT_SPEED speed).wr CXL0.LINK_STAT_WIDTH width
  let s := ((s.wrB CXL0.LINK_STAT_FLIT256 flit256).wrB CXL0.LINK_STAT_LOPT lopt).wrB CXL0.LINK_STAT_CXL cxl
  let s := (s.wrB CXL0.LINK_STAT_CACHE_EN (cxl && cache)).wrB CXL0.LINK_STAT_MEM_EN (cxl && mem)
  ((s.wr CXL0.LINK_STAT_STATE (if s.inHold then 1 else 0)).wr CLK.PHY_LOCK_CXL 1).irq .cxl0 0

/-- LINK_TRAINING (R336). -/
def execLinkTraining (speed width : Nat) (flit256 lopt cxl cache mem : Bool) (s : State) :
    Host.Outcome State Fault Refusal := live s (linkTraining speed width flit256 lopt cxl cache mem s)

/-- LINK_RECOVERY: Recovery entered, counted, or left (R357). -/
def linkRecovery (enter : Bool) (s : State) : State :=
  if enter then
    if s.linkUp && s.rd CXL0.LINK_STAT_STATE != 3 then
      ((s.wr CXL0.LINK_STAT_STATE 3).satInc CXL0.LINK_CNT_RECOV).irq .cxl0 0 else s
  else if s.rd CXL0.LINK_STAT_STATE = 3 then (s.wr CXL0.LINK_STAT_STATE 0).irq .cxl0 0 else s

/-- LINK_RECOVERY (R357). -/
def execLinkRecovery (enter : Bool) (s : State) : Host.Outcome State Fault Refusal := live s (linkRecovery enter s)

/-- ASPM_L1: L1 entered or left (R335). -/
def aspmL1 (enter : Bool) (s : State) : State :=
  if enter then if s.rd CXL0.LINK_STAT_STATE = 0 then (s.wr CXL0.LINK_STAT_STATE 1).irq .cxl0 0 else s
  else if s.rd CXL0.LINK_STAT_STATE = 1 then (s.wr CXL0.LINK_STAT_STATE 0).irq .cxl0 0 else s

/-- ASPM_L1 (R335). -/
def execAspmL1 (enter : Bool) (s : State) : Host.Outcome State Fault Refusal := live s (aspmL1 enter s)

/-- HOST_SNOOP: a CXL.cache snoop is answered as holding no line (R335). -/
def hostSnoop (line : Nat) (s : State) : State := if s.cacheUp then s.send (.snoopMiss line) else s

/-- HOST_SNOOP (R335). -/
def execHostSnoop (line : Nat) (s : State) : Host.Outcome State Fault Refusal := live s (hostSnoop line s)

/-- IDE_INTEGRITY_FAILURE (R357). -/
def ideIntegrityFailure (s : State) : State := (s.satInc CXL0.IDE_STAT_ERR).irq .cxl0 1

/-- IDE_INTEGRITY_FAILURE (R357). -/
def execIdeIntegrityFailure (s : State) : Host.Outcome State Fault Refusal := live s (ideIntegrityFailure s)

/-- HOST_MEMORY_ERROR: an access to host memory that fails is abandoned and counted (R342). -/
def hostMemoryError (s : State) : State := (s.satInc CXL0.ERR_CNT_HM).irq .cxl0 4

/-- HOST_MEMORY_ERROR (R342). -/
def execHostMemoryError (s : State) : Host.Outcome State Fault Refusal := live s (hostMemoryError s)

/-! ## Decoders and back-invalidation (R339, R340) -/

/-- The base and size of the snapshot window in device physical addresses (R339). -/
def windowBase : Nat := 0x8000000000
def windowSize : Nat := 0x10000000

/-- Whether a decoder commit keeps the rules of R339. -/
def State.decoderGood (s : State) (i : Nat) (dpa size ways : Nat) : Bool :=
  ways == 1 && (if i = 0 then
      dpa % windowSize == 0 && size % windowSize == 0 && size != 0 && decide (dpa + size ≤ s.memSize)
    else dpa == windowBase && size == windowSize)

/-- HDM_DECODER_COMMIT: decoder 0 or 1, or the BI decoder's enable (R339, R340). -/
def hdmDecoderCommit (i : Fin 2) (hpa size dpa ways : Nat) (bi : Bool) (s : State) : State :=
  let good := s.decoderGood i.val dpa size ways
  let v := if good then s.host.decs.set i (some { hpa := hpa, size := size, dpa := dpa }) else s.host.decs
  { s with host.decs := v, host.biEn := bi }.send (.decoder i.val good)

/-- HDM_DECODER_COMMIT (R339). -/
def execHdmDecoderCommit (i : Fin 2) (hpa size dpa ways : Nat) (bi : Bool) (s : State) :
    Host.Outcome State Fault Refusal := live s (hdmDecoderCommit i hpa size dpa ways bi s)

/-- The device physical address that a host address decodes to. -/
def State.decode (s : State) (a : Nat) : Option Nat :=
  s.host.decs.toList.findSome? fun d => match d with
    | some d => if d.hpa ≤ a ∧ a < d.hpa + d.size then some (d.dpa + (a - d.hpa)) else none
    | none => none

/-- A line recalled from the host: a snoop goes out, and its answer is awaited (R340). -/
def State.recall (s : State) (line : Nat) (data : Bool) : State :=
  if s.host.biOut.contains line then s
  else { s with host.biOut := s.host.biOut ++ [line] }.send (.biSnoop line data)

/-- BACK_INVALIDATE: the tracked ones among some lines are recalled (R340). -/
def State.recallLines (s : State) (lines : List Nat) (data : Bool) : State :=
  State.each (lines.filter fun l => s.host.tracked.contains l) (fun l s => s.recall l data) s

/-- The lines of the range images that the measurements of a head's column group write: 8 columns and 128 rows of a step
and coat (R166). -/
def State.tileLines (s : State) (h m : Nat) : List Nat :=
  (List.range 16).map fun g => s.pixelAddr h (8 * g) (8 * (s.tickOf m % 128)) (s.tickOf m / 128) / 64

/-- The image lines that the measurements of the tick in progress will write in the next one (R166, R340). -/
def State.nextLines (s : State) : List Nat :=
  (s.heads.filter fun h => s.measured h.val != []).flatMap fun h => s.tileLines h.val s.now

/-- The image lines of the units that write late in the tick in progress (R162, R166). -/
def State.lateLines (s : State) : List Nat :=
  s.wins.flatMap fun w => if w.mtick + 2 = s.now ∧ (w.replay ≠ 0 ∨ w.dropped ≠ 0) then s.tileLines w.head w.mtick else []

/-- The image lines that PTB writes in the tick in progress or in the next one (R166, R340). -/
def State.imageLines (s : State) : List Nat :=
  s.nextLines ++ s.lateLines ++ s.wins.flatMap fun w => if w.mtick + 1 = s.now then s.tileLines w.head w.mtick else []

/-- The recalls of a tick: the image lines that its measurements will write in the next one, and those that late units write again in
the tick (R340). -/
def State.recallTick (s : State) : State := s.recallLines (s.nextLines ++ s.lateLines) false

/-- BI_RESPONSE: the host's answer arrives and the line stops being tracked (R340). -/
def biResponse (line : Nat) (s : State) : State :=
  if s.host.biOut.contains line then
    { s with host.biOut := s.host.biOut.erase line, host.tracked := s.host.tracked.erase line } else s

/-- BI_RESPONSE (R340). -/
def execBiResponse (line : Nat) (s : State) : Host.Outcome State Fault Refusal := live s (biResponse line s)

/-- BI_TIMEOUT: no answer within 50 µs; the write proceeds, and the line stays tracked until the answer (R340). -/
def biTimeout (line : Nat) (s : State) : State :=
  if s.host.biOut.contains line then (s.satInc CXL0.BI_STAT_TIMEOUT).irq .cxl0 2 else s

/-- BI_TIMEOUT (R340). -/
def execBiTimeout (line : Nat) (s : State) : Host.Outcome State Fault Refusal := live s (biTimeout line s)

/-- A copy of a line granted; a full filter recalls the least recently granted line first (R340). -/
def State.grantLine (s : State) (line : Nat) : State :=
  let s := if s.host.tracked.contains line ∨ s.host.tracked.length < 524288 then s else
    match s.host.tracked with
    | [] => s
    | old :: _ => (s.recall old false).satInc CXL0.BI_STAT_EVICT
  { s with host.tracked := s.host.tracked.erase line ++ [line] }

/-! ## Device memory (R228, R234, R339, R341) -/

/-- A host burst counted for its channel (R235). -/
def State.hostBurst (s : State) (c : Nat) : State :=
  if h : c < 4 then
    let v := s.host.bursts.set c (s.host.bursts[c] + 1)
    { s with host.bursts := v }
  else s

/-- Where an offset of the snapshot window lies in device memory: bytes 0 to 127 of a cell are the image of SNAP_STAT.HALF,
the rest the other one (R227, R228). -/
def State.windowAddr (s : State) (off : Nat) : Nat :=
  let half := s.rd LTH.SNAP_STAT_HALF
  let img := if off % 256 < 128 then half else 1 - half
  s.ctxAddr (off / 256) + 128 * img + off % 128

/-- A read answered with poison and counted (R341). -/
def State.poison (s : State) (a : Nat) : State :=
  ((s.satInc CXL0.ERR_CNT_POISON).irq .cxl0 3).send (.memRead a none false)

/-- A line of device memory read for the host: its burst is counted, with what fails in it, and a burst that fails its check, or
lies in a failed channel, is answered with poison (R231, R235, R236, R341). -/
def State.hostLine (s : State) (a p : Nat) (flips : List Flip) (grant : Bool) : State :=
  let rs := s.readBursts flips p 1
  let t := (s.hostBurst (channelOf p)).countBursts p rs
  if rs.any BurstRead.bad then t.poison a else
    let t := t.send (.memRead a (some (burstBytes rs)) grant)
    if grant then t.grantLine (p / 64) else t

/-- HOST_MEM_READ: a CXL.mem read of one line: data, poison from a failed channel, beyond installed memory or on a failed
check, and zeros outside every region. `flips` is what the burst reads other than written. A copy is granted in RENDER and HOST alone, while BI is enabled and PTB is not
about to write the line (R228, R234, R340, R341). Device memory of a device in HOLD is off: its reads are poisoned (log
entry 60). -/
def hostMemRead (hpa : Nat) (copy : Bool) (flips : List Flip) (s : State) : State :=
  if !s.on CXL0.LINK_STAT_MEM_EN || !s.linkUp then s else
  let a := hpa / 64 * 64
  match s.decode a with
  | none => s
  | some d =>
    if s.inHold then s.poison a else
    if windowBase ≤ d then s.hostLine a (s.windowAddr (d - windowBase)) flips false
    else if s.memSize ≤ d then s.poison a
    else match s.regionOf d with
    | none => (s.violation d 15).send (.memRead a (some (zeros 64)) false)
    | some r => s.hostLine a d flips (copy && s.host.biEn && (r == 2 || r == 5) && !s.imageLines.contains (d / 64))

/-- HOST_MEM_READ (R341). -/
def execHostMemRead (hpa : Nat) (copy : Bool) (flips : List Flip) (s : State) : Host.Outcome State Fault Refusal :=
  live s ((hostMemRead hpa copy flips s).channelsOver s.memErrs)

/-- HOST_MEM_WRITE: a CXL.mem write of one line: performed in RENDER and HOST, discarded on a failed channel, and
everywhere else discarded and counted (R228, R234, R341). -/
def hostMemWrite (hpa : Nat) (b : List Byte) (s : State) : State :=
  if !s.on CXL0.LINK_STAT_MEM_EN || !s.linkUp || s.inHold then s else
  match s.decode (hpa / 64 * 64) with
  | none => s
  | some d =>
    if windowBase ≤ d then s.violation (s.windowAddr (d - windowBase)) 15
    else if s.inRegion 2 d 64 || s.inRegion 5 d 64 then
      if s.chanFailed (channelOf d) then s else (s.stN d (subBytes b 0 64)).hostBurst (channelOf d)
    else s.violation d 15

/-- HOST_MEM_WRITE (R234). -/
def execHostMemWrite (hpa : Nat) (b : List Byte) (s : State) : Host.Outcome State Fault Refusal :=
  live s (hostMemWrite hpa b s)

/-- SCHED_LOAD: a load of an image in the HOST region first recalls the tracked lines of the image (R38, R340). SCD is not
served in HOLD (R316). -/
def schedLoad (mask : Nat) (flash : Bool) (s : State) : State :=
  if s.inHold then s else
  let t := schedLoadGo mask flash s
  match t.scd.load with
  | some r => if flash ∨ s.scd.load.isSome then t else
      t.recallLines ((List.range (divUp r.len 64)).map fun i => r.addr / 64 + i) true
  | none => t

/-- SCHED_LOAD (R38). -/
def execSchedLoad (mask : BitVec 9) (flash : Bool) (s : State) : Host.Outcome State Fault Refusal :=
  live s (schedLoad mask.toNat flash s)

/-! ## Read indices and the mirror (R343, R346) -/

/-- The ring whose index is shown: of a head, or of the frame headers (R163, R165). -/
def State.shownRing (s : State) (n : Nat) : RingSt :=
  if h : n < 8 then (if s.now < s.ptb.ring[n].start + 2 then s.ptb.old[n] else s.ptb.ring[n])
  else (if s.now < s.ptb.fh.start + 2 then s.ptb.fhOld else s.ptb.fh)

/-- The register of read index `n`: point rings 0 to 7, frame headers 8, events 9. -/
def rdFld (n : Nat) : Fld := if n < 8 then CXL1.PT_RD_IDX n else if n = 8 then CXL1.FH_RD_IDX else CXL1.EVT_RD_IDX

/-- The value of a read index that counts at the tick end: a write in the last microsecond comes too late (R346). -/
def State.rdSample (s : State) (n : Nat) : Nat := Sparse.get s.host.late n (s.rd (rdFld n))

/-- One read index sampled: taken when it moves forward and not beyond the write index; otherwise ignored, with DB_ERR
(R346). -/
def State.takeRd (s : State) (n wr start : Nat) : State :=
  if h : n < 10 then
    let i := s.host.rds[n]
    let i := if i.start = start then i else { full := 0, raw := s.rdSample n, start := start }
    let v := s.rdSample n
    if v = i.raw then
      let t := s.host.rds.set n i
      { s with host.rds := t }
    else
      let d := (v + 2 ^ 32 - i.full % 2 ^ 32) % 2 ^ 32
      if i.full + d ≤ wr then
        let t := s.host.rds.set n { i with full := i.full + d, raw := v }
        { s with host.rds := t }
      else
        let t := s.host.rds.set n { i with raw := v }
        { s with host.rds := t }.irq .cxl1 0
  else s

/-- READ_INDEX_SAMPLE: at each tick end the device samples the read indices, counts the unread entries that the tick's
writes overwrote, and signals the watermarks (R346). -/
def State.sampleRd (s : State) : State :=
  let s := State.each (List.finRange 9) (fun n s =>
    let r := s.shownRing n.val
    let s := s.takeRd n.val r.cnt r.start
    let read := (if h : n.val < 10 then s.host.rds[n.val].full else 0)
    let from_ := s.host.shown[n]
    let w0 := if from_ ≤ r.cnt then from_ else 0
    let lost := r.cnt - max w0 (read + r.slots)
    let s := if r.cap = 0 then s else s.satAdd (if n.val < 8 then CXL1.PT_LOST_COUNT n.val else CXL1.FH_LOST_COUNT) lost
    let v := s.host.shown.set n r.cnt
    let s := { s with host.shown := v }
    let mark := if n.val < 8 then s.rd (CXL1.PT_WMARK_RECORDS n.val) else 0
    if mark ≠ 0 ∧ mark ≤ r.cnt - read then s.signal (3 + n.val) else s) s
  let e := s.host.rds[9].full
  let s := s.takeRd 9 (e + (s.rd CXL1.EVT_WR_IDX + 2 ^ 32 - e % 2 ^ 32) % 2 ^ 32) 0
  { s with host.late := [] }

/-- The indices that the mirror shows (R343). -/
def State.mirrorIndices (s : State) : List Nat :=
  ((List.range 8).map fun h => s.rd (PTB.WR_IDX_IDX h)) ++
  [s.rd PTB.FH_WR_IDX_IDX, s.rd CXL1.EVT_WR_IDX, s.rd CXL1.CMD_RD_IDX, s.rd CXL1.EVT_LOST_COUNT]

/-- INDEX_MIRROR_WRITE: at a tick end at which an index has changed the mirror line is written (R343). -/
def State.mirrorLine (s : State) : State :=
  let l := s.mirrorIndices
  if !s.on CXL1.MIR_LO_EN || s.host.mirLast == some l then s else
  let b := leBytes 4 s.host.mirSeq ++ leBytes 4 s.pos ++ l.flatMap (leBytes 4) ++ zeros 7
  let s := { s with host.mirSeq := (s.host.mirSeq + 1) % 2 ^ 32, host.mirLast := some l }
  s.hostWrite (s.rd CXL1.MIR_HI_ADDR * 2 ^ 32 + s.rd CXL1.MIR_LO_ADDR * 64) (withChk b)

/-! ## The event ring (R347) -/

/-- EVENT_RECORD: a record enters the queue with the next SEQ, or is dropped when the queue is full (R347). -/
def execEventRecord (p : Page) (bit qual : Nat) (cells : List (Nat × Nat × Nat × Nat)) (args : List Nat) (s : State) :
    Host.Outcome State Fault Refusal :=
  live s (s.eventFull p bit qual (cells.map fun c => { first := c.1, rows := c.2.1, cols := c.2.2.1, step := c.2.2.2 }) args
    false)

/-- Capacity of the event ring in records (R344). -/
def State.evtCap (s : State) : Nat := s.rd CXL1.EVT_SIZE_SIZE * 64

/-- EVENT_RING_WRITE: queued records are written, up to 16 in a tick, while the ring has room; a device of a pair writes to no ring but as
TOPCOAT (R314, R330, R347). -/
def eventRingWrite (s : State) : State :=
  if !s.cacheUp || s.inHold || !s.publishes then s else
  let used := if s.host.evTick = s.now then s.host.evCnt else 0
  let fill := (s.rd CXL1.EVT_WR_IDX + 2 ^ 32 - s.host.rds[9].full % 2 ^ 32) % 2 ^ 32
  let n := min (min s.host.evq.length (16 - used)) (s.evtCap - fill)
  if n = 0 then s else
  let base := s.rd CXL1.EVT_BASE_HI_ADDR * 2 ^ 32 + s.rd CXL1.EVT_BASE_LO_ADDR * 4096
  let s := State.each (s.host.evq.take n) (fun e s =>
    (s.hostWrite (base + s.rd CXL1.EVT_WR_IDX % s.evtCap * 64) e.bytes).wrapInc CXL1.EVT_WR_IDX) s
  { s with host.evq := s.host.evq.drop n, host.evTick := s.now, host.evCnt := used + n }.signal 0

/-- EVENT_RING_WRITE (R347). -/
def execEventRingWrite (s : State) : Host.Outcome State Fault Refusal := live s (eventRingWrite s)

/-- A commit that changes EVT_BASE or EVT_SIZE takes hold: the ring's indices restart, and SEQ counts from the records
that wait (R348, R358; log entry 61). -/
def State.eventRingSet (s : State) : State :=
  let q := s.host.evq.zipIdx.map fun (e, i) => { e with seq := i }
  let v := s.host.rds.set 9 {}
  { s with host.evq := q, host.evSeq := q.length, host.rds := v }.wr CXL1.EVT_RD_IDX 0 |>.wr CXL1.EVT_WR_IDX 0

/-! ## The command ring (R349, R350) -/

/-- Capacity of the command ring in entries (R344). -/
def State.cmdCap (s : State) : Nat := s.rd CXL1.CMD_SIZE_SIZE * 64

/-- CMD_DOORBELL: a write of CMD_WR; one that would exceed the capacity is ignored (R350). -/
def cmdDoorbell (v : Nat) (s : State) : State :=
  if s.cmdCap < (v + 2 ^ 32 - s.rd CXL1.CMD_RD_IDX) % 2 ^ 32 then (s.wr CXL1.CMD_STAT_OVF 1).irq .cxl1 1
  else (s.wr CXL1.CMD_WR_IDX v).wr CXL1.CMD_STAT_OVF 0

/-- CMD_DOORBELL (R350). -/
def execCmdDoorbell (v : BitVec 32) (s : State) : Host.Outcome State Fault Refusal :=
  onPage .cxl1 s (cmdDoorbell v.toNat s)

/-- The pair `i` of an entry: BAR0 offset and value (R349). -/
def entPair (b : List Byte) (i : Nat) : Nat × Nat := (u32 b (0x10 + 8 * i) % 2 ^ 24, u32 b (0x14 + 8 * i))

/-- Whether an entry is valid (R350). -/
def entValid (b : List Byte) : Bool :=
  let op := u8 b 0
  let n := u8 b 1
  if op = 1 ∨ op = 2 then
    decide (1 ≤ n) && decide (n ≤ 6) && (List.range n).all fun i =>
      decide ((entPair b i).1 ≤ 0x15FFFF) && (entPair b i).1 % 4 == 0
  else (op == 3 || op == 4) && n == 0

/-- The entry in progress ended with a STATUS. -/
def State.entEnd (s : State) (b : List Byte) (status : Nat) : State :=
  { s with host.cmd := some { bytes := overlay b 3 (leBytes 1 status), ended := true } }

/-- CMD_FETCH: the next entry, as host memory gives it; an invalid one is rejected with STATUS 2 (R350). -/
def cmdFetch (b : List Byte) (s : State) : State :=
  if !s.cacheUp || s.inHold || s.host.cmd.isSome || s.rd CXL1.CMD_WR_IDX == s.rd CXL1.CMD_RD_IDX || s.cmdCap == 0 then s else
  let b := subBytes b 0 64
  let s := { s with host.cmd := some { bytes := b } }.wr CXL1.CMD_STAT_BUSY 1
  if entValid b then s else s.entEnd b 2

/-- CMD_FETCH (R350). -/
def execCmdFetch (b : List Byte) (s : State) : Host.Outcome State Fault Refusal := live s (cmdFetch b s)

/-- The valid entry in progress with the OP given, not ended yet. -/
def State.curEntry (s : State) (op : Nat) : Option (List Byte) :=
  match s.host.cmd with
  | some e => if !e.ended && u8 e.bytes 0 == op then some e.bytes else none
  | none => none

/-- NOP: an entry that completes without action (R349). -/
def execNop (s : State) : Host.Outcome State Fault Refusal :=
  live s (match s.curEntry 4 with | some b => s.entEnd b 1 | none => s)

/-- Whether the tick that WAIT_POS names has begun: it is the tick in progress, or lies among the 16,384 frames before
(R350). -/
def State.waitOver (s : State) (p : Nat) : Bool :=
  let fd := (s.frame + 32768 - slice p 9 15) % 32768
  if fd = 0 then decide (p % 512 ≤ s.tick) else decide (fd ≤ 16384)

/-- WAIT: the entry holds the ring until its tick; where that tick is past it ends at once (R350). -/
def waitEntry (s : State) : State :=
  match s.curEntry 3 with
  | some b => if s.waitOver (u32 b 8) then s.entEnd b 1 else s.wr CXL1.CMD_STAT_WAITING 1
  | none => s

/-- WAIT (R350). -/
def execWait (s : State) : Host.Outcome State Fault Refusal := live s (waitEntry s)

/-- WAIT_END: at the named tick the entry ends (R350). -/
def waitEnd (s : State) : State :=
  match s.curEntry 3 with
  | some b => if s.on CXL1.CMD_STAT_WAITING && s.waitOver (u32 b 8) then (s.entEnd b 1).wr CXL1.CMD_STAT_WAITING 0 else s
  | none => s

/-- WAIT_END (R350). -/
def execWaitEnd (s : State) : Host.Outcome State Fault Refusal := live s (waitEnd s)

/-- CMD_COMPLETION: an ended entry is written back whole, CMD_RD advances, and vector 1 is signalled where FLAGS asks for it
(R349 to R351). -/
def cmdCompletion (s : State) : State :=
  match s.host.cmd with
  | some e =>
    if !e.ended then s else
    let base := s.rd CXL1.CMD_BASE_HI_ADDR * 2 ^ 32 + s.rd CXL1.CMD_BASE_LO_ADDR * 4096
    let s := s.hostWrite (base + s.rd CXL1.CMD_RD_IDX % s.cmdCap * 64) e.bytes
    let s := ({ s with host.cmd := none }.wrapInc CXL1.CMD_RD_IDX).wr CXL1.CMD_STAT_BUSY 0
    if u8 e.bytes 2 % 2 = 1 then s.signal 1 else s
  | none => s

/-- CMD_COMPLETION (R350). -/
def execCmdCompletion (s : State) : Host.Outcome State Fault Refusal := live s (cmdCompletion s)

/-! ## Mailboxes (R338) -/

/-- DOE_SAFETY_REQUEST: no payload or a command telegram goes in; the oldest waiting status telegram comes back (R338). -/
def doeSafetyRequest (b : List Byte) (s : State) : State :=
  if !s.linkUp then s else
  let s := if b = [] then s else telegramReceive none b s
  match s.saf.doeQ with
  | [] => (s.send (.doe 1 [])).signal 11
  | e :: t => ({ s with saf.doeQ := t }.send (.doe 1 e.2)).signal 11

/-- DOE_SAFETY_REQUEST (R338). -/
def execDoeSafetyRequest (b : List Byte) (s : State) : Host.Outcome State Fault Refusal := live s (doeSafetyRequest b s)

/-- The object types of a DOE instance (R338). -/
def doeTypes (inst : Nat) : List DoeType := if inst = 0 then [.discovery, .spdm, .securedSpdm, .cdat] else [.discovery, .safety]

/-- DOE_DISCOVERY: the object type at an index, and the index of the next (R338). -/
def doeDiscovery (inst : Fin 2) (index : Nat) (s : State) : State :=
  if !s.linkUp then s else
  let l := doeTypes inst.val
  match l[index]? with
  | some k => (s.send (.doeType inst.val k (if index + 1 < l.length then index + 1 else 0))).signal 11
  | none => s.signal 11

/-- DOE_DISCOVERY (R338). -/
def execDoeDiscovery (inst : Fin 2) (index : Nat) (s : State) : Host.Outcome State Fault Refusal :=
  live s (doeDiscovery inst index s)

/-- CDAT_READ: a DSMAS entry each for device memory and the snapshot window, 300 ns, and the bandwidth of the link (R338). -/
def cdatRead (s : State) : State :=
  if !s.linkUp then s else
  (s.send (.cdat [(0, s.memSize), (windowBase, windowSize)] 300 (s.rd CXL0.LINK_STAT_SPEED) (s.rd CXL0.LINK_STAT_WIDTH))).signal 11

/-- CDAT_READ (R338). -/
def execCdatRead (s : State) : Host.Outcome State Fault Refusal := live s (cdatRead s)

/-! ## Resets of host-facing state (R354, R355) -/

/-- The fields that show the link and stay with it, whatever resets the page (R336, R357). -/
def linkFields : List Fld :=
  [CXL0.LINK_STAT_SPEED, CXL0.LINK_STAT_WIDTH, CXL0.LINK_STAT_FLIT256, CXL0.LINK_STAT_LOPT, CXL0.LINK_STAT_CXL,
   CXL0.LINK_STAT_CACHE_EN, CXL0.LINK_STAT_MEM_EN, CXL0.LINK_STAT_STATE, CLK.PHY_LOCK_CXL]

/-- The fields that show straps (R312, R461). -/
def strapFields : List Fld := [TWN.STAT_POS, GSL.IDENT_BOARD_VAR]

/-- Fields that show a live condition without a place in the Kept over column, put back after a page's reset. -/
def State.putBack (s s0 : State) (l : List Fld) : State := State.each l (fun f s => s.wr f (s0.rd f)) s

/-- What the resets HOST, FLR, WARM and TAKEOVER end at the host attachment, the queue of events apart. -/
def State.hostDrop (s : State) : State :=
  { s with host.cmd := none, host.late := [], host.shown := Vector.replicate 9 0, host.rds := Vector.replicate 10 {},
           host.mirSeq := 0, host.mirLast := none }

/-- The decoders, the MSI-X table and routing given up (R354). -/
def State.hostClear (s : State) : State :=
  { s with host.msix := [], host.pba := 0, host.route := [], host.vecLast := [], host.vecHeld := 0,
           host.decs := Vector.replicate 2 none, host.biEn := false, host.tracked := [], host.biOut := [],
           host.spdm.stage := 0, host.spdm.sessions := [], host.spdm.held := [], host.spdm.ide := 0, saf.doeQ := [] }

/-- HOST or FLR: the fields of every page that are not kept, the rings, the decoders and sessions go; ranging, safety and
the event queue stay (R354). FLR first recalls every tracked line. -/
def State.hostFacing (s : State) (k : ResetKind) : State :=
  let s0 := s
  let s := if k = .flr then s.recallLines s.host.tracked false else s
  let s := State.each Page.all (fun p s => s.resetPage k p) s.ckptAbandon
  let s := (s.putBack s0 (strapFields ++ linkFields)).showDomains
  s.dropRings.hostDrop.hostClear

/-- The link goes down (R354, R357). -/
def State.linkOff (s : State) : State :=
  let s := State.each linkFields (fun f s => s.wr f f.reset) s
  (s.satInc CXL0.LINK_CNT_DOWN).irq .cxl0 0

/-- HOST_RESET: host-facing state is reset and the link is taken down to be trained again (R354). -/
def hostReset (s : State) : State := (s.hostFacing .host).linkOff.wr PWR.RESET_CAUSE_HOST 1

/-- HOST_RESET (R354). -/
def execHostReset (s : State) : Host.Outcome State Fault Refusal := live s (hostReset s)

/-- FLR: host-facing state is reset and the link stays up (R354). -/
def flrReset (s : State) : State := (s.hostFacing .flr).wr PWR.RESET_CAUSE_FLR 1

/-- FLR (R354). -/
def execFlr (s : State) : Host.Outcome State Fault Refusal := live s (flrReset s)

/-- LINK_DOWN: link loss or CXL_PERST_N takes the link down and applies HOST (R354, R475). -/
def execLinkDown (s : State) : Host.Outcome State Fault Refusal := live s (hostReset s)

/-! ## The attach block (R356) -/

/-- Whether an attach block holds: MAGIC and CRC check. -/
def attachGood (b : List Byte) : Bool := u32 b 0 == 0x4854535A && u32 b 0xFC == crc32c (subBytes b 0 0xFC)

/-- ATTACH_BLOCK_READ: the rings, mirror and MOD of a block that checks are installed with every index at 0; with `all`
false only the rings that no commit has set (R356). -/
def State.attach (s : State) (b : List Byte) (all : Bool) : State :=
  if !attachGood b then s else
  let s := State.each (List.range 8) (fun h s =>
    if all || s.rd (PTB.RING_SIZE_SIZE h) == 0 then
      (s.wr (PTB.RING_BASE_ADDR h) (u32 b (8 + 4 * h))).wr (PTB.RING_SIZE_SIZE h) (u32 b (0x28 + 4 * h)) else s) s
  let s := if all || s.rd PTB.FH_SIZE_SIZE == 0 then
      (s.wr PTB.FH_BASE_ADDR (u32 b 0x48)).wr PTB.FH_SIZE_SIZE (u32 b 0x4C) else s
  let s := if all || s.rd CXL1.EVT_SIZE_SIZE == 0 then
      let a := u64 b 0x50
      (((s.wr CXL1.EVT_BASE_LO_ADDR (a % 2 ^ 32 / 4096)).wr CXL1.EVT_BASE_HI_ADDR (a / 2 ^ 32)).wr CXL1.EVT_SIZE_SIZE
        (u32 b 0x58)).eventRingSet else s
  let s := if all || s.rd CXL1.CMD_SIZE_SIZE == 0 then
      let a := u64 b 0x60
      ((((s.wr CXL1.CMD_BASE_LO_ADDR (a % 2 ^ 32 / 4096)).wr CXL1.CMD_BASE_HI_ADDR (a / 2 ^ 32)).wr CXL1.CMD_SIZE_SIZE
        (u32 b 0x68)).wr CXL1.CMD_WR_IDX 0).wr CXL1.CMD_RD_IDX 0 else s
  let s := if all || !s.on CXL1.MIR_LO_EN then
      let a := u64 b 0x70
      ((s.wr CXL1.MIR_LO_EN (a % 2)).wr CXL1.MIR_LO_ADDR (a % 2 ^ 32 / 64)).wr CXL1.MIR_HI_ADDR (a / 2 ^ 32) else s
  if all then s.wr CXL0.MOD_TICKS (u32 b 0x78) else s

/-! ## Checks of a commit (R358, R359) -/

/-- The broken rules of a commit of `CXL[1]`. -/
def cxl1Check (s : State) : List (Nat × Nat) :=
  let changed (f : Fld) : Bool := s.rdSh f != s.rd f
  let cmd := changed CXL1.CMD_BASE_LO_ADDR || changed CXL1.CMD_BASE_HI_ADDR || changed CXL1.CMD_SIZE_SIZE
  let wraps (lo hi size : Fld) : List (Nat × Nat) :=
    if 2 ^ 64 < s.rdSh hi * 2 ^ 32 + s.rdSh lo * 4096 + s.rdSh size * 4096 then [(CFG_RANGE, lo.word)] else []
  (if s.rdSh CXL1.EVT_SIZE_SIZE = 0 ∧ s.rd CXL1.EVT_SIZE_SIZE ≠ 0 then [(CFG_ZERO, CXL1.EVT_SIZE_SIZE.word)] else []) ++
  (if s.rdSh CXL1.CMD_SIZE_SIZE = 0 ∧ s.rd CXL1.CMD_SIZE_SIZE ≠ 0 then [(CFG_ZERO, CXL1.CMD_SIZE_SIZE.word)] else []) ++
  wraps CXL1.EVT_BASE_LO_ADDR CXL1.EVT_BASE_HI_ADDR CXL1.EVT_SIZE_SIZE ++
  wraps CXL1.CMD_BASE_LO_ADDR CXL1.CMD_BASE_HI_ADDR CXL1.CMD_SIZE_SIZE ++
  (if cmd && s.on CXL1.CMD_STAT_BUSY then [(CFG_BUSY, CXL1.CMD_SIZE_SIZE.word)] else [])

end Sys2Proof.Machine
end

