-- ==== Sys2Proof/Machine/Spdm.lean ====
section
/-! DEFINITION. Attestation (R352, R353): the SPDM responder of DOE instance 0, the measurement registers and the measurement blocks. Answers are given by their content; what a key or a random number would make of them is free. -/

namespace Sys2Proof.Machine

/-! ## Measurement registers and the log (R353, R433) -/

/-- The 48 bytes of a measurement register (R353, R450). -/
def State.mr (s : State) (i : Nat) : List Byte := (List.range 12).flatMap fun n => leBytes 4 (s.rd (SEC.MR_W i n))

/-- A measurement register set. -/
def State.putMr (s : State) (i : Nat) (b : List Byte) : State :=
  State.each (List.range 12) (fun n s => s.wr (SEC.MR_W i n) (u32 b (4 * n))) s

/-- A digest extended into its register, with its log entry: MR, kind, slot, sequence (R353, R433). -/
def State.measure (s : State) (mr kind slot seq : Nat) (digest : List Byte) : State :=
  let e := leBytes 1 mr ++ leBytes 1 kind ++ leBytes 1 slot ++ zeros 1 ++ leBytes 4 seq ++ subBytes digest 0 48 ++ zeros 8
  let s := s.putMr mr (sha384 (s.mr mr ++ digest))
  let l := (s.boot.log ++ [e]).take 32
  { s with boot.log := l }.wr SEC.LOG_CNT_COUNT l.length

/-- The word of the log at LOG_ADDR (R450). -/
def State.logWord (s : State) : Nat := u32 s.boot.log.flatten (4 * s.rd SEC.LOG_ADDR_WORD)

/-- The version of the firmware in use: the sequence in its log entry (R353). -/
def State.fwVersion (s : State) : Nat :=
  ((s.boot.log.find? fun e => u8 e 0 == 2).elim 0 fun e => u32 e 4)

/-- The value of measurement 6: over the running header and the active slots of partitions 0 to 8 (R353). -/
def State.mr6Value (s : State) : List Byte :=
  sha384 (s.scd.runHdr ++ (List.range 9).flatMap fun p => (s.imgSlot p true).part)

/-- A swap has made measurement 6 stale (R353). -/
def State.mr6Stale (s : State) : State := { s with host.spdm.stale := true }

/-- A measurement block by its index: DMTF type and value (R353). -/
def State.block (s : State) (i : Nat) : Option (Nat × DmtfType × List Byte) :=
  if i = 1 then some (i, .immutableRom, s.mr 1)
  else if i = 2 ∨ i = 3 then some (i, .mutableFirmware, s.mr i)
  else if i = 4 ∨ i = 5 then some (i, .firmwareConfig, s.mr i)
  else if i = 6 then some (i, .firmwareConfig, if s.host.spdm.mr6 = [] then s.mr6Value else s.host.spdm.mr6)
  else if i = 0x10 then some (i, .version, leBytes 4 (s.word .cap 0x40) ++ leBytes 4 s.fwVersion)
  else if i = 0xFD then some (i, .manifest, s.boot.log.flatten)
  else if i = 0xFE then
    some (i, .deviceMode, leBytes 4 (b2n (s.on SEC.MT_STAT_UNLOCKED) + 2 * s.role + 16 * b2n (s.safState == 2)))
  else none

/-- The indices of the measurement blocks (R353). -/
def blockIndices : List Nat := [1, 2, 3, 4, 5, 6, 0x10, 0xFD, 0xFE]

/-! ## The responder (R352) -/

/-- An answer of the responder, which signals vector 11 (R338, R352). -/
def State.answer (s : State) (r : SpdmRsp) : State := (s.send (.spdm r)).signal 11

/-- Bytes of an answer that a key or a random number makes: free. -/
def State.drawn (s : State) (n : Nat) (r : List Byte → SpdmRsp) : State := s.freeNext.answer (r (s.freeBytes n))

/-- A request worked where the link is up, PD48 is on, and the connection has come far enough; answered with an error otherwise (R440; log
entry 62). -/
def State.asked (s : State) (ok : Bool) (t : State) : State :=
  if !s.linkUp || s.inHold then s else if ok then t else s.answer .error

/-- GET_VERSION: SPDM 1.2; the connection begins anew (R352). -/
def execGetVersion (s : State) : Host.Outcome State Fault Refusal :=
  live s (s.asked true ({ s with host.spdm.stage := 1, host.spdm.sessions := [], host.spdm.held := [] }.answer (.version 1 2)))

/-- GET_CAPABILITIES (R352). -/
def execGetCapabilities (s : State) : Host.Outcome State Fault Refusal :=
  live s (s.asked (s.host.spdm.stage == 1) ({ s with host.spdm.stage := 2 }.answer .capabilities))

/-- NEGOTIATE_ALGORITHMS: P-384, SHA-384, secp384r1 and AES-256-GCM where the request offers them (R352). -/
def execNegotiateAlgorithms (offered : Bool) (s : State) : Host.Outcome State Fault Refusal :=
  live s (s.asked (s.host.spdm.stage == 2 && offered) ({ s with host.spdm.stage := 3 }.answer .algorithms))

/-- The certificate chain of slot 0 (R352). -/
def certChain : List Byte := (List.range Config.certLength).map Config.certByte

/-- GET_DIGESTS: the digest of the one chain held (R352). -/
def execGetDigests (s : State) : Host.Outcome State Fault Refusal :=
  live s (s.asked (s.host.spdm.stage == 3) (s.answer (.digests [(0, sha384 certChain)])))

/-- GET_CERTIFICATE: a portion of the chain of slot 0; slots 1 to 7 are empty (R352). -/
def execGetCertificate (slot off len : Nat) (s : State) : Host.Outcome State Fault Refusal :=
  live s (s.asked (s.host.spdm.stage == 3 && slot == 0)
    (s.answer (.certificate ((certChain.drop off).take len) (certChain.length - off - len))))

/-- CHALLENGE: answered with the chain's digest and a signature of the device key (R352). -/
def execChallenge (slot : Nat) (s : State) : Host.Outcome State Fault Refusal :=
  live s (s.asked (s.host.spdm.stage == 3 && slot == 0) (s.drawn 96 fun sig => .challengeAuth (sha384 certChain) sig))

/-- The answer to GET_MEASUREMENTS: one block, or all of them for index 0xFF (R353; the index for all is the SPDM
standard's, log entry 62). -/
def State.measurements (s : State) (index : Nat) (signed : Bool) : State :=
  let blocks := (if index = 0xFF then blockIndices else [index]).filterMap s.block
  if signed then s.drawn 96 fun sig => .measurements blocks (some sig) else s.answer (.measurements blocks none)

/-- GET_MEASUREMENTS: a request that names measurement 6 while a swap has made it stale waits until it is ready (R353). -/
def execGetMeasurements (index : Nat) (signed : Bool) (s : State) : Host.Outcome State Fault Refusal :=
  live s (s.asked (s.host.spdm.stage == 3 && (index == 0xFF || blockIndices.contains index))
    (if s.host.spdm.stale && (index == 6 || index == 0xFF) then
      { s with host.spdm.held := s.host.spdm.held ++ [(index, signed)] }
    else s.measurements index signed))

/-- MR6_RECOMPUTED: the value is ready, and the requests held are answered (R353). -/
def mr6Recomputed (s : State) : State :=
  if !s.host.spdm.stale then s else
  let held := s.host.spdm.held
  let s := { s with host.spdm.stale := false, host.spdm.mr6 := s.mr6Value, host.spdm.held := [] }
  State.each held (fun h s => s.measurements h.1 h.2) s

/-- MR6_RECOMPUTED (R353). -/
def execMr6Recomputed (s : State) : Host.Outcome State Fault Refusal := live s (mr6Recomputed s)

/-- Whether a session is established. -/
def State.session (s : State) (n : Nat) : Bool := s.host.spdm.sessions.any fun x => x.1 == n && x.2

/-- KEY_EXCHANGE: a session begins, of which there are up to 4; its exchange data and signature are free (R352). -/
def execKeyExchange (s : State) : Host.Outcome State Fault Refusal :=
  live s (s.asked (s.host.spdm.stage == 3 && decide (s.host.spdm.sessions.length < 4))
    (let n := s.host.spdm.next
     let t := { s with host.spdm.sessions := s.host.spdm.sessions ++ [(n, false)], host.spdm.next := n + 1 }
     t.drawn 192 fun b => .keyExchange n (b.take 96) (b.drop 96)))

/-- FINISH: with a good verification the handshake of a session ends and it is established (R352). -/
def execFinish (n : Nat) (good : Bool) (s : State) : Host.Outcome State Fault Refusal :=
  live s (s.asked (good && s.host.spdm.sessions.contains (n, false))
    ({ s with host.spdm.sessions := s.host.spdm.sessions.map fun (x : Nat × Bool) => if x.1 = n then (n, true) else x }.answer (.finished n)))

/-- HEARTBEAT: a session is kept alive (R352). -/
def execHeartbeat (n : Nat) (s : State) : Host.Outcome State Fault Refusal :=
  live s (s.asked (s.session n) (s.answer (.heartbeatAck n)))

/-- KEY_UPDATE: a session's keys are updated (R352). -/
def execKeyUpdate (n : Nat) (s : State) : Host.Outcome State Fault Refusal :=
  live s (s.asked (s.session n) (s.answer (.keyUpdateAck n)))

/-- END_SESSION: a session ends (R352). -/
def execEndSession (n : Nat) (s : State) : Host.Outcome State Fault Refusal :=
  live s (s.asked (s.session n)
    ({ s with host.spdm.sessions := s.host.spdm.sessions.filter fun (x : Nat × Bool) => x.1 != n }.answer (.sessionEnded n)))

/-- IDE_KM: inside a session the keys of a stream (0 CXL.io, 1 CXL.cachemem) are programmed, or a stream whose keys are
programmed is made secure or stopped (R335, R352, R357). -/
def execIdeKm (n : Nat) (stream : Fin 2) (op : Fin 3) (s : State) : Host.Outcome State Fault Refusal :=
  let f := if stream.val = 0 then CXL0.IDE_STAT_IO else CXL0.IDE_STAT_CM
  live s (s.asked (s.session n && (op.val != 1 || hasBit s.host.spdm.ide stream.val))
    (let t := if op.val = 0 then { s with host.spdm.ide := setBit s.host.spdm.ide stream.val }
       else if op.val = 1 then s.wr f 1 else { s with host.spdm.ide := clrBit s.host.spdm.ide stream.val }.wr f 0
     t.answer (.ideKmAck n stream.val)))

end Sys2Proof.Machine
end

