-- ==== Sys2Proof/Machine/Fabric.lean ====
section
/-! DEFINITION. The Gosia lanes, the domain and domain time (R360 to R389): links and parcels, beacons and the master, epochs, the discipline of domain time, and the crystal's estimate (R108 to R113). -/

namespace Sys2Proof.Machine

/-! ## Ports (R360 to R370) -/

/-- What a port holds. -/
def State.port (s : State) (p : Fin 4) : PortSt := s.gsl.ports[p]

/-- What a port holds replaced. -/
def State.putPort (s : State) (p : Fin 4) (x : PortSt) : State :=
  let v := s.gsl.ports.set p x
  { s with gsl.ports := v }

/-- Whether a port is the twin port (R361). -/
def State.twinPort (s : State) (p : Fin 4) : Bool := p == 3 && s.twinEn

/-- Whether a port may run: in use, and powered (R362, R387). -/
def State.portOn (s : State) (p : Fin 4) : Bool :=
  if s.twinPort p then true else s.on (GSL.PORT_CFG_EN p.val) && !s.inHold

/-- Whether a port is in loopback or PRBS (R370). -/
def State.portTest (s : State) (p : Fin 4) : Bool :=
  !s.twinPort p && (s.rd (GSL.PORT_CFG_LOOP p.val) != 0 || s.on (GSL.PORT_CFG_PRBS p.val))

/-- Whether a port retransmits what it receives: trained, and in far-end loopback (R370; DEDUCED, log
entry 175). -/
def State.farEnd (s : State) (p : Fin 4) : Bool :=
  s.portOn p && !s.twinPort p && s.on (GSL.PORT_STAT_UP p.val) && s.rd (GSL.PORT_CFG_LOOP p.val) == 3

/-- Whether a port is an up link that carries parcels. -/
def State.linked (s : State) (p : Fin 4) : Bool := s.portOn p && !s.portTest p && s.on (GSL.PORT_STAT_UP p.val)

/-- Whether a port is an up fabric link (R361, R370). -/
def State.fabricPort (s : State) (p : Fin 4) : Bool := s.linked p && !s.twinPort p

/-- The up fabric ports. -/
def State.fabricPorts (s : State) : List (Fin 4) := (List.finRange 4).filter fun p => s.fabricPort p

/-- Whether the device sends beacons and forwards parcels: in SINGLE and TOPCOAT only (R362). -/
def State.fabricRole (s : State) : Bool := !s.inHold && (s.role == 0 || s.role == 1)

/-- The device's domain ID. -/
def State.domainId (s : State) : Nat := s.rd GSL.IDENT_DOMAIN_ID

/-- The lane's entry of the equalisation table, the defaults where the table fails its check (R367; log entry 66). -/
def State.equalisation (s : State) (p lane : Nat) : List Byte :=
  match s.recSelect 5 with
  | some c => subBytes (s.recBody (copyAt 5 c)) (((s.rd GSL.IDENT_BOARD_VAR * 4 + p) * 4 + lane) * 8) 8
  | none => [0, 8, 12, 10, 0, 0, 0, 0]

/-! ## Parcels (R363, R364) -/

/-- A parcel put together: header, payload and CRC (R363). -/
def parcelBytes (kind hops src dst lseq ack : Nat) (payload : List Byte) : List Byte :=
  let b := leBytes 1 kind ++ leBytes 1 hops ++ leBytes 2 src ++ leBytes 2 dst ++ leBytes 2 lseq ++
    leBytes 2 payload.length ++ leBytes 2 ack ++ payload
  b ++ leBytes 4 (crc32c b)

/-- The ACK field of a port: the last LSEQ received in order, and NAK (R363). -/
def State.ackField (s : State) (p : Fin 4) (nak : Bool) : Nat := ((s.port p).rxSeq + 4095) % 4096 + 32768 * b2n nak

/-- A parcel sent on a port, kept for replay (R364). -/
def State.parcelSend (s : State) (p : Fin 4) (kind hops src dst : Nat) (payload : List Byte) : State :=
  let x := s.port p
  let b := parcelBytes kind hops src dst x.txSeq (s.ackField p false) payload
  let buf := x.buf ++ [(x.txSeq, b)]
  let x := { x with txSeq := (x.txSeq + 1) % 4096, buf := buf.drop (buf.length - 128), unacked := min 128 (x.unacked + 1) }
  (s.putPort p x).send (.parcel p.val b)

/-- A LINK parcel that answers a receipt; it takes no place in the sequence (R364; log entry 67). -/
def State.linkSend (s : State) (p : Fin 4) (nak : Bool) : State :=
  s.send (.parcel p.val (parcelBytes 6 0 s.domainId 0 (s.port p).txSeq (s.ackField p nak) []))

/-- An ACK field taken: parcels up to it are acknowledged, and a NAK asks for a replay (R364). -/
def State.ackTake (s : State) (p : Fin 4) (ack : Nat) : State :=
  let x := s.port p
  let left := (x.txSeq + 4095 - ack % 4096) % 4096
  let n := if left ≤ x.unacked then left else x.unacked
  let fresh := n < x.unacked
  s.putPort p { x with unacked := n, nak := x.nak || hasBit ack 15, replays := if fresh then 0 else x.replays
                       replayOf := if fresh then none else x.replayOf }

/-- The up fabric port on which a device's beacons arrive, in the last 20 ms, with the most HOPS remaining, the lowest on a tie (R365,
R372, R376). -/
def State.route (s : State) (d : DevSt) : Option (Fin 4) :=
  let l := (s.fabricPorts).filterMap fun p =>
    (d.hops.find? fun e => e.1 == p.val && decide (s.now < e.2.2 + 200)).map fun e => (p, e.2.1)
  (l.foldl (fun m e => match m with | none => some e | some x => if x.2 < e.2 then some e else some x)
    (none : Option (Fin 4 × Nat))).map Prod.fst

/-- What is known of a device by its ID. -/
def State.dev (s : State) (id : Nat) : Option DevSt := s.gsl.devs.find? fun d => d.id == id

/-- A parcel with a destination forwarded on the route to it, or discarded where no route is known (R365). -/
def State.forwardUnicast (s : State) (b : List Byte) : State :=
  match (s.dev (u16 b 4 % 16384)).bind s.route with
  | some q => s.parcelSend q (u8 b 0) (u8 b 1 - 1) (u16 b 2) (u16 b 4) (subBytes b 12 (u16 b 8))
  | none => s

/-- PARCEL_RECEIVE: a parcel is checked for CRC and LSEQ, answered, and forwarded where it has another destination; its
content is the subject of the row of its kind, which follows. A port in PRBS counts a bit error, one in far-end loopback retransmits
what it receives (R364, R365, R370; log entry 68). -/
def parcelReceive (p : Fin 4) (b : List Byte) (s : State) : State :=
  if !s.linked p then
    if s.portOn p && s.on (GSL.PORT_CFG_PRBS p.val) then s.satInc (GSL.LINK_ERR_CRC p.val)
    else if s.farEnd p then s.send (.parcel p.val b) else s
  else
  let n := b.length
  if n < 16 ∨ u32 b (n - 4) ≠ crc32c (b.take (n - 4)) ∨ u16 b 8 + 16 ≠ n then
    (s.satInc (GSL.LINK_ERR_CRC p.val)).linkSend p true
  else
    let s := s.ackTake p (u16 b 10)
    if u8 b 0 = 6 then s else
    let ahead := (u16 b 6 % 4096 + 4096 - (s.port p).rxSeq) % 4096
    if 2048 ≤ ahead then s
    else if 0 < ahead then s.linkSend p true
    else
      let x := s.port p
      let s := (s.putPort p { x with rxSeq := (x.rxSeq + 1) % 4096 }).linkSend p false
      if (u8 b 0 = 4 ∨ u8 b 0 = 5) ∧ u16 b 4 % 16384 ≠ s.domainId ∧ ¬hasBit (u16 b 4) 15 ∧ 0 < u8 b 1 ∧ s.fabricRole ∧ s.fabricPort p
      then s.forwardUnicast b else s

/-- PARCEL_RECEIVE (R364). -/
def execParcelReceive (p : Fin 4) (b : List Byte) (s : State) : Host.Outcome State Fault Refusal := live s (parcelReceive p b s)

/-- A port that must train again: its link is gone until it has trained (R364, R366). -/
def State.portWant (s : State) (p : Fin 4) : State :=
  (s.putPort p { s.port p with want := true }).wr (GSL.PORT_STAT_UP p.val) 0

/-- PARCEL_REPLAY: after a NAK, or when no ACK has come within 5 µs, the buffer is replayed from the oldest parcel not
acknowledged; the eighth consecutive replay of one parcel makes the port train (R364). -/
def parcelReplay (p : Fin 4) (timeout : Bool) (s : State) : State :=
  let x := s.port p
  if !s.linked p || x.unacked == 0 || !(x.nak || timeout) then s else
  let again := x.buf.drop (x.buf.length - x.unacked)
  let first := (again.head?.map Prod.fst).getD 0
  let n := if x.replayOf = some first then x.replays + 1 else 1
  let s := (s.putPort p { x with nak := false, replayOf := some first, replays := n }).satInc (GSL.LINK_ERR_REPLAY p.val)
  let s := State.each again (fun e s => s.send (.parcel p.val e.2)) s
  if 8 ≤ n then s.portWant p else s

/-- PARCEL_REPLAY (R364). -/
def execParcelReplay (p : Fin 4) (timeout : Bool) (s : State) : Host.Outcome State Fault Refusal := live s (parcelReplay p timeout s)

/-- The width a port trains at: the widest set of R360 whose lanes hold lock, up to a bound. -/
def trainWidth (lanes bound : Nat) : Nat :=
  if lanes % 16 = 15 ∧ 4 ≤ bound then 4 else if lanes % 4 = 3 ∧ 2 ≤ bound then 2 else if lanes % 2 = 1 ∧ 1 ≤ bound then 1 else 0

/-- A training that ends with the lanes given in lock: the port is up and replays its buffer, or has failed; the third
failure within 10 ms takes it down and raises LINK (R360, R364, R367). -/
def State.train (s : State) (p : Fin 4) (lanes : Nat) : State :=
  let x := s.port p
  let w := trainWidth (if s.twinPort p then lanes % 2 else lanes) x.maxWidth
  let s := (s.wr (GSL.PORT_STAT_WIDTH p.val) w).wrB (GSL.PORT_STAT_UP p.val) (w != 0)
  let s := s.bitPut CLK.PHY_LOCK_GOSIA p.val (w != 0)
  if w ≠ 0 then
    let e := s.equalisation p.val 0
    let s := ((s.wrB (GSL.PORT_STAT_TRUNK p.val) (hasBit (u8 e 5) 0)).wrB (GSL.PORT_STAT_TWIN p.val) (s.twinPort p)).wr
      (GSL.EYE_VALID p.val) 0
    let s := if (s.recSelect 5).isNone then s.event .gsl 255 [p.val] else s
    let used := 2 ^ w - 1
    let s := (s.wr (GSL.PORT_STAT_LOS p.val) (s.rd (GSL.PORT_STAT_LOS p.val) &&& (15 - used))).wr (GSL.PORT_STAT_LOL p.val)
      (s.rd (GSL.PORT_STAT_LOL p.val) &&& (15 - used))
    let s := s.putPort p { x with want := false, fails := [], downAt := none, replays := 0, replayOf := none, nak := false
                                  asym := sgn 16 (u16 e 6), eyes := Vector.replicate 4 none
                                  eq := Vector.ofFn fun (l : Fin 4) => s.equalisation p.val l.val }
    State.each (x.buf.drop (x.buf.length - x.unacked)) (fun e s => s.send (.parcel p.val e.2)) s
  else
    let fails := (x.fails.filter fun t => decide (s.now < t + 100)) ++ [s.now]
    if 3 ≤ fails.length then (s.putPort p { x with want := false, fails := [], downAt := some s.now }).irq .gsl 0
    else s.putPort p { x with fails := fails }

/-- PORT_RETRAIN: a port that must train trains, on the lanes that then hold lock and alignment (R360, R364, R366, R367). -/
def portRetrain (p : Fin 4) (lanes : BitVec 4) (s : State) : State :=
  if s.portOn p && (s.port p).want then s.train p lanes.toNat else s

/-- PORT_RETRAIN (R364). -/
def execPortRetrain (p : Fin 4) (lanes : BitVec 4) (s : State) : Host.Outcome State Fault Refusal := onPage .gsl s (portRetrain p lanes s)

/-- PORT_DOWN_RETRY: a port that is down tries again every 100 ms (R364). -/
def portDownRetry (p : Fin 4) (lanes : BitVec 4) (s : State) : State :=
  match (s.port p).downAt with
  | some t =>
    if s.portOn p ∧ t + 1000 ≤ s.now then
      let s := s.train p lanes.toNat
      if (s.port p).downAt.isNone then s else s.putPort p { s.port p with downAt := some s.now, fails := [] }
    else s
  | none => s

/-- PORT_DOWN_RETRY (R364). -/
def execPortDownRetry (p : Fin 4) (lanes : BitVec 4) (s : State) : Host.Outcome State Fault Refusal := live s (portDownRetry p lanes s)

/-- LANE_DROP: too much skew (cause 0), markers missing (1), LOS (2) or LOL (3) drop a lane, and the port trains at the
next narrower width (R366, R369). -/
def laneDrop (p lane : Fin 4) (cause : Fin 4) (s : State) : State :=
  if !s.portOn p then s else
  let s := if cause = 2 then s.bitPut (GSL.PORT_STAT_LOS p.val) lane.val true
    else if cause = 3 then s.bitPut (GSL.PORT_STAT_LOL p.val) lane.val true else s
  let w := s.rd (GSL.PORT_STAT_WIDTH p.val)
  if lane.val < w then
    let s := s.putPort p { s.port p with maxWidth := if w = 4 then 2 else 1 }
    s.portWant p
  else s

/-- LANE_DROP (R366). -/
def execLaneDrop (p lane : Fin 4) (cause : Fin 4) (s : State) : Host.Outcome State Fault Refusal := live s (laneDrop p lane cause s)

/-- The worst lane of a port among those scanned: the lowest eye, then the narrowest, then the lowest lane (R368; log
entry 69). -/
def worstEye (l : List (Nat × Nat × Nat)) : Option (Nat × Nat × Nat) :=
  l.foldl (fun m e => match m with
    | none => some e
    | some x => if e.2.1 < x.2.1 ∨ (e.2.1 = x.2.1 ∧ e.2.2 < x.2.2) then some e else some x) none

/-- EYE_SCAN: the scan of a lane of a port in local mode gives its eye in mV and 1/64 UI; the worst lane is shown and
compared with the limits (R368, R369). -/
def eyeScan (p lane : Fin 4) (height width : BitVec 8) (s : State) : State :=
  if !s.linked p || s.on (GSL.PORT_STAT_TRUNK p.val) || s.rd (GSL.PORT_STAT_WIDTH p.val) ≤ lane.val then s else
  let x := s.port p
  let eyes := x.eyes.set lane (some (height.toNat, width.toNat))
  let s := s.putPort p { x with eyes := eyes }
  match worstEye ((List.finRange 4).filterMap fun l => eyes[l].map fun e => (l.val, e.1, e.2)) with
  | none => s
  | some (l, h, w) =>
    let s := (((s.wr (GSL.EYE_LANE p.val) l).wr (GSL.EYE_HEIGHT p.val) h).wr (GSL.EYE_WIDTH p.val) w).wr (GSL.EYE_VALID p.val) 1
    let mh := s.rd GSL.EYE_MIN_HEIGHT
    let mw := s.rd GSL.EYE_MIN_WIDTH
    if h < mh ∨ w < mw then (s.irq .gsl 3).event .gsl 3 [s.word .gsl (0x1000B0 + 4 * p.val)] else s

/-- EYE_SCAN (R368). -/
def execEyeScan (p lane : Fin 4) (height width : BitVec 8) (s : State) : Host.Outcome State Fault Refusal :=
  live s (eyeScan p lane height width s)

/-! ## Epochs (R384) -/

/-- A membership change learned: a master announces the next epoch, for the first frame at least 1 ms away; a change
learned later than that waits for the next one (R384). -/
def State.memberChange (s : State) : State :=
  if !s.on GSL.MEMB_IS_MASTER then s else
  if s.on GSL.EPOCH_AT_PENDING then
    let ahead := (s.rd GSL.EPOCH_AT_AT_FRAME + 32768 - s.frame) % 32768 * 512
    if s.tick + 10 ≤ ahead ∧ ahead < 512 * 16384 then s else { s with gsl.change := true }
  else
    let top := s.gsl.devs.foldl (fun m d => if 0 < (d.epoch + 65536 - m) % 65536 ∧ (d.epoch + 65536 - m) % 65536 < 32768 then d.epoch else m)
      (s.rd GSL.EPOCH_CUR)
    let at_ := s.frameOf (s.now + (10 + 511 - (s.tick + 9) % 512))
    ((s.wr GSL.EPOCH_NEXT (top + 1)).wr GSL.EPOCH_AT_AT_FRAME at_).wr GSL.EPOCH_AT_PENDING 1

/-- EPOCH_TAKE_HOLD: the announced epoch takes hold at the boundary of AT_FRAME, or at this one when that has passed
(R384, R386). -/
def State.epochAtFrame (s : State) : State :=
  if s.on GSL.EPOCH_AT_PENDING ∧ (s.frame + 32768 - s.rd GSL.EPOCH_AT_AT_FRAME) % 32768 < 16384 then
    let s := ((s.wr GSL.EPOCH_CUR (s.rd GSL.EPOCH_NEXT)).wr GSL.EPOCH_AT_PENDING 0).irq .gsl 1
    if s.gsl.change then { s with gsl.change := false }.memberChange else s
  else s

/-! ## The master (R373) -/

/-- The upstream port and hop count derived from the beacons of the master followed (R376, R386). -/
def State.derivePath (s : State) : State :=
  if s.on GSL.MEMB_IS_MASTER then (s.wr GSL.MEMB_UP_PORT 0).wr GSL.MEMB_HOPS 0 else
  match s.dev (s.rd GSL.MEMB_MASTER_ID) with
  | some d =>
    match s.route d with
    | some p =>
      let left := ((d.hops.find? fun e => e.1 == p.val).map fun e => e.2.1).getD 63
      (s.wr GSL.MEMB_UP_PORT p.val).wr GSL.MEMB_HOPS (min 63 (64 - left))
    | none => s
  | none => s

/-- A master followed: another device, or the device itself (R373; log entry 70). -/
def State.follow (s : State) (id : Nat) : State :=
  let self := id == s.domainId
  if s.on GSL.MEMB_MASTER_VALID && s.rd GSL.MEMB_MASTER_ID == id && s.on GSL.MEMB_IS_MASTER == self then s else
  let had := s.on GSL.MEMB_MASTER_VALID
  let s := ((s.wrB GSL.MEMB_IS_MASTER self).wr GSL.MEMB_MASTER_VALID 1).wr GSL.MEMB_MASTER_ID id
  let s := if self then s else s.wr GSL.CLUSTER_FOLLOWED 1
  let s := { s with tim.refFrom := s.now }.irq .gsl 2
  if had && !self then s else s.derivePath

/-- The live devices that show themselves as masters, lowest ID first. -/
def State.masters (s : State) : List Nat :=
  ((s.gsl.devs.filter fun d => d.isMaster).map DevSt.id).mergeSort (· ≤ ·)

/-- LIVE and QUORUM shown (R372). -/
def State.showMembers (s : State) : State :=
  let n := s.gsl.devs.length + 1
  (s.wr GSL.MEMB_LIVE n).wrB GSL.MEMB_QUORUM (decide (s.rd GSL.CLUSTER_SIZE < 2 * n))

/-- MASTER_ELECTION at a frame boundary (R373, R381). -/
def State.elect (s : State) : State :=
  if !s.fabricRole then s else
  let s := s.showMembers
  let self := s.domainId
  match s.masters with
  | m :: _ =>
    if s.on GSL.MEMB_IS_MASTER then if m < self then s.follow m else s
    else if self < m then s.follow self else s.follow m
  | [] =>
    if s.on GSL.MEMB_IS_MASTER then s
    else if !s.on GSL.CLUSTER_FOLLOWED then s.follow self
    else if s.on GSL.MEMB_QUORUM && s.gsl.devs.all (fun d => decide (self < d.id)) then (s.follow self).memberChange
    else s.wr GSL.MEMB_MASTER_VALID 0

/-! ## Beacons (R372) -/

/-- HEAD_MASK of the next frame, with a pending swap (R372). -/
def State.nextHeads (s : State) : Nat :=
  match s.pendingSwap with
  | some (mask, due) => if due ≤ s.now + (512 - s.tick) then hdrHeadMask (s.stagedHdr mask) else s.headMask
  | none => s.headMask

/-- The payload of the device's beacon (R372). -/
def State.beaconBody (s : State) : List Byte :=
  leBytes 2 (s.rd GSL.EPOCH_CUR) ++ leBytes 2 (s.rd GSL.EPOCH_NEXT) ++
  leBytes 2 (s.rd GSL.EPOCH_AT_AT_FRAME + 32768 * s.rd GSL.EPOCH_AT_PENDING) ++ leBytes 1 s.headMask ++ leBytes 1 s.nextHeads ++
  leBytes 2 (s.rd GSL.MEMB_MASTER_ID + 32768 * s.rd GSL.MEMB_MASTER_VALID) ++ leBytes 1 (s.rd GSL.MEMB_HOPS) ++
  leBytes 1 (s.rd TIM.DSTAT_STATE + 8 * s.rd GSL.MEMB_IS_MASTER + 16 * s.rd GSL.CLUSTER_FOLLOWED +
    32 * b2n (decide (s.now < s.gsl.bumpUntil))) ++
  leBytes 2 s.frame ++ leBytes 2 s.tick ++ leBytes 8 s.dtime64 ++ zeros 8

/-- BEACON_SEND at a tick start, on every fabric port; a change that the own beacon begins to announce is one that the
master learns of (R372, R384). -/
def State.beacon (s : State) : State :=
  if !s.fabricRole then s else
  let change := s.nextHeads != s.headMask || decide (s.now < s.gsl.bumpUntil)
  let s := if change && !s.gsl.ownChange then s.memberChange else s
  let s := { s with gsl.ownChange := change }
  let b := s.beaconBody
  State.each s.fabricPorts (fun p s => s.parcelSend p 1 63 s.domainId 32768 b) s

/-- A broadcast parcel forwarded on every up fabric port but the one it came on (R365). -/
def State.flood (s : State) (p : Fin 4) (kind src hops : Nat) (b : List Byte) : State :=
  if hops = 0 then s else
  State.each (s.fabricPorts.filter (· != p)) (fun q s => s.parcelSend q kind (hops - 1) src 32768 b) s

/-- A device's entry put among the others, by rising ID. -/
def putDev (l : List DevSt) (d : DevSt) : List DevSt :=
  (l.filter fun x => decide (x.id < d.id)) ++ d :: l.filter fun x => decide (d.id < x.id)

/-- What a follower takes from a beacon of its master: the epoch announced, or one it missed (R384). -/
def State.takeAnnounce (s : State) (b : List Byte) : State :=
  if hasBit (u16 b 4) 15 then
    ((s.wr GSL.EPOCH_NEXT (u16 b 2)).wr GSL.EPOCH_AT_AT_FRAME (u16 b 4 % 32768)).wr GSL.EPOCH_AT_PENDING 1
  else if u16 b 0 ≠ s.rd GSL.EPOCH_CUR then
    ((s.wr GSL.EPOCH_NEXT (u16 b 0)).wr GSL.EPOCH_AT_AT_FRAME (s.frame + 1)).wr GSL.EPOCH_AT_PENDING 1
  else s

/-- Whether the device is its own master with no follower, and has never followed another (R373; log entry 71). -/
def State.loneMaster (s : State) : Bool :=
  s.on GSL.MEMB_IS_MASTER && !s.on GSL.CLUSTER_FOLLOWED && s.gsl.devs.all fun d => d.master != some s.domainId

/-- BEACON_RECEIVE: a beacon of another device, by the port it came on, its source, its HOPS and its payload, keeps that
device live, tells of its master, and is forwarded the first time; the own ID is flagged as a duplicate (R365, R371 to
R373, R384). -/
def beaconReceive (p : Fin 4) (src : BitVec 14) (hops : Fin 64) (b : List Byte) (s : State) : State :=
  if !s.fabricPort p || !s.fabricRole then s else
  let id := src.toNat
  if id = s.domainId then (s.wr GSL.IDENT_DUP_ID 1).irq .gsl 4 else
  let key := u16 b 0x0C % 32768 * 512 + u16 b 0x0E % 512
  let old := s.dev id
  let first := old.all fun d => let k := (key + 2 ^ 24 - d.key) % 2 ^ 24; decide (0 < k) && decide (k < 2 ^ 23)
  let flags := u8 b 0x0B
  let change := u8 b 6 != u8 b 7 || hasBit flags 5
  let d : DevSt := {
    id := id, seen := s.now, key := if first then key else (old.map DevSt.key).getD key
    hops := Sparse.put ((old.map DevSt.hops).getD []) p.val (hops.val, s.now)
    isMaster := hasBit flags 3
    master := if hasBit (u16 b 8) 15 then some (u16 b 8 % 16384) else none
    epoch := u16 b 0, change := change }
  let news := old.isNone || (change && old.any fun o => !o.change)
  let s := if hops = 63 then (s.wr (GSL.PORT_STAT_NBR_ID p.val) id).wr (GSL.PORT_STAT_NBR_VALID p.val) 1 else s
  let lone := s.loneMaster
  let s := { s with gsl.devs := putDev s.gsl.devs d }
  let s := s.showMembers
  let s := if d.isMaster && (lone || !s.on GSL.MEMB_MASTER_VALID) then s.follow id else s
  let s := if news then s.memberChange else s
  let s := if !s.on GSL.MEMB_IS_MASTER && s.on GSL.MEMB_MASTER_VALID && s.rd GSL.MEMB_MASTER_ID == id then s.takeAnnounce b else s
  if first then s.flood p 1 id hops.val (subBytes b 0 32) else s

/-- BEACON_RECEIVE (R372). -/
def execBeaconReceive (p : Fin 4) (src : BitVec 14) (hops : Fin 64) (b : List Byte) (s : State) :
    Host.Outcome State Fault Refusal := live s (beaconReceive p src hops b s)

/-- DEVICE_LOST: a device with no beacon for 20 ms is lost (R372, R384). -/
def deviceLost (id : BitVec 14) (s : State) : State :=
  match s.dev id.toNat with
  | some d =>
    if d.seen + 200 ≤ s.now then
      let s := { s with gsl.devs := s.gsl.devs.filter fun x => x.id != d.id }
      let s := State.each (List.finRange 4)
        (fun p s => if s.rd (GSL.PORT_STAT_NBR_ID p.val) = d.id then s.wr (GSL.PORT_STAT_NBR_VALID p.val) 0 else s) s
      s.showMembers.memberChange
    else s
  | none => s

/-- DEVICE_LOST (R372). -/
def execDeviceLost (id : BitVec 14) (s : State) : Host.Outcome State Fault Refusal := live s (deviceLost id s)

/-- EPOCH_BUMP: own beacons carry bump for one frame (R384). -/
def epochBump (s : State) : State := { s with gsl.bumpUntil := s.now + 512 }

/-- EPOCH_BUMP (R384). -/
def execEpochBump (s : State) : Host.Outcome State Fault Refusal := onPage .gsl s (epochBump s)

/-! ## The crystal (R108 to R113) -/

/-- 2^56, the units of a second of domain time. -/
abbrev SEC56 : Nat := 2 ^ 56

/-- FREQ_CORR, TEMP and TCOMP_VALID shown: ε from TCOMP and TRIM, in 1/16 ppb (R109, R118). -/
def State.showEps (s : State) : State :=
  let t := s.resVal 47 / 16
  let valid := Config.tcompPresent && s.sensorOk 15
  let s := (s.wrI TIM.TCOMP_CTRL_TEMP (clampI (-128) 127 t)).wrB TIM.XTAL_STAT_TCOMP_VALID valid
  let c := if valid && s.on TIM.TCOMP_CTRL_EN then Config.tcomp t else 0
  s.wrI TIM.FREQ_CORR_CORR (c + 16 * s.rdI TIM.TRIM_PPB)

/-- The rate of domain time against crystal time, 1 / (1 + ε) plus the steering term, as a fraction: ε in 1/16 ppb as it stood at
the start of the tick, the steering in ppb (R110, R111; a change of ε inside a tick counts from the next one, log entry 153). -/
def TimSt.rateDen (t : TimSt) : Int := 1000000000 * (16000000000 + t.eps)
def TimSt.rateNum (t : TimSt) : Int := 16000000000 * 1000000000 + t.sigma * (16000000000 + t.eps)

/-- What `n / m` seconds of crystal cycles advance domain time by, in units of 2^-56 s (R111). -/
def State.domainAdvance (s : State) (n : Int) (m : Nat) : Int := n * SEC56 * s.tim.rateNum / (m * s.tim.rateDen)

/-- What 100 µs of crystal cycles advance domain time by, in units of 2^-56 s (R110, R111). -/
def State.tickAdvance (s : State) : Int := s.domainAdvance 1 10000

/-- The domain time of the tick start with number `n` since the origin; that of a frame rounded to 2^-32 s (R374). -/
def tickStart (n : Nat) : Nat := if n % 512 = 0 then divNear (n * 2 ^ 32) 10000 * 2 ^ 24 else divNear (n * SEC56) 10000

/-- ε taken for the tick that begins (R110, R111). -/
def State.holdEps (s : State) : State := { s with tim.eps := s.rdI TIM.FREQ_CORR_CORR }

/-- The step of the next tick start, in 1/64 coarse bin: by at most 8 coarse bins toward its domain-time instant, positive where it
delays the tick (R375; log entry 72). -/
def State.tickStep (s : State) : Int :=
  let t := (s.tim.dtime : Int) + s.tickAdvance
  let n := divNear (t.toNat * 10000) SEC56
  clampI (-512) 512 (divNearI (((tickStart n : Int) - t) * 1000000000) (25 * 2 ^ 45))

/-- The first bin of window 7 that a step advancing the next tick start removes (R375). -/
def State.stepCut (s : State) : Nat := 16000 - ((63 - s.tickStep) / 64).toNat

/-- TICK_STEP: domain time at the start of the next tick; STEER shows the rate of its step (R375; log entry 72). -/
def State.timeTick (s : State) : State :=
  let s := s.showEps
  let step := s.tickStep
  let t := (s.tim.dtime : Int) + s.tickAdvance + step * (25 * 2 ^ 45) / 1000000000
  let s := { s with tim.dtime := t.toNat % 2 ^ 88 }
  let s := s.wrI TIM.STEER_G (divNearI (step * 1220703125) 10000000)
  match s.tim.eventAt with
  | some e => s.wr TIM.DSTAT_HOLD_S (min 65535 ((s.now - e) / 10000))
  | none => s

/-- FRAME_TS_LATCH: domain time at the start of tick 0 of a frame (R112). -/
def State.frameTs (s : State) : State := (s.wr TIM.FRAME_TS_FRAC_FRAC s.dtime64).wr TIM.FRAME_TS_SEC_SEC (s.dtime64 / 2 ^ 32)

/-- XTAL_FAIL: no crystal cycle for 10 µs (R113). The synthesisers lose lock, and with them the tick generator firing and
the TDCs stop; the islands latch a CLOCK fault (R299); a Topcoat stops with cause 6 (R329). -/
def xtalFail (s : State) : State :=
  if s.on TIM.XTAL_STAT_FAIL then s else
  let s := (s.wr TIM.XTAL_STAT_FAIL 1).wr TIM.XTAL_STAT_RUN 0
  let s := State.each (List.range 6) (fun k s => s.wr (CLK.SYN_STAT_LOCK k) 0) s
  let s := (s.irq .clk 0).event .tim 255 [s.word .tim 0x110050]
  ({ s with scd.measuring := false }.safFault SAF.FAULT_CLOCK 0).stopTopcoat 6 true

/-- XTAL_FAIL (R113). -/
def execXtalFail (s : State) : Host.Outcome State Fault Refusal := live s (xtalFail s)

/-! ## The discipline (R376 to R380) -/

/-- Whether the device is measuring in the sense of R377. -/
def State.measuringDevice (s : State) : Bool := s.headMask != 0 && !s.inPark

/-- The time state set, with TRUSTED (R379). -/
def State.timeState (s : State) (st : Nat) : State := (s.wr TIM.DSTAT_STATE st).wrB TIM.DSTAT_TRUSTED (decide (st ≤ 2))

/-- The boundary at which a code key that waits for its frame takes hold on a grid that stands at tick number `n`: the start of that
frame, or the next frame boundary where the frame has passed (R126; log entry 159). -/
def State.keyDue (s : State) (n : Nat) : Nat :=
  let at_ := s.rd STP.KEY_CTRL_AT_FRAME
  let next := (n / 512 + 1) % 32768
  let wait := if atFrameJudged at_ next = 1 then (at_ + 32768 - next) % 32768 else 0
  s.now + (512 - n % 512) + 512 * wait

/-- Domain time and the grid stepped by `d`, in units of 2^-56 s: the tick in progress takes the number of its new domain
time, and what waits for a coat or frame boundary waits for the same kind of boundary of the new grid; a code key waits for its
frame (R126, R377, R380; log entry 73). -/
def State.timeStep (s : State) (d : Int) : State :=
  let dt := (((s.tim.dtime : Int) + d) % (2 ^ 88 : Nat)).toNat
  let n := divNear (dt * 10000) SEC56
  let late (m b : Nat) : Nat := s.now + (b - (n % b)) + (m - s.now) / b * b
  let again (u : Due) : Due := match u with
    | .tick m => if s.tickOf m = 0 then .tick (late m 512) else if s.tickOf m % 128 = 0 then .tick (late m 128) else .tick m
    | u => u
  let s1 := (s.wr SCD.TICK_POS_TICK (n % 512)).wr SCD.TICK_POS_FRAME (n / 512)
  { s1 with tim.dtime := dt, tim.remaining := 0, tim.sigma := 0
            commits := s.commits.map fun c => { c with due := if c.wait then .tick (s.keyDue n) else again c.due }
            resets := s.resets.map fun r => { r with due := again r.due } }

/-- A reference event with its θ, and how long the device had run then, in units of 2^-56 s, accepted and worked (R377, R379; log entry
74). -/
def State.refEvent (s : State) (theta : Int) (age : Nat) : State :=
  let last := s.tim.eventAt.map fun _ => s.tim.eventAge
  let s := (s.wrI TIM.OFFSET_THETA (clampI (-2147483648) 2147483647 (divNearI (theta * 16000000000) SEC56))).wr TIM.DSTAT_HOLD_S 0
  let s := { s with tim.theta := theta, tim.eventAt := some s.now, tim.eventAge := age }
  let st := s.rd TIM.DSTAT_STATE
  if s.measuringDevice ∧ SEC56 / 1000 < theta.natAbs then
    { s with tim.remaining := 0, tim.sigma := 0, tim.slewing := false }.timeState 4
  else
    let s : State :=
      if !s.measuringDevice then s.timeStep (-theta)
      else
        let s := { s with tim.remaining := -theta }
        match last with
        | none => s
        | some e =>
          let d := divNearI (theta * 1000000000) (max 1 (age - e) * 2 ^ s.rd TIM.DISC_KF)
          (s.wrI TIM.TRIM_PPB (clampI (-100000) 100000 (s.rdI TIM.TRIM_PPB + d))).showEps
    if st = 3 ∨ st = 4 then { s with tim.slewing := true }
    else { s with tim.slewing := true }.timeState 1

/-- STEERING_UPDATE and SPLIT_ENTRY at a frame boundary, with the return to LOCKED and FREE (R377, R379). -/
def State.disciplineAtFrame (s : State) : State :=
  let st := s.rd TIM.DSTAT_STATE
  let s := if s.on GSL.MEMB_IS_MASTER && !s.on TIM.DISC_PPS_EN then
      { s with tim.remaining := 0, tim.slewing := false }.timeState 0
    else if (st = 3 ∨ st = 4) ∧ s.tim.slewing ∧ s.tim.remaining.natAbs * 10000000 < SEC56 then s.timeState 1
    else if st = 2 ∧ (s.tim.eventAt.getD s.tim.refFrom) + s.rd TIM.HOLD_LIMIT_S * 10000 ≤ s.now then
      { s with tim.slewing := false }.timeState 3
    else s
  let slews := s.rd TIM.DSTAT_STATE == 1 || (3 ≤ s.rd TIM.DSTAT_STATE && s.tim.slewing)
  let sigma := if slews then clampI (-19531) 19531 (divNearI (s.tim.remaining * 10000000000000) (SEC56 * 512)) else 0
  { s with tim.sigma := sigma, tim.remaining := s.tim.remaining - sigma * (SEC56 * 512) / 10000000000000 }

/-- 100 µs in units of 2^-56 s. -/
def tickUnits : Nat := SEC56 / 10000

/-- A time at a PHY, in 1/64 LSB of R95, in units of 2^-56 s. -/
def lsb64 (x : Int) : Int := x * (25 * 2 ^ 38) / 1000000000

/-- SYNC_RECEIVE: a SYNC on a port, with its departure `t1` and the arrival `t4` of the device's own last SYNC there as it
carries them, the neighbour's ASYM, and the own times `t2` of arrival and `t3` of departure, in 1/64 LSB (R376; log entry
75). On the upstream port of a follower it is a reference event. -/
def syncReceive (p : Fin 4) (t1 t2 t3 t4 : Nat) (asymA : Int) (s : State) : State :=
  if !s.fabricPort p || !s.fabricRole then s else
  let ab : Int := (t2 : Int) - t1
  let ba : Int := (t4 : Int) - t3
  let ps := clampI 0 16777215 (divNearI ((ab + ba) * 25000) (2 * 262144))
  let s := s.wr (GSL.LINK_DLY_PS p.val) ps.toNat
  let s := s.putPort p { s.port p with sync := some (t2, t1) }
  if s.on GSL.MEMB_MASTER_VALID && !s.on GSL.MEMB_IS_MASTER && s.rd GSL.MEMB_UP_PORT == p.val then
    let s := { s with tim.syncSeen := some s.now }
    let into := (clampI 0 (tickUnits - 1) (lsb64 t2 - s.tim.dtime)).toNat
    s.refEvent (divNearI ((ab - ba) * (25000 * 2 ^ 38) + (asymA - (s.port p).asym) * SEC56) 2000000000000) (s.now * tickUnits + into)
  else s

/-- SYNC_RECEIVE (R376). -/
def execSyncReceive (p : Fin 4) (t1 t2 t3 t4 : Nat) (asymA : Int) (s : State) : Host.Outcome State Fault Refusal :=
  live s (syncReceive p t1 t2 t3 t4 asymA s)

/-- SYNC_SEND at tick 2 of a frame: the domain time of its departure, and arrival and departure of the last SYNC received on the port,
each in 1/64 LSB in 16 bytes; the order and the size of the three are the model's (R376; log entry 75). -/
def State.syncSend (s : State) : State :=
  if !s.fabricRole then s else
  State.each s.fabricPorts (fun p s =>
    let got := (s.port p).sync.getD (0, 0)
    s.parcelSend p 2 0 s.domainId 0
      (leBytes 16 (s.tim.dtime * 1000000000 / (25 * 2 ^ 38)) ++ leBytes 16 got.1 ++ leBytes 16 got.2)) s

/-- PPS_EDGE: an edge of PPS_IN, `off` units of 1/64 LSB into the tick, is accepted as a reference event or rejected
(R378). -/
def ppsEdge (rising : Bool) (off : Nat) (s : State) : State :=
  if !s.on GSL.MEMB_IS_MASTER || !s.on TIM.DISC_PPS_EN || rising == s.on TIM.DISC_PPS_FALL then s else
  let own := ((s.tim.dtime : Int) + s.domainAdvance (25 * off) (2 ^ 18 * 1000000000)).toNat
  let age := s.now * tickUnits + (lsb64 off).toNat
  let sec := divNear own SEC56
  let away : Int := (own : Int) - sec * SEC56
  let early := s.tim.ppsAt.any fun t => decide (age * 10 < t * 10 + 9 * SEC56)
  if (s.rd TIM.DSTAT_STATE = 1 ∧ SEC56 < away.natAbs * 10000) ∨ early then s.satInc TIM.PPS_STAT_REJECTED else
  let s := { s with tim.ppsAt := some age }.satInc TIM.PPS_STAT_TAKEN
  if s.on TIM.TOD_ARM_ARMED then
    (s.wr TIM.TOD_ARM_ARMED 0).refEvent (sgn 88 (unsgn 88 ((own : Int) - s.rd TIM.TOD_SEC * SEC56))) age
  else s.refEvent away age

/-- PPS_EDGE (R378). -/
def execPpsEdge (rising : Bool) (off : Fin 1048576000) (s : State) : Host.Outcome State Fault Refusal :=
  live s (ppsEdge rising off.val s)

/-- TOD_ARM: TOD applies at the next accepted edge (R378). -/
def execTodArm (s : State) : Host.Outcome State Fault Refusal := onPage .tim s (s.wr TIM.TOD_ARM_ARMED 1)

/-- Whether a limit of R379 has passed that puts the time state into HOLDOVER. -/
def State.referenceGone (s : State) : Bool :=
  if s.on GSL.MEMB_IS_MASTER then
    s.on TIM.DISC_PPS_EN && decide (max (s.tim.eventAt.getD 0) s.tim.refFrom + 25000 ≤ s.now)
  else
    (s.on GSL.MEMB_MASTER_VALID || s.on GSL.CLUSTER_FOLLOWED) &&
      ((s.dev (s.rd GSL.MEMB_MASTER_ID)).isNone || decide (max (s.tim.syncSeen.getD 0) s.tim.refFrom + 1024 ≤ s.now))

/-- HOLDOVER_ENTRY: from FREE or LOCKED, when the master is not live, no SYNC came for 2 frames, or no PPS edge for 2.5 s;
σ is 0 and TRIM stays (R379). -/
def holdoverEntry (s : State) : State :=
  if s.rd TIM.DSTAT_STATE ≤ 1 ∧ s.referenceGone then
    { s with tim.sigma := 0, tim.remaining := 0, tim.slewing := false }.timeState 2
  else s

/-- HOLDOVER_ENTRY (R379). -/
def execHoldoverEntry (s : State) : Host.Outcome State Fault Refusal := live s (holdoverEntry s)

/-- TIME_STEP: while UNALIGNED the step waits for the next frame boundary; otherwise it is refused (R380). -/
def timeStepGo (s : State) : State :=
  if s.rd TIM.DSTAT_STATE = 4 then (s.wr TIM.STEP_PENDING 1).errCode .tim OK 0 else s.errCode .tim CFG_BUSY TIM.STEP_GO.word

/-- TIME_STEP (R380). -/
def execTimeStep (s : State) : Host.Outcome State Fault Refusal := onPage .tim s (timeStepGo s)

/-! ## Commit checks (R119, R377, R387, R389) -/

/-- The commit checks of TIM. -/
def timCheck (s : State) : List (Nat × Nat) :=
  let trim := sgn 32 (s.rdSh TIM.TRIM_PPB)
  (if s.rdSh TIM.HOLD_LIMIT_S = 0 then [(CFG_ZERO, TIM.HOLD_LIMIT_S.word)] else []) ++
  (if trim < -100000 ∨ 100000 < trim then [(CFG_RANGE, TIM.TRIM_PPB.word)] else []) ++
  (if s.rdSh TIM.TRIM_PPB ≠ s.rd TIM.TRIM_PPB ∧ s.rd TIM.DSTAT_STATE = 1 then [(CFG_BUSY, TIM.TRIM_PPB.word)] else [])

/-- The commit checks of GSL. -/
def gslCheck (s : State) : List (Nat × Nat) :=
  let size := s.rdSh GSL.CLUSTER_SIZE
  let lat := s.rdSh GSL.TRIG_CFG_LAT
  (if size = 0 then [(CFG_ZERO, GSL.CLUSTER_SIZE.word)] else if 64 < size then [(CFG_RANGE, GSL.CLUSTER_SIZE.word)] else []) ++
  (if lat = 0 then [(CFG_ZERO, GSL.TRIG_CFG_LAT.word)] else if 1000 < lat then [(CFG_RANGE, GSL.TRIG_CFG_LAT.word)] else []) ++
  (if s.rdSh GSL.IDENT_DOMAIN_ID ≠ s.rd GSL.IDENT_DOMAIN_ID ∧ s.headMask ≠ 0 then [(CFG_BUSY, GSL.IDENT_DOMAIN_ID.word)] else []) ++
  (if s.twinEn && (s.rdSh (GSL.PORT_CFG_LOOP 3) != 0 || s.rdSh (GSL.PORT_CFG_PRBS 3) != 0) then
    [(CFG_RANGE, (GSL.PORT_CFG_LOOP 3).word)] else [])

end Sys2Proof.Machine
end

