-- ==== Sys2Proof/Machine/DustSheet.lean ====
section
/-! DEFINITION. Dust Sheet (R390 to R406): capture records, their rings and rates, triggers, records and descriptors, and the trigger bus (R382, R383, R401, R402). Positions are lane input samples, and the instants of items tenths of them, since the tick generator started. -/

namespace Sys2Proof.Machine

/-- What a stream holds. -/
def State.strm (s : State) (k : Fin 4) : StreamSt := s.dst.streams[k]

/-- What a stream holds replaced, with its byte count shown (R393). -/
def State.putStrm (s : State) (k : Fin 4) (x : StreamSt) : State :=
  let v := s.dst.streams.set k x
  ({ s with dst.streams := v }.wr (DST.WR_LO_IDX k.val) x.wr).wr (DST.WR_HI_IDX k.val) (x.wr / 2 ^ 32)

/-- Whether a stream is enabled. -/
def State.strmOn (s : State) (k : Fin 4) : Bool := s.on (DST.SCFG_EN k.val)

/-! ## Rings (R393, R395) -/

/-- The start of the DUST region (R234). -/
def State.dustBase (s : State) : Nat := s.rd (LTH.REG_BASE_ADDR 3) * 2 ^ 20

/-- A ring of the region, as a ring of bytes that leaves failed channels out (R236, R395). -/
def State.dustRing (s : State) (ofs size : Nat) : RingSt :=
  { base := s.dustBase + ofs, cap := size, fail := s.rd LTH.MEM_SIZE_FAILED }

/-- The ring of a stream. -/
def State.strmRing (s : State) (k : Fin 4) : RingSt :=
  s.dustRing (s.rd (DST.RING_OFS_MIB k.val) * 2 ^ 20) (s.rd (DST.RING_SIZE_MIB k.val) * 2 ^ 20)

/-- Bytes stored in a ring from byte `n` on, 32 at a time, which lie in one granule. -/
def State.ringStore (s : State) (r : RingSt) (n : Nat) (b : List Byte) : State :=
  if r.slots = 0 then s else
  State.each (List.range (divUp b.length 32)) (fun i s =>
    s.engineStore 3 12 (r.addr 1 (n + 32 * i)) ((b.drop (32 * i)).take 32)) s

/-! ## Capture records (R391, R392) -/

/-- The measurements of R392: BASE, PEAK, PEAK_POS, WIDTH, RISE, NRET. -/
structure Meas where
  base : Int := 0
  peak : Int := 0
  pos  : Nat := 0
  width : Nat := 0
  rise : Nat := 0
  nret : Nat := 0
  valid : Bool := false
  deriving DecidableEq, Repr

/-- How many samples from the front of a list reach half the peak. -/
def runHalf (base peak : Int) (l : List (Nat × Int)) : Nat := (l.takeWhile fun x => decide (peak ≤ 2 * (x.2 - base))).length

/-- Rises to the threshold, with hysteresis at half of it (R392). -/
def riseCount (base : Int) (thr : Nat) (l : List (Nat × Int)) : Nat :=
  (l.foldl (fun (st : Nat × Bool) x =>
    if st.2 then (if 2 * (x.2 - base) < (thr : Int) then (st.1, false) else st)
    else if (thr : Int) ≤ x.2 - base then (st.1 + 1, true) else st) (0, false)).1

/-- The crossing of a level of `num` tenths of the peak between two samples, in 1/16 item. -/
def crossAt (base peak : Int) (num : Int) (a b : Nat × Int) : Int :=
  let lvl := num * peak - 10 * (a.2 - base)
  let d := 10 * (b.2 - a.2)
  16 * (a.1 : Int) + (if d = 0 then 0 else 16 * ((b.1 : Int) - a.1) * lvl / d)

/-- RISE before the peak, none where no sample before it lies at or below a tenth of it (R392; log entry 76). -/
def riseOf (base peak : Int) (before : List (Nat × Int)) (top : Nat × Int) : Option Nat :=
  match (List.range before.length).reverse.find? fun i => decide (10 * ((before.getD i (0, 0)).2 - base) ≤ peak) with
  | none => none
  | some i =>
    let tail := before.drop i ++ [top]
    match (List.range (tail.length - 1)).find? fun j => decide (9 * peak ≤ 10 * ((tail.getD (j + 1) (0, 0)).2 - base)) with
    | none => none
    | some j => some ((crossAt base peak 9 (tail.getD j (0, 0)) (tail.getD (j + 1) (0, 0)) -
        crossAt base peak 1 (tail.getD 0 (0, 0)) (tail.getD 1 (0, 0))).toNat)

/-- The measurements of a stream 0 record over its usable samples, item index and lane code (R392). -/
def measOf (thr free : Nat) (l : List (Nat × Int)) : Meas :=
  if l.length < 64 then {} else
  let base := (2 * ((l.take 64).map Prod.snd).sum + 64) / 128
  let top := l.foldl (fun (m : Nat × Int) x => if m.2 < x.2 then x else m) (l.getD 0 (0, 0))
  let peak := top.2 - base
  let before := l.takeWhile fun x => decide (x.1 < top.1)
  let after := l.drop before.length
  { base := base, peak := peak, pos := top.1
    width := runHalf base peak after + runHalf base peak before.reverse
    rise := (riseOf base peak before top).getD free
    nret := min 15 (riseCount base thr l), valid := true }

/-- What a capture record is of: stream, tap, held, head, row, lane, window, injected; tick and frame; first index. -/
structure CapHdr where
  stream : Nat
  tap  : Bool := false
  held : Bool := false
  head : Nat := 0
  row  : Nat := 0
  lane : Nat := 0
  window : Nat := 0
  inj  : Bool := false
  tick : Nat := 0
  frame : Nat := 0
  epoch : Nat := 0
  first : Nat := 0
  deriving DecidableEq, Repr

/-- The 32 bytes of the header of a capture record (R391). -/
def CapHdr.bytes (h : CapHdr) (decim len : Nat) (trunc : Bool) (m : Meas) : List Byte :=
  let w0 := h.stream + b2n h.tap * 4 + b2n h.held * 8 + decim * 16 + b2n trunc * 128 + h.head * 2 ^ 8 + h.row * 2 ^ 11 +
    h.lane * 2 ^ 18 + h.window * 2 ^ 21 + b2n h.inj * 2 ^ 24 + b2n m.valid * 2 ^ 25
  withChk (leBytes 4 w0 ++ leBytes 4 (h.tick + h.frame % 32768 * 512) ++ leBytes 4 len ++ leBytes 4 h.first ++
    leBytes 2 h.epoch ++ leBytes 2 (unsgn 16 m.base) ++ leBytes 2 (unsgn 16 m.peak) ++ leBytes 2 m.pos ++ leBytes 2 m.width ++
    leBytes 2 m.rise ++ leBytes 1 m.nret ++ zeros 2)

/-- The bytes a capture record takes (R391). -/
def capSize (len : Nat) : Nat := divUp (32 + len) 64 * 64

/-- A stream's allowance in the tick in progress (R394). -/
def State.allowance (s : State) (k : Fin 4) : Nat :=
  let lost := (List.range 4).filter fun c => hasBit (s.rd LTH.MEM_SIZE_FAILED) c
  let b := ((List.range 9).flatMap fun p => (s.entries p 12 s.now).filterMap fun e =>
    if lost.contains e.lane then none else some e.len).sum
  let a := s.rd (DST.SCFG_SHARE k.val) * b * 64 / 16
  if s.hkp.slow then a / 2 else a

/-! ## Open records (R398) -/

/-- The capture record that holds an item, where it is still in the ring. -/
def StreamSt.holding (x : StreamSt) (item : Nat) : Option CapRec :=
  x.recs.find? fun r => decide (r.first ≤ item) && decide (item < r.first + r.items)

/-- The instant of an item of a capture record. -/
def CapRec.instant (r : CapRec) (i : Nat) : Nat := if r.list = [] then r.inst + r.step * i else r.list.getD i 0

/-- The first item of a stream at or after a position, with the start of its capture record (R398). -/
def StreamSt.triggerItem (x : StreamSt) (pos : Nat) : Option (Nat × Nat) :=
  x.recs.findSome? fun r =>
    ((List.range r.items).find? fun i => decide (10 * pos ≤ r.instant i)).map fun i => (r.first + i, r.off)

/-- One bit of FLAGS set. -/
def OpenStream.flag (o : OpenStream) (i : Nat) : OpenStream := { o with flags := setBit o.flags i }

/-- A stream's record ended at the end of capture record `r`, or at byte `e` where none is given: its entry is formed from
what is still in the ring (R398). -/
def OpenStream.close (o : OpenStream) (x : StreamSt) (e : Nat) (lastAt : Nat) : OpenStream :=
  match o.trig with
  | none => { o with ended := true, startB := x.wr, endB := x.wr, ofs := 0, lastAt := lastAt }
  | some (g, off) =>
    let want := if g < o.pre then none else x.holding (g - o.pre)
    let oldest := (x.recs.head?.map CapRec.off).getD off
    let clamped := hasBit o.flags 1
    let start := if clamped then off else match want with | some r => r.off | none => min oldest off
    let o := if clamped || o.pre == 0 || want.isSome then o else o.flag 2
    let inside := x.recs.filter fun r => decide (start ≤ r.off) && decide (r.off < e)
    { o with ended := true, startB := start, endB := e, ofs := off - start, lastAt := lastAt
             decim := inside.foldl (fun m r => max m r.decim) 0 }

/-- A stream's record carried on: its trigger item found, its post part completed, or clamped to the ring (R398). -/
def OpenStream.advance (o : OpenStream) (x : StreamSt) (pos ring : Nat) : OpenStream :=
  if o.ended then o else
  let o := if o.trig.isSome then o else { o with trig := x.triggerItem pos }
  match o.trig with
  | none => o
  | some (g, off) =>
    match x.holding (g + o.post) with
    | some r =>
      if off + ring < r.off + r.len then (o.flag 1).close x (off + ring) (r.instant 0 / 10)
      else o.close x (r.off + r.len) (r.instant (g + o.post - r.first) / 10)
    | none =>
      if off + ring ≤ x.wr then
        let last := (x.recs.filter fun r => decide (r.off + r.len ≤ off + ring)).getLast?
        (o.flag 1).close x (off + ring) ((last.map fun r => r.instant (r.items - 1)).getD 0 / 10)
      else o

/-- Bytes of a ring from byte `n` on. -/
def State.ringLoad (s : State) (r : RingSt) (n len : Nat) : List Byte := (List.range len).map fun i => s.ld (r.addr 1 (n + i))

/-- The stream 0 record of a trigger item cut after it, with TRUNC (R398; log entry 79). -/
def State.cutRecord (s : State) (g : Nat) : State × Nat :=
  match (s.strm 0).holding g with
  | none => (s, 0)
  | some r =>
    let n := g - r.first + 1
    let len := n * (if s.on (DST.SCFG_TAP 0) then 4 else 2)
    let ring := s.strmRing 0
    let old := s.ringLoad ring r.off 31
    let hdr := overlay (overlay old 0 (leBytes 1 (u8 old 0 % 128 + 128))) 8 (leBytes 4 len)
    let s := s.ringStore ring r.off (withChk hdr)
    let x := s.strm 0
    (s.putStrm 0 { x with recs := x.recs.map fun c => if c.off = r.off then { c with items := n } else c }, r.off + capSize len)

/-- The open record carried on for one stream. -/
def State.advance (s : State) (k : Fin 4) : State :=
  match s.dst.opn with
  | none => s
  | some r =>
    match r.streams[k] with
    | none => s
    | some o =>
      if o.ended then s else
      let o := o.advance (s.strm k) r.trig.pos (s.strmRing k).slots
      let cut := k == 0 && o.ended && o.post == 0 && o.trig.isSome
      let x := if cut then s.cutRecord ((o.trig.map Prod.fst).getD 0) else (s, 0)
      let o := if cut && x.2 != 0 then { o with endB := x.2 } else o
      let v := r.streams.set k (some o)
      { x.1 with dst.opn := some { r with streams := v } }

/-- A flag of R403 set in a stream's part of the open record. -/
def State.openFlag (s : State) (k : Fin 4) (i : Nat) : State :=
  match s.dst.opn with
  | none => s
  | some r =>
    match r.streams[k] with
    | none => s
    | some o =>
      if o.ended then s else
      let v := r.streams.set k (some (o.flag i))
      { s with dst.opn := some { r with streams := v } }

/-- Whether a stream has a record open. -/
def State.strmOpen (s : State) (k : Fin 4) : Bool :=
  match s.dst.opn with
  | none => false
  | some r => match r.streams[k] with
    | none => false
    | some o => !o.ended

/-- A stream's part of the open record ended before its time, with a flag: ENDED or MEMFAIL (R393, R395, R399). -/
def State.endStream (s : State) (k : Fin 4) (flag : Nat) : State :=
  match s.dst.opn with
  | none => s
  | some r =>
    match r.streams[k] with
    | none => s
    | some o =>
      if o.ended then s else
      let o := (o.flag flag).close (s.strm k) (s.strm k).wr (s.now * tickSmp)
      let v := r.streams.set k (some o)
      { s with dst.opn := some { r with streams := v } }

/-! ## Storing (R393, R394) -/

/-- A capture record stored in its stream's ring, and kept in the list of those the ring still holds (R390, R398). -/
def State.putRecord (s : State) (k : Fin 4) (b : List Byte) (r : CapRec) : State :=
  let x := s.strm k
  let ring := s.strmRing k
  let wr := x.wr + r.len
  (s.ringStore ring x.wr (b ++ zeros (r.len - b.length))).putStrm k
    { x with wr := wr, items := x.items + r.items, used := x.used + r.len
             recs := (x.recs ++ [r]).filter fun r => decide (wr ≤ r.off + ring.slots) }

/-- A stream of a single record stops once its record has ended (R399). -/
def State.stopSingle (s : State) (k : Fin 4) : State :=
  match s.dst.opn with
  | some o => if o.single && !(s.strmOpen k) && o.streams[k].isSome then s.putStrm k { s.strm k with stopped := true } else s
  | none => s

/-- A capture record offered to its stream: stored, or dropped whole when it would pass the allowance (R394). `key` is what
decimation counts, `whole` the size that it would have undecimated; `mk` gives the record's bytes at the factor in force. -/
def State.offer (s : State) (k : Fin 4) (key whole : Nat) (items : List Byte) (hdr : Nat → List Byte) (cr : CapRec) : State :=
  if !s.strmOn k then s else
  let x := s.strm k
  let x := { x with sizes := x.sizes ++ [(key, whole)] }
  let s := s.putStrm k x
  let code := s.rd (DST.SSTAT_DECIM k.val)
  if (k ≠ 0 ∧ key % 2 ^ code ≠ 0) ∨ x.stopped ∨ cr.items = 0 then s else
  let size := capSize items.length
  if s.allowance k < x.used + size then
    ((s.satInc (DST.SSTAT_DROP k.val)).irq .dst 2).openFlag k 3
  else ((s.putRecord k (hdr code ++ items) { cr with off := x.wr, len := size, first := x.items, decim := code }).advance k).stopSingle k

/-! ## Triggers decided (R396) -/

/-- Whether a head is among those of the head sources. -/
def State.dstHead (s : State) (h : Nat) : Bool := hasBit (s.rd DST.TRIG_CFG_HEADS) h

/-- A trigger decided in the tick in progress, where its source is enabled (R396, R397). -/
def State.fired (s : State) (t : Trig) : State :=
  if hasBit (s.rd DST.TRIG_EN_SRC_EN) t.src then { s with dst.decided := s.dst.decided ++ [t] } else s

/-- A trigger of a source marked head. -/
def State.firedHead (s : State) (src h pos : Nat) (cell : Option (Nat × Nat × Nat)) : State :=
  if s.dstHead h then s.fired { src := src, pos := pos, cell := cell } else s

/-- The position of a return: its instant in its window, on line `l` (R396). -/
def retPos (mtick window l range : Nat) : Nat := mtick * tickSmp + window * winSmp + (65536 * l + 10 * range) / 320

/-! ## The taps (R390) -/

/-- The items of stream 0 for a capture at factor code `code`: index, instant in tenths of an input sample after W, word
bytes, usable lane code (R194, R212, R392, R394). -/
def laneItems (c : Capt) (tap : Bool) (code : Nat) : List (Int × Nat × List Byte × Option Int) :=
  let keep (n : Int) : Bool := n % (2 ^ code : Nat) == 0
  if tap then
    let n := (c.last - c.first + 1).toNat
    ((List.range n).map fun (i : Nat) => c.first + (i : Int)).filterMap fun i =>
      if c.has i && keep i then
        some (i, (2048 * (c.line : Int) + 10 * i * c.d).toNat, leBytes 4 (c.word i),
          if c.valid i && !c.ovr i then some (c.value i).1 else none)
      else none
  else
    let last := min ((c.last + 1) * c.d) (winSmp : Int)
    ((List.range (last + 64).toNat).map fun (i : Nat) => (i : Int) - 64).filterMap fun i =>
      if keep i then
        let valid := decide ((c.sw : Int) + c.taps + 12 ≤ i) && (c.spoil.all fun n => decide (i < (n : Int)))
        some (i, (10 * i).toNat, leBytes 2 ((c.code i).toNat + 1024 * b2n (c.over i) + 2048 * (i % 8).toNat + 16384 * b2n valid),
          if valid && !c.over i then some (16 * (c.code i - 128)) else none)
      else none

/-- One stream 0 record offered, and source 3 decided from its measurements (R390 to R392, R396). -/
def State.offerLane (s : State) (hdr : CapHdr) (c : Capt) (w0 col : Nat) : State :=
  let tap := s.on (DST.SCFG_TAP 0)
  let items := laneItems c tap (s.rd (DST.SSTAT_DECIM 0))
  let usable := items.zipIdx.filterMap fun (x, i) => x.2.2.2.map fun v => (i, v)
  let m := measOf (s.rd DST.CLS_TRIG_MTHR) (s.freeVal % 65536) usable
  let s := s.freeNext
  let bytes := items.flatMap fun x => x.2.2.1
  let first := (items.head?.map Prod.fst).getD 0
  let hdr := { hdr with tap := tap, first := unsgn 32 (if hdr.held then (hdr.first : Int) + first else first) }
  let t0 := (items.head?.map fun x => x.2.1).getD 0
  let t1 := ((items.drop 1).head?.map fun x => x.2.1).getD t0
  let cr : CapRec := { off := 0, len := 0, first := 0, items := items.length, inst := 10 * w0 + t0, step := t1 - t0 }
  let wr := (s.strm 0).wr
  let s := s.offer 0 0 0 bytes (fun code => hdr.bytes code bytes.length false m) cr
  let stored := wr != (s.strm 0).wr
  let q := s.rd DST.MEAS_TRIG_QTY
  let v : Int := if q = 0 then m.peak else if q = 1 then m.width else if q = 2 then m.rise else if q = 3 then m.nret else m.base
  let lim := s.rdI DST.MEAS_TRIG_LIMIT
  let hit := stored && m.valid && (if s.on DST.MEAS_TRIG_BELOW then decide (v < lim) else decide (lim < v))
  if hit then s.firedHead 3 hdr.head (w0 + (t0 + (t1 - t0) * m.pos) / 10) (some (hdr.head, hdr.row, col)) else s

/-- Whether stream 0 takes a lane's capture in a window of the tick in progress: one of a lane selected, unless the stream takes the
held lane, or one injected for a Dust Sheet request (R390). -/
def State.laneTapped (s : State) (h : Head) (window lane : Nat) (inj : Bool) : Bool :=
  (!s.on (DST.SCFG_HELD 0) && hasBit (s.rd DST.SEL_LANE_MASK) lane) ||
  (inj && (s.wflOf h).plan.any fun p => p.dst && p.tick == s.now && p.window == window && p.lane == lane)

/-- Stream 0 at the end of a window: the captures of its head, in the order in which their last items are produced (R390,
R391). -/
def State.tapLanes (s : State) (w : Win) : State :=
  if hh : w.head < 8 then
  if !s.strmOn 0 || s.rd (DST.SCFG_HEAD 0) != w.head then s else
  let cs := (List.range 128).flatMap fun row => (w.row row).capts.map fun c => (row, c)
  let cs := cs.filter fun (_, c) => s.laneTapped ⟨w.head, hh⟩ w.window c.lane c.inj
  let cs := cs.mergeSort fun a b => decide (a.2.line ≤ b.2.line)
  State.each cs (fun (row, c) s =>
    s.offerLane { stream := 0, head := w.head, row := row, lane := c.lane, window := w.window, inj := c.inj, tick := w.tick
                  frame := w.frame, epoch := w.epoch } c (w.mtick * tickSmp + w.window * winSmp) w.col) s
  else s

/-- The windows of the tick before window `j` have ended: the captures of those not yet offered go to stream 0 (R390). -/
def State.tapEnded (s : State) (j : Nat) : State :=
  State.each (s.wins.filter fun w => w.mtick == s.now && decide (w.window < j) && !w.tapped) (fun w s =>
    (s.putWin { w with tapped := true }).tapLanes w) s

/-- The held lane of a head as one capture over the tick that ends: its outputs are formed with the input samples of the tick, from
the phase of its decimation counter, whatever they need of the tick before; its input samples stand one tick later (R211, R214). -/
def State.heldCapt (s : State) (h : Head) : Capt :=
  let w := s.wflOf h
  let input := w.heldPrev ++ w.held.map fun (x : Sample) => { x with n := x.n + tickSmp }
  let c := s.captOf h (s.rd (WFL.HOLD_LANE h.val)) (s.rd (WFL.HOLD_ROW h.val)) false 0 input
  { c with gd := 64 * (tickSmp - if c.rsEn then 2 else 0), skew := 0, line := 0
           last := (tickSmp / max 1 c.d : Nat) - 1 + 64 / (c.d : Int), sw := w.heldFrom + tickSmp - s.now * tickSmp }

/-- The held lanes' samples of the tick move on, whether or not they are tapped (R214). -/
def State.heldEnd (s : State) : State :=
  State.each (List.finRange 8) (fun h s =>
    let w := s.wflOf h
    if s.on (WFL.HOLD_EN h.val) then s.putWfl h { w with heldPrev := w.held, held := [], heldCnt := w.heldCnt + tickSmp }
    else if w.held = [] ∧ w.heldPrev = [] then s else s.putWfl h { w with heldPrev := [], held := [] }) s

/-- The held lanes that a settings switch in the last 16 bins of the tick reaches (R91, R211). -/
def State.heldSwitch (s : State) : State :=
  State.each ((List.finRange 8).filter fun h => s.rfeSwitches h) (fun h s => s.settleHeld h (s.now * tickSmp + tickSmp - 64)) s

/-- Stream 0 with HELD at a tick end: the held lane's samples of the tick (R214, R390). -/
def State.tapHeld (s : State) : State :=
  let k := s.rd (DST.SCFG_HEAD 0)
  if hk : k < 8 then
    let h : Head := ⟨k, hk⟩
    if !s.strmOn 0 || !s.on (DST.SCFG_HELD 0) || !s.on (WFL.HOLD_EN k) then s else
    let lane := s.rd (WFL.HOLD_LANE k)
    let row := s.rd (WFL.HOLD_ROW k)
    let c := s.heldCapt h
    let tap := s.on (DST.SCFG_TAP 0)
    let code := s.rd (DST.SSTAT_DECIM 0)
    let idx := if tap then tickSmp / max 1 c.d else tickSmp
    let count := if tap then (s.wflOf h).heldCnt / max 1 c.d else (s.wflOf h).heldCnt
    let keep (i : Nat) : Bool := (count + i) % 2 ^ code == 0
    let items := ((List.range idx).filter keep).map fun (i : Nat) =>
      if tap then ((i : Int), 10 * i * c.d, leBytes 4 (c.word i), if c.valid i && !c.ovr i then some (c.value i).1 else none)
      else
        let p : Int := (i + tickSmp : Nat)
        let valid := decide ((c.sw : Int) + c.taps + 12 ≤ p)
        ((i : Int), 10 * i, leBytes 2 ((c.code p).toNat + 1024 * b2n (c.over p) + 2048 * (p % 8).toNat + 16384 * b2n valid),
          if valid && !c.over p then some (16 * (c.code p - 128)) else none)
    let usable := items.zipIdx.filterMap fun (x, i) => x.2.2.2.map fun v => (i, v)
    let m := measOf (s.rd DST.CLS_TRIG_MTHR) (s.freeVal % 65536) usable
    let bytes := items.flatMap fun x => x.2.2.1
    let t0 := (items.head?.map fun x => x.2.1).getD 0
    let t1 := ((items.drop 1).head?.map fun x => x.2.1).getD t0
    let first := count + ((items.head?.map fun x => x.1.toNat).getD 0)
    let hdr : CapHdr := { stream := 0, tap := tap, held := true, head := k, row := row, lane := lane, tick := s.tick
                          frame := s.frame, epoch := s.rd GSL.EPOCH_CUR, first := first % 2 ^ 32 }
    let cr : CapRec := { off := 0, len := 0, first := 0, items := items.length, inst := 10 * (s.now * tickSmp) + t0, step := t1 - t0 }
    let wr := (s.strm 0).wr
    let s := s.freeNext.offer 0 0 0 bytes (fun code => hdr.bytes code bytes.length false m) cr
    let q := s.rd DST.MEAS_TRIG_QTY
    let v : Int := if q = 0 then m.peak else if q = 1 then m.width else if q = 2 then m.rise else if q = 3 then m.nret else m.base
    let lim := s.rdI DST.MEAS_TRIG_LIMIT
    let hit := wr != (s.strm 0).wr && m.valid && (if s.on DST.MEAS_TRIG_BELOW then decide (v < lim) else decide (lim < v))
    if hit then s.firedHead 3 k (s.now * tickSmp + (t0 + (t1 - t0) * m.pos) / 10) (some (k, row, 0)) else s
  else s

/-- Rows that streams 1 and 2 take. -/
def State.rowTapped (s : State) (k : Fin 4) (h row : Nat) : Bool :=
  s.strmOn k && s.rd (DST.SCFG_HEAD k.val) == h && decide (s.rd (DST.SEL_ROW_LO k.val) ≤ row) &&
  decide (row ≤ s.rd (DST.SEL_ROW_HI k.val))

/-- Stream 1 at a tick end: one record per channel and window with at least one edge word, in the order of their last words
(R390; log entry 77). -/
def State.tapEdges (s : State) : State :=
  if !s.strmOn 1 then s else
  let ws := s.wins.filter fun w => w.mtick == s.now
  let recs := ws.flatMap fun w => ((List.range 128).filter fun row => s.rowTapped 1 w.head row).filterMap fun row =>
    let es := (w.row row).pulses.flatten
    if es = [] then none else
    let at_ (e : Edge) : Nat := 10 * (w.mtick * tickSmp + w.window * winSmp) + (e.coarse * 128 + e.fine) * 40 / 128
    some (w, row, es, es.map at_)
  let recs := recs.mergeSort fun a b => decide (a.2.2.2.foldl max 0 ≤ b.2.2.2.foldl max 0)
  State.each recs (fun (w, row, es, ts) s =>
    let bytes := es.flatMap fun e => leBytes 4 e.word
    let hdr : CapHdr := { stream := 1, head := w.head, row := row, window := w.window, tick := w.tick, frame := w.frame, epoch := w.epoch }
    let m : Meas := { nret := min 15 (es.filter fun e => e.kind == 0).length }
    s.offer 1 (row + w.tick) (capSize bytes.length) bytes (fun code => hdr.bytes code bytes.length false m)
      { off := 0, len := 0, first := 0, items := es.length, list := ts }) s

/-- The last instant of a window, in tenths, by which streams 2 and 3 place their items (R398). -/
def winInst (mtick window : Nat) : Nat := 10 * (mtick * tickSmp + window * winSmp + winSmp - 1)

/-- Stream 2 at a Scrim slot: the histograms of the unit's searched measurements (R390). -/
def State.tapHists (s : State) (u : WorkUnit) : State :=
  match s.winOf u with
  | none => s
  | some w =>
    let rows := ((List.range 16).map (16 * u.group + ·)).filter fun row => s.rowTapped 2 w.head row && (w.row row).scrim.isSome
    State.each rows (fun row s =>
      let vs := allVotes (w.row row).pulses (w.offs.getD []) (row / 4)
      let bytes := (List.range 4096).map fun b => BitVec.ofNat 8 (binCount vs b)
      let hdr : CapHdr := { stream := 2, head := w.head, row := row, window := w.window, tick := w.tick, frame := w.frame, epoch := w.epoch }
      s.offer 2 (row + w.tick) (capSize 4096) bytes (fun code => hdr.bytes code 4096 false {})
        { off := 0, len := 0, first := 0, items := 1, inst := winInst w.mtick w.window }) s

/-- Source 7 at a Scrim slot: an AMBIG peak, placed at its first voting stop (R396). -/
def State.watchAmbig (s : State) (u : WorkUnit) : State :=
  match s.winOf u with
  | none => s
  | some w =>
    State.each ((List.range 16).map (16 * u.group + ·)) (fun row s =>
      let ps := ((w.row row).scrim.getD []).filter Peak.ambig
      State.each ps (fun p s =>
        let es := (w.row row).pulses.flatten.filter fun e => e.kind == 0 &&
          (w.offs.getD []).any fun o => (votesOf e.coarse e.fine o (row / 4)).contains p.bin
        match (es.map fun e => e.coarse * 4 + e.fine / 32).min? with
        | some t => s.firedHead 7 w.head (w.mtick * tickSmp + w.window * winSmp + t) (some (w.head, row, w.col))
        | none => s) s) s

/-- Sources 4 and 5 at a Masking slot: a class reached, and a chain (R396). -/
def State.watchMask (s : State) (u : WorkUnit) : State :=
  match s.winOf u with
  | none => s
  | some w =>
    State.each ((List.range 16).map (16 * u.group + ·)) (fun row s =>
      let m := w.row row
      if !m.masked then s else
      let rs := (m.rets.getD []).filter fun r => r.cls == s.rd DST.CLS_TRIG_CLASS
      let s := if s.rd DST.CLS_TRIG_MIN ≤ rs.length then
          match rs.head? with
          | some r => s.firedHead 4 w.head (retPos w.mtick w.window (row / 4) r.range) (some (w.head, row, w.col))
          | none => s
        else s
      if m.chain then s.firedHead 5 w.head (w.mtick * tickSmp + w.window * winSmp) (some (w.head, row, w.col)) else s) s

/-- Sources 8 and 9 at a pulse: a saturated pulse, and edges lost; `sats` are the instants of the saturated pulses' rises in
codes after W (R396). -/
def State.watchPulse (s0 : State) (h : Head) (row window : Nat) (x : Excursion) (was : Bool × Bool) (s : State) : State :=
  match s0.winAt h.val window with
  | none => s
  | some w =>
    let w0 := w.mtick * tickSmp + window * winSmp
    let fresh := s.satHist.filter fun e => !(s0.satHist.contains e)
    let sats := (pulsesIn x was).filter fun p => p.sat && fresh.any fun e => e.1 == h.val && e.2.1 == row
    let s := State.each sats (fun p s => s.firedHead 8 h.val (w0 + p.up / 32) (some (h.val, row, w.col))) s
    if s0.rd (TDC.LOST_COUNT h.val) ≠ s.rd (TDC.LOST_COUNT h.val) then s.firedHead 9 h.val w0 none else s

/-- Source 15: a record whose range lies in the gate fires (R396). -/
def State.rangeGate (s : State) (h mtick window : Nat) (b : List Byte) : State :=
  let range := u32 b 4 % 2 ^ 20
  if 0 < range ∧ s.rd DST.RGATE_LO_RANGE ≤ range ∧ range ≤ s.rd DST.RGATE_HI_RANGE then
    let row := u32 b 0 / 1024 % 128
    s.firedHead 15 h (retPos mtick window (row / 4) range) (some (h, row, u32 b 0 % 1024))
  else s

/-- Stream 3 and source 15: the records that the point builder has written (R390, R396). -/
def State.tapPoints (s : State) : State :=
  let recs := s.ptb.tap
  let s := State.each recs (fun r s => s.rangeGate r.1 r.2.1 r.2.2.1 r.2.2.2) { s with ptb.tap := [] }
  State.each ((List.range 8).filter fun h => hasBit (s.rd DST.SEL_HEAD_MASK) h) (fun h s =>
    let mine := recs.filter fun r => r.1 == h
    if mine = [] then s else
    let bytes := mine.flatMap fun r => r.2.2.2
    let hdr : CapHdr := { stream := 3, head := h, tick := s.tick, frame := s.frame, epoch := s.rd GSL.EPOCH_CUR }
    s.offer 3 s.tick (capSize bytes.length) bytes (fun code => hdr.bytes code bytes.length false {})
      { off := 0, len := 0, first := 0, items := mine.length, list := mine.map fun r => winInst r.2.1 r.2.2.1 }) s

/-- Sources 0, 6, 10, 11, 12 and 14, which a tick end shows (R396). -/
def State.watchTick (s : State) : State :=
  let t0 := s.now * tickSmp
  let on := b2n (s.on SAF.STAT_OSSD1_ON) + 2 * b2n (s.on SAF.STAT_OSSD2_ON)
  let s := if [0, 1].any fun p => hasBit s.dst.ossd p && !hasBit on p then s.fired { src := 0, pos := t0 } else s
  let alarms := (List.range 8).foldl (fun m h => if s.on (MSK.DIRT_STAT_ALARM h) then setBit m h else m) 0
  let s := State.each ((List.range 8).filter fun h => hasBit alarms h != hasBit s.dst.dirt h)
    (fun h s => s.firedHead 6 h ((s.now - s.step128) * tickSmp) none) s
  let s := State.each (s.scd.dropped.map WorkUnit.mtick).eraseDups (fun m s => s.fired { src := 10, pos := m * tickSmp }) s
  let s := State.each (s.scd.replays.map fun k => k.wu.mtick).eraseDups (fun m s => s.fired { src := 11, pos := m * tickSmp }) s
  let s := State.each (s.heads.filter fun h => (s.emtOf h).angBad) (fun h s => s.firedHead 12 h.val t0 none) s
  let s := if s.dst.took ∧ s.scd.measureFrom ≤ s.now then { s with dst.took := false }.fired { src := 14, pos := s.scd.measureFrom * tickSmp } else s
  { s with dst.ossd := on, dst.dirt := alarms }

/-- Source 13: emission blanked by an accumulator, at the window in which it began (R396). -/
def State.watchBlank (s0 : State) (h : Head) (window : Nat) (s : State) : State :=
  if (s.emtOf h).blanked && !(s0.emtOf h).blanked then s.firedHead 13 h.val (s.now * tickSmp + window * winSmp) none else s

/-! ## The trigger bus (R382, R383, R401, R402) -/

/-- Domain time at a position, in units of 2^-32 s (R111, R112). -/
def State.timeAt (s : State) (pos : Nat) : Nat :=
  (((s.tim.dtime : Int) + s.domainAdvance ((pos : Int) - s.now * tickSmp) 5120000000) / 16777216 % (2 ^ 64 : Nat)).toNat

/-- The position of a domain time on the device's own grid, rounded down to a lane input sample (R111, R112, R383). -/
def State.posAt (s : State) (t : Nat) : Nat :=
  let d := sgn 88 (unsgn 88 ((t * 16777216 : Nat) - s.tim.dtime : Int))
  (((s.now * tickSmp : Nat) : Int) + d * 5120000000 * s.tim.rateDen / (SEC56 * s.tim.rateNum)).toNat

/-- Whether the device's time is not trusted: SPLIT or UNALIGNED (R379). -/
def State.untrusted (s : State) : Bool := decide (3 ≤ s.rd TIM.DSTAT_STATE)

/-- A trigger line put on the bus at a domain time (R382). -/
def State.assertLine (s : State) (line tsrc : Nat) : State :=
  let seq := s.gsl.trigSeq
  let b := leBytes 2 seq ++ leBytes 1 (line + 128 * b2n s.untrusted) ++ zeros 1 ++ leBytes 2 (s.rd GSL.EPOCH_CUR) ++ zeros 2 ++
    leBytes 8 tsrc ++ zeros 8
  let s := { s with gsl.trigSeq := (seq + 1) % 65536, gsl.trigs := ((s.domainId, seq) :: s.gsl.trigs).take 64 }
  if s.fabricRole then State.each s.fabricPorts (fun p s => s.parcelSend p 3 63 s.domainId 32768 b) s else s

/-- A trigger of the bus handed to Dust Sheet as source 1 (R383, R396). -/
def State.busTrigger (s : State) (b : BusTrig) : State :=
  if hasBit (s.rd DST.TRIG_EN_BUS_MASK) b.line then s.fired { src := 1, pos := s.posAt b.tsrc, bus := some b } else s

/-- TRIGGER_RECEIVE: a TRIGGER parcel, by its port, source, HOPS and payload, received `ns` into the tick, is forwarded the
first time and placed at T_SRC; late and untrusted ones are counted and marked (R365, R383). -/
def triggerReceive (p : Fin 4) (src : BitVec 14) (hops : Fin 64) (b : List Byte) (ns : Nat) (s : State) : State :=
  if !s.fabricPort p || !s.fabricRole then s else
  let seq := u16 b 0
  if s.gsl.trigs.contains (src.toNat, seq) then s else
  let s := { s with gsl.trigs := ((src.toNat, seq) :: s.gsl.trigs).take 64 }
  let s := s.flood p 3 src.toNat hops.val (subBytes b 0 24)
  if src.toNat = s.domainId then s else
  let tsrc := u64 b 8
  let arrived := s.tim.dtime + ns * SEC56 / 1000000000
  let late := decide ((s.rd GSL.TRIG_CFG_LAT : Int) * SEC56 < sgn 88 (unsgn 88 ((arrived : Int) - (tsrc * 16777216 : Nat))) * 1000000)
  let bad := hasBit (u8 b 2) 7 || s.untrusted
  let s := if late then s.satInc GSL.TRIG_STAT_LATE else s
  let s := if bad then s.satInc GSL.TRIG_STAT_UNTRUSTED else s
  s.busTrigger { line := u8 b 2 % 16, src := src.toNat, seq := seq, tsrc := tsrc, epoch := u16 b 4, late := late, untrusted := bad }

/-- TRIGGER_RECEIVE (R383). -/
def execTriggerReceive (p : Fin 4) (src : BitVec 14) (hops : Fin 64) (b : List Byte) (ns : Fin 100000) (s : State) :
    Host.Outcome State Fault Refusal := live s (triggerReceive p src hops b ns.val s)

/-- Lane input samples from the start of a tick to an instant in ns. -/
def smpOfNs (ns : Nat) : Nat := ns * tickSmp / 100000

/-- TRIG_CMD_BUS: host software asserts a line, `ns` into the tick; the sender takes it as well (R401). -/
def trigCmdBus (line ns : Nat) (s : State) : State :=
  let t := s.timeAt (s.now * tickSmp + smpOfNs ns)
  let seq := s.gsl.trigSeq
  let s := s.assertLine line t
  s.busTrigger { line := line, src := s.domainId, seq := seq, tsrc := t, epoch := s.rd GSL.EPOCH_CUR, late := false
                 untrusted := s.untrusted }

/-- TRIG_CMD_BUS (R401). -/
def execTrigCmdBus (line : BitVec 4) (ns : Fin 100000) (s : State) : Host.Outcome State Fault Refusal :=
  onPage .dst s (trigCmdBus line.toNat ns.val s)

/-- TRIG_CMD_GO: the host's trigger, at the instant of the write (R396). -/
def trigCmdGo (ns : Nat) (s : State) : State := s.fired { src := 2, pos := s.now * tickSmp + smpOfNs ns }

/-- TRIG_CMD_GO (R396). -/
def execTrigCmdGo (ns : Fin 100000) (s : State) : Host.Outcome State Fault Refusal := onPage .dst s (trigCmdGo ns.val s)

/-- The CAPTURE parcel that answers a trigger of the bus (R402). -/
def State.captureParcel (s : State) (t : BusTrig) (taken : Bool) (flags descSeq : Nat) : State :=
  if t.src = s.domainId then s else
  let b := leBytes 2 t.seq ++ leBytes 1 t.line ++ leBytes 1 (b2n taken + flags * 2 + b2n t.late * 16 + b2n t.untrusted * 32) ++
    leBytes 4 descSeq ++ leBytes 8 t.tsrc
  match (s.dev t.src).bind s.route with
  | some p => if s.fabricPort p && s.fabricRole then s.parcelSend p 5 63 s.domainId t.src b else s
  | none => s

/-- CAPTURE_PARCEL: a CAPTURE parcel from another device is told in an event record (R402; log entry 78). -/
def execCaptureParcel (_src : BitVec 14) (b : List Byte) (s : State) : Host.Outcome State Fault Refusal :=
  live s ((s.irq .dst 3).eventFull .dst 3 (u8 b 3) [] ((List.range 4).map fun i => u32 b (4 * i)) false)

/-! ## Taking a trigger (R397 to R400) -/

/-- The slots of the descriptor ring: COUNT, of which a failed channel leaves three quarters (R395, R403). -/
def State.descSlots (s : State) : Nat := (s.dustRing 0 (s.rd DST.DESC_CFG_COUNT * 128)).slots / 128

/-- A free slot in the descriptor ring (R404). -/
def State.descFree (s : State) : Bool :=
  decide ((s.rd DST.DESC_WR_IDX + 2 ^ 32 - s.rd DST.DESC_RD_IDX) % 2 ^ 32 < s.descSlots)

/-- The streams that a trigger records. -/
def State.trigStreams (s : State) : List (Fin 4) :=
  (List.finRange 4).filter fun k => hasBit (s.rd DST.TRIG_CFG_STREAMS) k.val && s.strmOn k

/-- A trigger not taken: counted, and told to the device it came from (R397, R402). -/
def State.missed (s : State) (t : Trig) (hold : Bool) : State :=
  let s := (s.satInc (if hold then DST.MISSED_HOLD else DST.MISSED_BUSY)).irq .dst 1
  let o := s.dst.opn.map fun r => { r with missed := min 65535 (r.missed + 1) }
  let s := { s with dst.opn := o }
  match t.bus with
  | some b => s.captureParcel b false 0 0
  | none => s

/-- A head by its number. -/
def headOf (k : Nat) : Head := ⟨k % 8, Nat.mod_lt _ (by decide)⟩

/-- What a trigger taken starts: its record, the request for a lane, and the bus line (R398, R400, R401). -/
def State.take (s : State) (t : Trig) (same : List Trig) : State :=
  let coinc := same.foldl (fun m x => setBit m x.src) 0
  let v : Vector (Option OpenStream) 4 := Vector.ofFn fun k =>
    if s.trigStreams.contains k then some { pre := s.rd (DST.PRE_ITEMS k.val), post := s.rd (DST.POST_ITEMS k.val) } else none
  let n := t.pos / tickSmp
  let epoch := ((s.wins.find? fun w => w.mtick == n).map Win.epoch).getD (s.rd GSL.EPOCH_CUR)
  let r : OpenRec := { trig := t, time := s.timeAt t.pos, tick := s.tickOf n, frame := s.frameOf n, epoch := epoch, coinc := coinc
                       single := s.on DST.TRIG_CFG_MODE, streams := v, buses := same.filter fun x => x.bus.isSome }
  let s := ({ s with dst.opn := some r }.wr DST.DSTAT_OPEN 1).wr DST.DSTAT_ARMED 0
  let s := State.each (List.finRange 4) (fun k s => s.advance k) s
  let s := if s.on DST.TRIG_CFG_REQ_EN then
      match t.cell with
      | some (_, row, col) => s.dstRequest (headOf (s.rd (DST.SCFG_HEAD 0))) row (some col) 0
      | none => s.dstRequest (headOf (s.rd (DST.SCFG_HEAD 0))) (s.rd DST.TRIG_CFG_REQ_ROW) none 0
    else s
  if s.on DST.TRIG_CFG_BUS_OUT_EN ∧ t.src ≠ 1 then s.assertLine (s.rd DST.TRIG_CFG_BUS_OUT) (s.timeAt t.pos) else s

/-- Whether hold-off alone keeps a trigger from being taken: all else holds, its position lies after the last record, and a hold-off
covers it, is counted in events, or has still to re-arm the machine (R397, R399). -/
def State.heldOff (s : State) (t : Trig) : Bool :=
  s.descFree && s.trigStreams != [] && s.dst.opn.isNone && decide (s.dst.last < t.pos) &&
  ((s.on DST.DSTAT_ARMED && (decide (t.pos ≤ s.dst.after) || decide (0 < s.dst.events))) ||
   (!s.on DST.DSTAT_ARMED && s.on DST.DSTAT_HOLD && !s.on DST.DSTAT_STOPPED))

/-- Whether a trigger is eligible (R397). -/
def State.eligible (s : State) (t : Trig) : Bool :=
  s.on DST.DSTAT_ARMED && s.descFree && s.trigStreams != [] && s.dst.opn.isNone && decide (s.dst.last < t.pos) &&
  decide (s.dst.after < t.pos) && decide (s.dst.events = 0)

/-- TRIGGER_RESOLVE at a tick end (R397). -/
def State.resolve (s : State) : State :=
  let l := s.dst.decided
  let s := { s with dst.decided := [] }
  if l = [] then s else
  let good := l.filter s.eligible
  match good.foldl (fun (m : Option Trig) t => match m with
      | none => some t
      | some x => if t.pos < x.pos ∨ (t.pos = x.pos ∧ t.src < x.src) then some t else some x) none with
  | some t =>
    let same := l.filter fun x => x.pos == t.pos
    let s := s.take t same
    State.each (l.filter fun x => x.pos != t.pos) (fun x s => s.missed x false) s
  | none =>
    State.each l (fun t s =>
      let hold := s.heldOff t
      let s := s.missed t hold
      if hold then { s with dst.events := s.dst.events - 1 } else s) s

/-- The 24 bytes of a stream's entry of a descriptor (R403). -/
def OpenStream.entry (o : OpenStream) : List Byte :=
  leBytes 8 o.startB ++ leBytes 8 o.endB ++ leBytes 4 (o.ofs / 64) ++ leBytes 2 o.flags ++ leBytes 1 o.decim ++ zeros 1

/-- A descriptor (R403). -/
def OpenRec.descriptor (r : OpenRec) (seq : Nat) : List Byte :=
  let t := r.trig
  let bus := t.bus.getD { line := 0, src := 0, seq := 0, tsrc := 0, epoch := 0, late := false, untrusted := false }
  let head := leBytes 4 seq ++ leBytes 1 (t.src + 16 * b2n bus.late + 32 * b2n bus.untrusted + 64 * b2n r.single) ++
    leBytes 1 (bus.line + 128 * b2n t.bus.isSome) ++ leBytes 2 r.coinc ++ leBytes 8 r.time ++
    leBytes 4 (r.tick + r.frame * 512 + t.pos % tickSmp / winSmp * 2 ^ 24) ++
    leBytes 2 (t.pos % winSmp / 4 + t.pos % 4 * 16384) ++
    leBytes 2 (if t.bus.isSome then bus.epoch else r.epoch) ++ leBytes 2 bus.src ++ leBytes 2 r.missed ++ zeros 3
  let tail := (List.finRange 4).flatMap fun k => match r.streams[k] with
    | some o => o.entry
    | none => zeros 24
  head ++ [chkByte (head ++ tail)] ++ tail

/-- DST_RECORD_END: when every stream's record has ended, the descriptor is written, DESC is raised, and the hold-off
starts, or a SINGLE machine stops (R399, R402, R403). -/
def dstRecordEnd (s : State) : State :=
  match s.dst.opn with
  | none => s
  | some r =>
    let os := r.streams.toList.filterMap id
    if !(os.all OpenStream.ended) then s else
    let seq := s.rd DST.DESC_WR_IDX
    let ring := s.dustRing 0 (s.rd DST.DESC_CFG_COUNT * 128)
    let s := if s.descSlots = 0 then s else s.ringStore ring (seq % s.descSlots * 128) (r.descriptor seq)
    let s := { s.wr DST.DESC_WR_IDX (seq + 1) with dst.opn := none }
    let s := (((s.wr DST.DSTAT_OPEN 0).irq .dst 0).event .dst 0 [s.word .dst 0x12006C])
    let flags := os.foldl (fun m o => m ||| (o.flags / 2 % 8)) 0
    let s := State.each (r.buses.filterMap Trig.bus) (fun b s => s.captureParcel b true flags seq) s
    let last := os.foldl (fun m o => max m o.lastAt) 0
    let v := s.rd DST.HOLDOFF_VALUE
    let kind := s.on DST.HOLDOFF_KIND
    let s := { s with dst.last := last, dst.after := last + (if kind then 0 else v * (tickSmp / 100)), dst.events := if kind then v else 0 }
    let s := s.wrB DST.DSTAT_HOLD (!r.halted && v != 0)
    if r.single then
      let s := s.wr DST.DSTAT_STOPPED 1
      State.each (List.finRange 4) (fun k s => if r.streams[k].isSome then s.putStrm k { s.strm k with stopped := true } else s) s
    else if r.halted || v ≠ 0 then s else s.wr DST.DSTAT_ARMED 1

/-- DST_RECORD_END (R399). -/
def execDstRecordEnd (s : State) : Host.Outcome State Fault Refusal := live s (dstRecordEnd s)

/-- HOLDOFF_END: the hold-off is over once its time has passed, `ns` into the tick, and its events have; an AUTO machine re-arms, a
SINGLE one stays disarmed (R399). -/
def holdoffEnd (ns : Nat) (s : State) : State :=
  if s.on DST.DSTAT_HOLD && s.dst.events == 0 && decide (s.dst.after ≤ s.now * tickSmp + smpOfNs ns) then
    let s := s.wr DST.DSTAT_HOLD 0
    if s.on DST.DSTAT_STOPPED then s else s.wr DST.DSTAT_ARMED 1
  else s

/-- HOLDOFF_END (R399). -/
def execHoldoffEnd (ns : Fin 100000) (s : State) : Host.Outcome State Fault Refusal := live s (holdoffEnd ns.val s)

/-- ARM_GO: the machine arms at the next tick boundary (R20, R399, R405). -/
def armGo (ns : Nat) (s : State) : State :=
  let n := s.nextTick ns
  { s with dst.armAt := some n }

/-- ARM_GO (R399). -/
def execArmGo (ns : Fin 100000) (s : State) : Host.Outcome State Fault Refusal := onPage .dst s (armGo ns.val s)

/-- An ARM.GO taking hold: the machine arms, and streams stopped by SINGLE write again (R399). -/
def State.arm (s : State) : State :=
  let s := State.each (List.finRange 4) (fun k s => s.putStrm k { s.strm k with stopped := false }) s
  let s := { s with dst.armAt := none }
  if s.dst.opn.isSome then s else (s.wr DST.DSTAT_ARMED 1).wr DST.DSTAT_STOPPED 0

/-- Disarming: open records end with ENDED (R399, R405). -/
def State.disarm (s : State) : State :=
  let s := State.each (List.finRange 4) (fun k s => s.endStream k 5) s
  let o := s.dst.opn.map fun (r : OpenRec) => { r with halted := true }
  let s := { s with dst.armAt := none, dst.events := 0, dst.opn := o }
  (s.wr DST.DSTAT_ARMED 0).wr DST.DSTAT_HOLD 0

/-- ARM_STOP (R399). -/
def execArmStop (s : State) : Host.Outcome State Fault Refusal := onPage .dst s s.disarm

/-! ## Boundaries (R393 to R395) -/

/-- Bytes that the captures planned for the tick would take at a factor code (R394). -/
def State.plannedBytes (s : State) (code : Nat) : Nat :=
  let k := s.rd (DST.SCFG_HEAD 0)
  let tap := s.on (DST.SCFG_TAP 0)
  if hk : k < 8 then
    let held := if s.on (DST.SCFG_HELD 0) then
        let d := (s.bankOf k (s.rd (WFL.FILT_BANK k (s.rd (WFL.HOLD_LANE k))))).1
        capSize (if tap then tickSmp / max 1 d / 2 ^ code * 4 else tickSmp / 2 ^ code * 2)
      else 0
    held + ((List.range 8).flatMap fun j => ((s.captures ⟨k, hk⟩ j).filter fun (l, _, inj) =>
        s.laneTapped ⟨k, hk⟩ j l inj).map fun (l, row, inj) =>
      let c := s.captOf ⟨k, hk⟩ l row inj ((((s.codeFor k j).map Prod.snd).getD []).getD 7 0) []
      capSize ((if tap then 4 else 2) * (laneItems c tap code).length)).sum
  else 0

/-- DST_ALLOWANCE at a tick start: each stream's factor is the least with which the tick's items would fit its allowance;
it does not fall while a record is open (R394). -/
def State.dstAllowance (s : State) : State :=
  State.each ((List.finRange 4).filter fun k => s.strmOn k) (fun k s =>
    let x := s.strm k
    let a := s.allowance k
    let need (c : Nat) : Nat := if k = 0 then s.plannedBytes c else
      ((x.sizesPrev.filter fun e => e.1 % 2 ^ c == 0).map Prod.snd).sum
    let c := ((List.range 8).find? fun c => decide (need c ≤ a)).getD 7
    let c := if s.strmOpen k then max c (s.rd (DST.SSTAT_DECIM k.val)) else c
    s.wr (DST.SSTAT_DECIM k.val) c) s

/-- The end of a tick: held samples and edges are tapped, what the tick shows is decided, and the triggers are resolved. -/
def State.dstTickEnd (s : State) : State :=
  let s := ((s.tapEnded 8).heldSwitch.tapHeld.heldEnd.tapEdges).watchTick.resolve
  State.each (List.finRange 4) (fun k s =>
    s.putStrm k { s.strm k with used := 0, sizesPrev := (s.strm k).sizes, sizes := [] }) s

/-- The start of a tick: an ARM.GO that waited for it, and the factors. -/
def State.dstTickStart (s : State) : State :=
  let s := if s.dst.armAt.any fun n => decide (n ≤ s.now) then s.arm else s
  s.dstAllowance

/-- A stream's ring taken anew: `WR[s]` restarts at 0 and a record in progress on it ends (R393, R395). -/
def State.restartStream (s : State) (k : Fin 4) (flag : Nat) : State :=
  let s := s.endStream k flag
  s.putStrm k { s.strm k with wr := 0, items := 0, recs := [] }

/-- What a commit of DST that has taken hold changes beside its fields (R393, R405). -/
def State.dstCommitted (s0 s : State) : State :=
  let s := State.each ((List.finRange 4).filter fun k => s0.rd (DST.RING_OFS_MIB k.val) != s.rd (DST.RING_OFS_MIB k.val) ||
      s0.rd (DST.RING_SIZE_MIB k.val) != s.rd (DST.RING_SIZE_MIB k.val)) (fun k s => s.restartStream k 5) s
  if s0.rd DST.DESC_CFG_COUNT ≠ s.rd DST.DESC_CFG_COUNT then (s.wr DST.DESC_WR_IDX 0).wr DST.DESC_RD_IDX 0 else s

/-- At a frame boundary after a channel has failed: the rings map over the good channels, the indices restart, and open
records end with MEMFAIL (R395). -/
def State.dstMemFail (s : State) : State :=
  let open_ := s.dst.opn.isSome
  let s := State.each (List.finRange 4) (fun k s => s.restartStream k 4) s
  let s := (s.wr DST.DESC_WR_IDX 0).wr DST.DESC_RD_IDX 0
  if open_ then s.irq .dst 4 else s

/-- A BLOCK reset of DST: it disarms, open records end, and the indices, rings and descriptors stay; no stream is stopped any more
(R405). -/
def State.dstBlockReset (s : State) : State :=
  let s := s.disarm
  let isOpen := s.rd DST.DSTAT_OPEN
  let s := (s.resetPage .block .dst).wr DST.DSTAT_OPEN isOpen
  State.each (List.finRange 4) (fun k s => s.putStrm k { s.strm k with stopped := false }) s

/-- The broken rules of a commit of DST (R393, R394, R405, R406). -/
def dstCheck (s : State) : List (Nat × Nat) :=
  let sh (f : Fld) : Nat := s.rdSh f
  let streams := List.range 4
  let on (k : Nat) : Bool := sh (DST.SCFG_EN k) == 1
  let areas : List (Nat × Nat × Nat) := (0, divUp (sh DST.DESC_CFG_COUNT * 128) 1, DST.DESC_CFG_COUNT.word) ::
    streams.map fun k => (sh (DST.RING_OFS_MIB k) * 2 ^ 20, sh (DST.RING_SIZE_MIB k) * 2 ^ 20, (DST.RING_OFS_MIB k).word)
  let region := s.rd (LTH.REG_SIZE_MIB 3) * 2 ^ 20
  let clash := areas.zipIdx.any fun (a, i) => areas.zipIdx.any fun (b, j) =>
    decide (i < j) && decide (0 < a.2.1) && decide (0 < b.2.1) && decide (a.1 < b.1 + b.2.1) && decide (b.1 < a.1 + a.2.1)
  (streams.flatMap fun k =>
    (if on k && sh (DST.RING_SIZE_MIB k) == 0 then [(CFG_ZERO, (DST.RING_SIZE_MIB k).word)] else []) ++
    (if on k && sh (DST.SCFG_SHARE k) == 0 then [(CFG_ZERO, (DST.SCFG_SHARE k).word)] else []) ++
    (if 16 < sh (DST.SCFG_SHARE k) then [(CFG_RANGE, (DST.SCFG_SHARE k).word)] else []) ++
    (if 32768 < sh (DST.RING_SIZE_MIB k) then [(CFG_RANGE, (DST.RING_SIZE_MIB k).word)] else [])) ++
  (if sh DST.DESC_CFG_COUNT = 0 ∧ s.rd DST.DESC_CFG_COUNT ≠ 0 then [(CFG_ZERO, DST.DESC_CFG_COUNT.word)] else []) ++
  (if sh DST.CLS_TRIG_MIN = 0 then [(CFG_ZERO, DST.CLS_TRIG_MIN.word)] else []) ++
  (if sh DST.CLS_TRIG_MTHR = 0 then [(CFG_ZERO, DST.CLS_TRIG_MTHR.word)] else []) ++
  (if 4 < sh DST.MEAS_TRIG_QTY then [(CFG_RANGE, DST.MEAS_TRIG_QTY.word)] else []) ++
  (if sh DST.CLS_TRIG_CLASS = 0 ∨ 8 < sh DST.CLS_TRIG_CLASS ∨ 4 < sh DST.CLS_TRIG_MIN then [(CFG_RANGE, DST.CLS_TRIG_CLASS.word)] else []) ++
  (if sh DST.RGATE_HI_RANGE < sh DST.RGATE_LO_RANGE then [(CFG_RANGE, DST.RGATE_HI_RANGE.word)] else []) ++
  ([1, 2].flatMap fun k => if sh (DST.SEL_ROW_HI k) < sh (DST.SEL_ROW_LO k) then [(CFG_RANGE, (DST.SEL_ROW_HI k).word)] else []) ++
  (if 16 < ((streams.filter on).map fun k => sh (DST.SCFG_SHARE k)).sum then [(CFG_RANGE, (DST.SCFG_SHARE 0).word)] else []) ++
  (if clash ∨ areas.any (fun a => decide (0 < a.2.1) && decide (region < a.1 + a.2.1)) then [(CFG_RANGE, (DST.RING_OFS_MIB 0).word)] else []) ++
  (if sh (DST.SCFG_HELD 0) = 1 ∧ ¬ s.on (WFL.HOLD_EN (sh (DST.SCFG_HEAD 0))) then [(CFG_RANGE, (DST.SCFG_HELD 0).word)] else []) ++
  (if sh DST.DESC_CFG_COUNT ≠ s.rd DST.DESC_CFG_COUNT ∧ s.on DST.DSTAT_OPEN then [(CFG_BUSY, DST.DESC_CFG_COUNT.word)] else [])

end Sys2Proof.Machine
end

