-- ==== Sys2Proof/Machine/Render.lean ====
section
/-! DEFINITION. Render (R407 to R421): the DisplayPort link and AUX, genlock, the refresh latch, the planes and their blending, fetch, and freeze detection. -/

namespace Sys2Proof.Machine

/-! ## The mode (R409) -/

/-- Pixel clocks of a display line. -/
def State.hTotal (s : State) : Nat := s.rd RND.HTIM0_HACT + s.rd RND.HTIM0_HFP + s.rd RND.HTIM1_HSW + s.rd RND.HTIM1_HBP

/-- Display lines of a refresh. -/
def State.vTotal (s : State) : Nat := s.rd RND.VTIM0_VACT + s.rd RND.VTIM0_VFP + s.rd RND.VTIM1_VSW + s.rd RND.VTIM1_VBP

/-- The nominal refresh period in ns. -/
def State.refreshNs (s : State) : Nat := s.hTotal * s.vTotal * 1000000 / max 1 (s.rd RND.PCLK_KHZ)

/-! ## Link (R408) -/

/-- The payload of a link setting, in kb/s: lanes times rate times 0.8 (R408). -/
def linkPayload (rate lanes : Nat) : Nat := lanes * [1620000, 2700000, 5400000].getD rate 0 * 8 / 10

/-- The settings tried, in order: from the lower of the sink's and the committed limits down, those that carry the mode
(R408). -/
def State.linkTries (s : State) (sinkRate sinkLanes : Nat) : List (Nat × Nat) :=
  let r := min (s.rd RND.LINK_CFG_MAX_RATE) sinkRate
  let l := min (s.rd RND.LINK_CFG_MAX_LANES) sinkLanes
  ((List.range (r + 1)).reverse.flatMap fun rate => ([4, 2, 1].filter fun n => decide (n ≤ l)).map fun n => (rate, n)).filter
    fun x => decide (24 * s.rd RND.PCLK_KHZ ≤ linkPayload x.1 x.2)

/-- Bring-up or training begun, or no sink shown (R408). -/
def State.linkStart (s : State) : State :=
  if !s.on RND.OUT_EN then s
  else if s.on RND.LINK_STAT_HPD then s.wr RND.LINK_STAT_STATE 1
  else s.wr RND.LINK_STAT_STATE 4

/-- The link taken down. -/
def State.linkStop (s : State) (state : Nat) : State :=
  (((s.wr RND.LINK_STAT_STATE state).wr RND.LINK_STAT_RATE 0).wr RND.LINK_STAT_LANES 0).wr CLK.PHY_LOCK_DP 0

/-- Whether the link trains. -/
def State.training (s : State) : Bool := s.rd RND.LINK_STAT_STATE == 1

/-- The transaction that AUX_CMD describes sent to the sink. -/
def State.auxSend (s : State) : State :=
  let op := s.rd RND.AUX_CMD_OP
  let n := s.rd RND.AUX_CMD_LEN + 1
  let bytes := if op % 2 = 1 then ((List.range 4).flatMap fun k => leBytes 4 (s.rd (RND.AUX_DATA_DATA k))).take n else []
  { s.send (.aux op (s.rd RND.AUX_CMD_ADDR) n bytes) with rnd.auxWait := false }

/-- DP_TRAINING_END: training ends at the first setting tried that is among those that train, or in FAIL; a command of AUX
that waited goes out (R408). -/
def dpTrainingEnd (sinkRate : Fin 3) (sinkLanes : Nat) (ok : List (Nat × Nat)) (s : State) : State :=
  if !s.training then s else
  let s : State := match (s.linkTries sinkRate.val sinkLanes).find? fun x => ok.contains x with
    | some (r, l) => (((s.wr RND.LINK_STAT_STATE 2).wr RND.LINK_STAT_RATE r).wr RND.LINK_STAT_LANES l).wr CLK.PHY_LOCK_DP 1
    | none => { s.linkStop 3 with rnd.failAt := some s.now }.irq .rnd 0
  if s.rnd.auxWait then s.auxSend else s

/-- DP_TRAINING_END (R408). -/
def execDpTrainingEnd (sinkRate : Fin 3) (sinkLanes : Nat) (ok : List (Nat × Nat)) (s : State) :
    Host.Outcome State Fault Refusal := live s (dpTrainingEnd sinkRate sinkLanes ok s)

/-- LINK_TRAIN_RETRY: after a failed training, 1 s later and every 1 s while EN is 1 (R408). -/
def linkTrainRetry (s : State) : State :=
  if s.rd RND.LINK_STAT_STATE = 3 ∧ s.rnd.failAt.any (fun t => decide (t + 10000 ≤ s.now)) then s.linkStart else s

/-- LINK_TRAIN_RETRY (R408). -/
def execLinkTrainRetry (s : State) : Host.Outcome State Fault Refusal := live s (linkTrainRetry s)

/-- IRQ_HPD: the sink's link status is read, and the link trains again when it has lost lock (R408). -/
def irqHpd (lost : Bool) (s : State) : State :=
  let s := s.irq .rnd 1
  if lost ∧ s.rd RND.LINK_STAT_STATE = 2 then s.linkStart else s

/-- IRQ_HPD (R408). -/
def execIrqHpd (lost : Bool) (s : State) : Host.Outcome State Fault Refusal := live s (irqHpd lost s)

/-- HPD_LOSS: DP_HPD low for 2 ms takes the link down (R408). -/
def hpdLoss (s : State) : State :=
  let s := (s.wr RND.LINK_STAT_HPD 0).irq .rnd 1
  if s.on RND.OUT_EN then (let s := s.linkStop 4; if s.rnd.auxWait then s.auxSend else s) else s

/-- HPD_LOSS (R408). -/
def execHpdLoss (s : State) : Host.Outcome State Fault Refusal := live s (hpdLoss s)

/-- HPD_RETURN: bring-up restarts (R408). -/
def hpdReturn (s : State) : State :=
  if s.on RND.LINK_STAT_HPD then s else ((s.wr RND.LINK_STAT_HPD 1).irq .rnd 1).linkStart

/-- HPD_RETURN (R408). -/
def execHpdReturn (s : State) : Host.Outcome State Fault Refusal := live s (hpdReturn s)

/-! ## AUX (R407, R408) -/

/-- A write of AUX_CMD with GO: the transaction starts, or waits for a training to end; a second one is refused while one
runs (R408; log entry 80). -/
def auxGo (op addr len : Nat) (s : State) : State :=
  let s := ((s.wr RND.AUX_CMD_ADDR addr).wr RND.AUX_CMD_LEN len).wr RND.AUX_CMD_OP op
  if s.on RND.AUX_CMD_BUSY then s.errCode .rnd CFG_BUSY RND.AUX_CMD_GO.word
  else
    let s := s.wr RND.AUX_CMD_BUSY 1
    if s.training then { s with rnd.auxWait := true } else s.auxSend

/-- AUX_NATIVE_READ (R408). -/
def execAuxNativeRead (addr : BitVec 20) (len : Fin 16) (s : State) : Host.Outcome State Fault Refusal :=
  onPage .rnd s (auxGo 0 addr.toNat len.val s)

/-- AUX_NATIVE_WRITE (R408). -/
def execAuxNativeWrite (addr : BitVec 20) (len : Fin 16) (s : State) : Host.Outcome State Fault Refusal :=
  onPage .rnd s (auxGo 1 addr.toNat len.val s)

/-- AUX_I2C_READ (R408). -/
def execAuxI2cRead (addr : BitVec 20) (len : Fin 16) (s : State) : Host.Outcome State Fault Refusal :=
  onPage .rnd s (auxGo 2 addr.toNat len.val s)

/-- AUX_I2C_WRITE (R408). -/
def execAuxI2cWrite (addr : BitVec 20) (len : Fin 16) (s : State) : Host.Outcome State Fault Refusal :=
  onPage .rnd s (auxGo 3 addr.toNat len.val s)

/-- AUX_COMPLETE: the transaction ends with ACK 0, NAK 1, DEFER 2 or TIMEOUT 3, and a read that was acknowledged leaves its
bytes in AUX_DATA (R408). -/
def auxComplete (code : Fin 4) (b : List Byte) (s : State) : State :=
  if !s.on RND.AUX_CMD_BUSY || s.rnd.auxWait then s else
  let n := s.rd RND.AUX_CMD_LEN + 1
  let old := (List.range 4).flatMap fun k => leBytes 4 (s.rd (RND.AUX_DATA_DATA k))
  let new := overlay old 0 (subBytes b 0 n)
  let s := if code = 0 ∧ s.rd RND.AUX_CMD_OP % 2 = 0 then
      State.each (List.range 4) (fun k s => s.wr (RND.AUX_DATA_DATA k) (u32 new (4 * k))) s
    else s
  ((s.wr RND.AUX_CMD_CODE code.val).wr RND.AUX_CMD_BUSY 0).irq .rnd 5

/-- AUX_COMPLETE (R408). -/
def execAuxComplete (code : Fin 4) (b : List Byte) (s : State) : Host.Outcome State Fault Refusal := live s (auxComplete code b s)

/-! ## Genlock (R410) -/

/-- The return to free-run (R410). -/
def State.freeRun (s : State) : State :=
  if !s.rnd.glRun then s else
  let s := { s with rnd.glRun := false, rnd.glEdge := none, rnd.glGood := 0, rnd.glBad := 0 }
  ((s.wr RND.GL_STAT_LOCKED 0).satInc RND.GL_STAT_LOST).irq .rnd 4

/-- The instant `ns` into the tick in progress, in ns since the tick generator started. -/
def State.nsAt (s : State) (ns : Nat) : Nat := s.now * 100000 + ns

/-- Genlock lost because no edge was accepted for 3 nominal periods (R410). -/
def State.genlockTimeout (s : State) (ns : Nat) : State :=
  if s.rnd.glEdge.any fun t => decide (t + 3 * s.refreshNs ≤ s.nsAt ns) then s.freeRun else s

/-- VSYNC_IN_EDGE: an edge `ns` into the tick is accepted or rejected; `within` tells whether the refresh's sync start lay
within a display line of its target (R410). -/
def vsyncInEdge (falling within : Bool) (ns : Nat) (s : State) : State :=
  if !s.on RND.OUT_EN || !s.on RND.GL_CFG_EN || falling != s.on RND.GL_CFG_FALL then s else
  let s := s.genlockTimeout ns
  let p := s.refreshNs
  let t := s.nsAt ns
  let good := s.rnd.glEdge.all fun e => decide (((t : Int) - e - p).natAbs * 200 ≤ p)
  if good then
    let n := if within ∧ s.rnd.glRun then s.rnd.glGood + 1 else 0
    let s := { s with rnd.glEdge := some t, rnd.glRun := true, rnd.glBad := 0, rnd.glGood := n }
    if 8 ≤ n then s.wr RND.GL_STAT_LOCKED 1 else s
  else
    let n := s.rnd.glBad + 1
    let s := { s with rnd.glBad := n }
    if 3 ≤ n then s.freeRun else s

/-- VSYNC_IN_EDGE (R410). -/
def execVsyncInEdge (falling within : Bool) (ns : Fin 100000) (s : State) : Host.Outcome State Fault Refusal :=
  live s (vsyncInEdge falling within ns.val s)

/-! ## Planes (R412 to R415) -/

/-- A palette entry: RGBA with R in the lowest byte (R420). -/
def State.palette (s : State) (overlay : Bool) (i : Nat) : Nat :=
  let d := if overlay then 0 else if i = 255 then 0xFF00FF else i * 0x010101
  Sparse.get s.rnd.pal (i + 256 * b2n overlay) d

/-- The width and height that a range window shows (R412). -/
def State.winSize (s : State) (w : Nat) : Nat × Nat :=
  (1024 * (s.rd (RND.RWIN_CFG_SX w) + 1), 128 * 2 ^ s.rd (RND.RWIN_CFG_SY w))

/-- The flips that the fetches of a plane have met in this refresh. -/
def State.flipsOf (s : State) (plane : Nat) : List Flip := (s.rnd.flips.filter fun x => x.1 == plane).map Prod.snd

/-- The bytes of a fetch of a plane, and whether it fails: a fetch outside the RENDER region gives zeros, and one with a burst that
fails its check, or in a failed channel, fails (R231, R234, R236, R417). -/
def State.fetch (s : State) (plane a len : Nat) : List Byte × Bool :=
  if !s.inRegion 2 a len then (zeros len, false) else
  let flips := s.flipsOf plane
  let first := a / 64
  (((s.asRead flips).ldN a len), (s.firstBad flips (64 * first) ((a + len - 1) / 64 + 1 - first)).isSome)

/-- The row and column of its head's image that a window shows at a pixel, none outside the window (R412). -/
def State.winCell (s : State) (w x y : Nat) : Option (Nat × Nat) :=
  let x0 := s.rd (RND.RWIN_POS_X w)
  let y0 := s.rd (RND.RWIN_POS_Y w)
  let (ww, wh) := s.winSize w
  if s.on (RND.RWIN_CFG_EN w) ∧ x0 ≤ x ∧ x < x0 + ww ∧ y0 ≤ y ∧ y < y0 + wh then
    let col := (x - x0) / (s.rd (RND.RWIN_CFG_SX w) + 1)
    some ((y - y0) / 2 ^ s.rd (RND.RWIN_CFG_SY w), if s.on (RND.RWIN_CFG_FLIPX w) then 1023 - col else col)
  else none

/-- The window on top at a pixel, with its image's row and column. -/
def State.topWin (s : State) (x y : Nat) : Option (Nat × Nat × Nat) :=
  (List.range 8).findSome? fun w => (s.winCell w x y).map fun c => (w, c.1, c.2)

/-- The coat buffer that a window shows: the one READY named at the latch, or for a head that the image in force leaves out
the one of its last image (R412). -/
def State.winCoat (s : State) (w : Nat) : Nat := Sparse.get s.rnd.coats (s.rd (RND.RWIN_CFG_HEAD w)) 0

/-- The device address of the tile of a window's image at a row and column: 32 columns by 8 rows of one byte each (R166, R412). -/
def State.tileAddr (s : State) (w row col : Nat) : Nat :=
  s.pixelAddr (s.rd (RND.RWIN_CFG_HEAD w)) (row / 8 * 8) (col / 32 * 32) (s.winCoat w)

/-- The palette entry of a window at a row and column of its image (R412, R417). -/
def State.winPixel (s : State) (w row col : Nat) : Nat :=
  let t := s.fetch w (s.tileAddr w row col) 256
  let a := s.pixelAddr (s.rd (RND.RWIN_CFG_HEAD w)) row col (s.winCoat w)
  s.palette false (if t.2 then 255 else (t.1.getD (a - s.tileAddr w row col) 0).toNat)

/-- Bytes of an overlay pixel (R413). -/
def State.ovBytes (s : State) : Nat := [1, 2, 4, 4].getD (s.rd RND.OV_CFG_FMT) 4

/-- Pixel values of a packed tile (R414). -/
def unpack : Nat → Nat → List Byte → List Nat
  | 0, _, _ => []
  | _, _, [] => []
  | n + 1, k, c :: t =>
    if c.toNat < 0x80 then
      if t.length < k then [] else List.replicate (c.toNat + 1) (leNat (t.take k)) ++ unpack n k (t.drop k)
    else
      let m := min (c.toNat - 0x7F) (t.length / max 1 k)
      (List.range m).map (fun i => leNat ((t.drop (k * i)).take k)) ++ unpack n k (t.drop (k * m))

/-- The tile number of a tile of the surface. -/
def State.tileNo (s : State) (ty tx : Nat) : Nat := ty * (s.rd RND.HTIM0_HACT / 32) + tx

/-- The pixel values of an overlay tile, none where it is shown transparent, with 0 for a good tile, 1 for one that failed
its fetch (R417) and 2 for one whose header or packing is wrong (R414). A raw tile fetched in part ends in free bytes (log entry 81). -/
def State.ovTile (s : State) (ty tx : Nat) : Option (List Nat) × Nat :=
  let k := s.ovBytes
  let size := 256 * k
  let a := s.rd RND.OV_BASE_ADDR * 4096 + s.tileNo ty tx * size
  let values (b : List Byte) : List Nat := (List.range 256).map fun i => leNat ((b.drop (k * i)).take k)
  if s.on RND.OV_CFG_PACK then
    let ha := s.rd RND.OV_HDR_ADDR * 4096 + 8 * s.tileNo ty tx
    let hf := s.fetch 9 ha 8
    if hf.2 then (none, 1) else
    let h := hf.1
    let nb := u8 h 0 % 32
    let mode := u8 h 0 / 32 % 4
    if mode = 1 then (some (List.replicate 256 (leNat ((h.drop 4).take k))), 0)
    else if mode = 3 ∨ nb = 0 ∨ size / 64 < nb then (none, 2)
    else
      let f := s.fetch 8 a (64 * nb)
      if f.2 then (none, 1)
      else if mode = 0 then (some (values (f.1 ++ s.freeBytes (size - 64 * nb))), 0)
      else
        let v := unpack (64 * nb) k f.1
        if v.length < 256 then (none, 2) else (some (v.take 256), 0)
  else
    let f := s.fetch 8 a size
    if f.2 then (none, 1) else (some (values f.1), 0)

/-- An overlay pixel value as RGBA with R in the lowest byte (R413). -/
def State.ovColour (s : State) (v : Nat) : Nat :=
  match s.rd RND.OV_CFG_FMT with
  | 0 => s.palette true (v % 256)
  | 1 =>
    let r5 := v / 2048 % 32
    let g6 := v / 32 % 64
    let b5 := v % 32
    let a := if s.on RND.OV_CFG_KEY_EN ∧ v % 65536 = s.rd RND.OV_CFG_KEY then 0 else s.rd RND.OV_CFG_GALPHA
    (r5 * 8 + r5 / 4) + (g6 * 4 + g6 / 16) * 2 ^ 8 + (b5 * 8 + b5 / 4) * 2 ^ 16 + a * 2 ^ 24
  | _ => v % 2 ^ 32

/-- An output colour: overlay over the plane beneath (R415). -/
def blend (o a u : Nat) : Nat := (2 * (a * o + (255 - a) * u) + 255) / 510

/-- A blended pixel: overlay RGBA over RGB, R in the lowest byte (R415). -/
def blendRgb (ov under : Nat) : Nat :=
  let a := ov / 2 ^ 24 % 256
  let c (i : Nat) : Nat := blend (ov / 256 ^ i % 256) a (under / 256 ^ i % 256)
  c 0 + c 1 * 256 + c 2 * 65536

/-- Background as a pixel with R in the lowest byte: BG is 0xRRGGBB (log entry 82). -/
def State.background (s : State) : Nat :=
  let v := s.rd RND.BG_RGB
  v / 65536 + v / 256 % 256 * 256 + v % 256 * 65536

/-! ## Fetch (R416, R417) -/

/-- Whether a display line of the refresh lacked a tile (R416). -/
def State.lacks (s : State) (y plane ty tx : Nat) : Bool := s.rnd.late.contains (y, plane, ty, tx)

/-- The pixels of an active display line; tiles that have not arrived show as transparent or as BG (R415, R416). -/
def State.scanLine (s : State) (y : Nat) : List Nat :=
  let hact := s.rd RND.HTIM0_HACT
  let tiles : List (Option (List Nat)) := if !s.on RND.OV_CFG_EN then [] else
    (List.range (hact / 32)).map fun tx => if s.lacks y 8 (y / 8) tx then none else (s.ovTile (y / 8) tx).1
  (List.range hact).map fun x =>
    let under := match s.topWin x y with
      | some (w, row, col) => if s.lacks y w (row / 8) (col / 32) then s.background else s.winPixel w row col % 2 ^ 24
      | none => s.background
    match (tiles.getD (x / 32) none) with
    | some v => blendRgb (s.ovColour (v.getD (x % 32 * 8 + y % 8) 0)) under
    | none => under

/-- The tiles of a window's image that a row of tiles shows: those that are not clipped (R412). -/
def State.winTiles (s : State) (w : Nat) : List Nat :=
  (List.range 32).filter fun tx =>
    let at_ := if s.on (RND.RWIN_CFG_FLIPX w) then 31 - tx else tx
    decide (s.rd (RND.RWIN_POS_X w) + 32 * at_ * (s.rd (RND.RWIN_CFG_SX w) + 1) < s.rd RND.HTIM0_HACT)

/-- Whether a display line needs a tile of a plane (R416). -/
def State.lineNeeds (s : State) (y plane ty tx : Nat) : Bool :=
  if plane = 8 then s.on RND.OV_CFG_EN && ty == y / 8 && decide (tx < s.rd RND.HTIM0_HACT / 32)
  else
    let y0 := s.rd (RND.RWIN_POS_Y plane)
    let row := (y - y0) / 2 ^ s.rd (RND.RWIN_CFG_SY plane)
    decide (plane < 8) && s.on (RND.RWIN_CFG_EN plane) && decide (y0 ≤ y) && decide (row < 128) && ty == row / 8 &&
      (s.winTiles plane).contains tx

/-- Tiles of a tile row that begin at a display line and are shown with an error: those whose header or packing is wrong
(R414), and those of either plane that failed their fetch (R417). -/
def State.lineErrors (s : State) (y : Nat) : Nat × Nat :=
  let kinds := if s.on RND.OV_CFG_EN ∧ y % 8 = 0 then
      (List.range (s.rd RND.HTIM0_HACT / 32)).map fun tx => (s.ovTile (y / 8) tx).2 else []
  let win := ((List.range 8).flatMap fun w =>
    let y0 := s.rd (RND.RWIN_POS_Y w)
    let sy := 2 ^ s.rd (RND.RWIN_CFG_SY w)
    if s.on (RND.RWIN_CFG_EN w) ∧ y0 ≤ y ∧ (y - y0) % (8 * sy) = 0 ∧ (y - y0) / sy < 128 then
      (s.winTiles w).filter fun tx => (s.fetch w (s.tileAddr w ((y - y0) / sy) (32 * tx)) 256).2
    else []).length
  (kinds.count 2, kinds.count 1 + win)

/-- The fetches of the tile rows that begin at a display line: plane, address, and length; of an overlay tile the header, and what the
header says is fetched (R413, R414, R416). -/
def State.lineFetches (s : State) (y : Nat) : List (Nat × Nat × Nat) :=
  let ov := if s.on RND.OV_CFG_EN ∧ y % 8 = 0 then
      (List.range (s.rd RND.HTIM0_HACT / 32)).flatMap fun tx =>
        let size := 256 * s.ovBytes
        let a := s.rd RND.OV_BASE_ADDR * 4096 + s.tileNo (y / 8) tx * size
        if s.on RND.OV_CFG_PACK then
          let ha := s.rd RND.OV_HDR_ADDR * 4096 + 8 * s.tileNo (y / 8) tx
          let h := s.fetch 9 ha 8
          let nb := u8 h.1 0 % 32
          let mode := u8 h.1 0 / 32 % 4
          (9, ha, 8) :: if h.2 || mode == 1 || mode == 3 || nb == 0 || decide (size / 64 < nb) then [] else [(8, a, 64 * nb)]
        else [(8, a, size)]
    else []
  ov ++ (List.range 8).flatMap fun w =>
    let y0 := s.rd (RND.RWIN_POS_Y w)
    let sy := 2 ^ s.rd (RND.RWIN_CFG_SY w)
    if s.on (RND.RWIN_CFG_EN w) ∧ y0 ≤ y ∧ (y - y0) % (8 * sy) = 0 ∧ (y - y0) / sy < 128 then
      (s.winTiles w).map fun tx => (w, s.tileAddr w ((y - y0) / sy) (32 * tx), 256)
    else []

/-- A fetch made: outside the RENDER region it counts as a violation; in it, the bursts that fail enter their channels' counts (R234,
R238). -/
def State.makeFetch (s : State) (x : Nat × Nat × Nat) : State :=
  let (plane, a, len) := x
  if !s.inRegion 2 a len then s.violation a 13 else
  let p := a / 64 * 64
  let flips := s.flipsOf plane
  if flips = [] ∧ s.rd LTH.MEM_SIZE_FAILED = 0 then s else s.countBursts p (s.readBursts flips p ((a + len - 1) / 64 + 1 - a / 64))

/-- DISPLAY_LINE_START: a display line starts; below the watermark Render takes unused bursts, which nothing of the state
shows; an active line is scanned out, and tiles it lacks or that failed are counted (R414 to R417). -/
def displayLineStart (line : Nat) (f : LineFetch) (s : State) : State :=
  if !s.on RND.OUT_EN || s.rd RND.VTIM0_VACT ≤ line then s else
  let new := s.lineFetches line
  let mine := f.flips.filter fun x => new.any fun n => n.1 == x.1 && decide (n.2.1 / 64 ≤ x.2.burst) && decide (64 * x.2.burst < n.2.1 + n.2.2)
  let late := f.late.filter fun (p, ty, tx) => s.lineNeeds line p ty tx
  let s := { s with rnd.flips := s.rnd.flips ++ mine, rnd.late := s.rnd.late ++ late.map fun x => (line, x) }
  let s := State.each (s.lineFetches line) (fun x s => s.makeFetch x) s
  let (packed, failed) := s.lineErrors line
  let s := s.satAdd RND.STAT_TILE_ERR (packed + failed)
  let s := if packed = 0 then s else s.irq .rnd 6
  let s := if late = [] then s else (s.satInc RND.STAT_UNDERRUN).irq .rnd 2
  if s.rd RND.LINK_STAT_STATE = 2 then s.send (.displayLine line (s.scanLine line)) else s

/-- DISPLAY_LINE_START (R416). -/
def execDisplayLineStart (line : Nat) (f : LineFetch) (s : State) : Host.Outcome State Fault Refusal :=
  live s ((displayLineStart line f s).channelsOver s.memErrs)

/-! ## The refresh latch and freeze detection (R411, R412, R418) -/

/-- The pixels of a region in scan order, as RGBA before blending; of a range window's pixel A is the palette entry's, and 0 where the
tile has not arrived (R418; DESIGN CHOICE, log entry 168). -/
def State.regionPixels (s : State) (r : Nat) : List Nat :=
  let hact := s.rd RND.HTIM0_HACT
  (List.range (s.rd RND.VTIM0_VACT)).flatMap fun y =>
    if r = 8 then
      if !s.on RND.OV_CFG_EN then [] else
      (List.range (hact / 32)).flatMap fun tx =>
        match (if s.lacks y 8 (y / 8) tx then none else (s.ovTile (y / 8) tx).1) with
        | some v => (List.range 32).map fun x => s.ovColour (v.getD (x * 8 + y % 8) 0)
        | none => List.replicate 32 0
    else
      (List.range hact).filterMap fun x => match s.topWin x y with
        | some (w, row, col) =>
          if w ≠ r then none else some (if s.lacks y w (row / 8) (col / 32) then s.background else s.winPixel w row col)
        | none => none

/-- The signatures of the refresh that ends, of every enabled region with visible pixels, each with its source counter. -/
def State.signatures (s : State) : List (Fin 9 × Nat × Nat) :=
  if !s.on RND.OUT_EN then [] else
  ((List.finRange 9).filter fun r => hasBit (s.rd RND.FRZ_CFG_REGIONS) r.val).filterMap fun r =>
    match s.regionPixels r.val with
    | [] => none
    | px => some (r, if r.val = 8 then s.rnd.ovSeq else s.rnd.imgSeq, crc32c (px.flatMap (leBytes 4)))

/-- FREEZE shown, with its interrupt on a change (R418). -/
def State.showFreeze (s : State) (stall : Bool) : State :=
  let n := s.rd RND.FRZ_CFG_N
  let regs := s.rnd.counts.foldl (fun m e => if n ≤ e.2 then setBit m e.1 else m) 0
  let was := s.on RND.FRZ_STAT_FREEZE
  let is := regs != 0 || stall
  let s := ((s.wr RND.FRZ_STAT_REGIONS regs).wrB RND.FRZ_STAT_STALL stall).wrB RND.FRZ_STAT_FREEZE is
  if was != is then s.irq .rnd 3 else s

/-- The palette entries and fields of a commit applied at the latch are put in force by the register fabric; here the
latch takes the signatures of the refresh just shown, and the buffer and the counters of the next (R412, R418). -/
def State.latchImage (s : State) : State :=
  { s with rnd.coats := s.ptb.imgCoat, rnd.imgSeq := s.rd PTB.IMG_SEQ_SEQ, rnd.ovSeq := s.rd RND.OV_SEQ_SEQ
           rnd.flips := [], rnd.late := [] }

/-- The signatures taken of what has been shown, before a commit takes hold. -/
def State.latchSigs (s : State) : State :=
  let l := s.signatures
  { s with rnd.sigs := l }

/-- The count of a region at the end of a refresh (R418). -/
def freezeCount (old : Nat) (prev : Option (Nat × Nat)) (src sig : Nat) : Nat :=
  match prev with
  | none => 0
  | some (psrc, psig) => if psrc = src then old else if psig = sig then old + 1 else 0

/-- REFRESH_END: signatures and counts at the end of a refresh (R418). -/
def refreshEnd (s : State) : State :=
  if !s.on RND.OUT_EN then s else
  let s := s.genlockTimeout 0
  let sigs := s.rnd.sigs
  let s := State.each sigs (fun (r, _, c) s => s.wr (RND.SIG_CRC r.val) c) s
  let counts := sigs.map fun (r, src, c) =>
    (r.val, freezeCount (Sparse.get s.rnd.counts r.val 0) ((s.rnd.prev.find? fun e => e.1 == r).map Prod.snd) src c)
  let s := { s with rnd.prev := sigs, rnd.counts := counts, rnd.sigs := [], rnd.lastEnd := some s.now }
  (s.wrapInc RND.REFRESH_COUNT).showFreeze false

/-- REFRESH_END (R418). -/
def execRefreshEnd (s : State) : Host.Outcome State Fault Refusal := live s (refreshEnd s)

/-- FREEZE_STALL: no refresh completed for 4 nominal periods since the first (R418). -/
def freezeStall (s : State) : State :=
  if s.on RND.OUT_EN ∧ s.rnd.lastEnd.any (fun t => decide (t * 100000 + 4 * s.refreshNs ≤ s.nsAt 0)) then s.showFreeze true else s

/-- FREEZE_STALL (R418). -/
def execFreezeStall (s : State) : Host.Outcome State Fault Refusal := live s (freezeStall s)

/-- What a commit of RND that has taken hold does beside its fields: EN set starts bring-up, EN cleared takes the link
down, and with genlock off Render runs free (R408 to R410). The pixel clock locks with SYN5. -/
def State.rndCommitted (s0 s : State) : State :=
  let s := if s.on RND.OUT_EN && s.on RND.GL_CFG_EN then s else
    { s.wr RND.GL_STAT_LOCKED 0 with rnd.glRun := false, rnd.glEdge := none, rnd.glGood := 0, rnd.glBad := 0 }
  let was := s0.on RND.OUT_EN
  let is := s.on RND.OUT_EN
  if is && !was then
    let s := (s.wr (CLK.SYN_STAT_SLOT 5) (s.rd RND.PCLK_SLOT)).wr (CLK.SYN_STAT_LOCK 5) 1
    { s with rnd.lastEnd := none, rnd.prev := [], rnd.counts := [] }.linkStart.showFreeze false
  else if was && !is then { s.linkStop 0 with rnd.failAt := none, rnd.lastEnd := none }.showFreeze false
  else s.showFreeze (s.on RND.FRZ_STAT_STALL)

/-- Render off: EN 0 and the link down, its configuration at reset (R419). -/
def State.rndReset (s : State) (k : ResetKind) : State :=
  let hpd := s.rd RND.LINK_STAT_HPD
  let s := (s.resetPage k .rnd).linkStop 0
  { s.wr RND.LINK_STAT_HPD hpd with rnd := {} }

/-- The fields that take hold at the latch (R411, R420). -/
def refreshFields : List Fld := (Page.rnd).fields.filter fun f => f.bnd == Bnd.refresh

/-- The broken rules of a commit of RND under COMMIT_AT `at_` (R409, R411, R421). -/
def rndCheck (at_ : Nat) (s : State) : List (Nat × Nat) :=
  let sh (f : Fld) : Nat := s.rdSh f
  let changed (f : Fld) : Bool := s.rdSh f != s.rd f
  let refresh := refreshFields.any changed || s.stage.any fun e => e.1 == .rnd
  let mode := [RND.PCLK_KHZ, RND.PCLK_SLOT, RND.LINK_CFG_MAX_RATE, RND.LINK_CFG_MAX_LANES, RND.HTIM0_HACT, RND.HTIM0_HFP,
    RND.HTIM1_HSW, RND.HTIM1_HBP, RND.HTIM1_HNEG, RND.VTIM0_VACT, RND.VTIM0_VFP, RND.VTIM1_VSW, RND.VTIM1_VBP, RND.VTIM1_VNEG]
  let zero := [RND.PCLK_KHZ, RND.HTIM0_HACT, RND.VTIM0_VACT, RND.HTIM0_HFP, RND.HTIM1_HSW, RND.HTIM1_HBP, RND.VTIM0_VFP,
    RND.VTIM1_VSW, RND.VTIM1_VBP, RND.FRZ_CFG_N, RND.LINK_CFG_MAX_LANES]
  let hact := sh RND.HTIM0_HACT
  let vact := sh RND.VTIM0_VACT
  let ht := hact + sh RND.HTIM0_HFP + sh RND.HTIM1_HSW + sh RND.HTIM1_HBP
  let vt := vact + sh RND.VTIM0_VFP + sh RND.VTIM1_VSW + sh RND.VTIM1_VBP
  let khz := sh RND.PCLK_KHZ
  let base := s.rd (LTH.REG_BASE_ADDR 2) * 2 ^ 20
  let top := base + s.rd (LTH.REG_SIZE_MIB 2) * 2 ^ 20
  let inside (a n : Nat) : Bool := decide (base ≤ a) && decide (a + n ≤ top)
  let surf := sh RND.OV_BASE_ADDR * 4096
  let bytes := hact * vact * [1, 2, 4, 4].getD (sh RND.OV_CFG_FMT) 4
  let moved := [RND.HTIM0_HACT, RND.VTIM0_VACT, RND.OV_BASE_ADDR, RND.OV_HDR_ADDR, RND.OV_CFG_EN, RND.OV_CFG_FMT, RND.OV_CFG_PACK].any changed
  (zero.filterMap fun f => if sh f = 0 then some (CFG_ZERO, f.word) else none) ++
  (if hact < 640 ∨ 2560 < hact ∨ hact % 32 ≠ 0 then [(CFG_RANGE, RND.HTIM0_HACT.word)] else []) ++
  (if vact < 480 ∨ 1440 < vact ∨ vact % 8 ≠ 0 then [(CFG_RANGE, RND.VTIM0_VACT.word)] else []) ++
  (if khz < 25000 ∨ 320000 < khz ∨ 61 * ht * vt < khz * 1000 then [(CFG_RANGE, RND.PCLK_KHZ.word)] else []) ++
  (if sh RND.LINK_CFG_MAX_RATE = 3 ∨ sh RND.LINK_CFG_MAX_LANES = 3 ∨ 4 < sh RND.LINK_CFG_MAX_LANES then
    [(CFG_RANGE, RND.LINK_CFG_MAX_RATE.word)] else []) ++
  (if sh RND.OV_CFG_FMT = 3 then [(CFG_RANGE, RND.OV_CFG_FMT.word)] else []) ++
  (if vt ≤ sh RND.GL_CFG_GL_DELAY then [(CFG_RANGE, RND.GL_CFG_GL_DELAY.word)] else []) ++
  (if moved && sh RND.OV_CFG_EN == 1 && !inside surf bytes then [(CFG_RANGE, RND.OV_BASE_ADDR.word)] else []) ++
  (if moved && sh RND.OV_CFG_EN == 1 && sh RND.OV_CFG_PACK == 1 && !inside (sh RND.OV_HDR_ADDR * 4096) (hact / 32 * (vact / 8) * 8) then
    [(CFG_RANGE, RND.OV_HDR_ADDR.word)] else []) ++
  (if refresh && at_ != 0 then [(CFG_RANGE, RND.BG_RGB.word)] else []) ++
  (if s.on RND.OUT_EN then (mode.filterMap fun f => if changed f then some (CFG_BUSY, f.word) else none) else [])

end Sys2Proof.Machine
end

