-- ==== Sys2Proof/Machine/Park.lean ====
section
/-! DEFINITION. Stopping and resuming measurement: the horizon (R54, R55), PARK by command (R83, R441), and the time step of R380. -/

namespace Sys2Proof.Machine

/-- The first frame boundary at least `n` ticks after an instant `ns` into the tick in progress (R55). -/
def State.frameAfter (s : State) (n ns : Nat) : Nat :=
  let m := s.now + n + (if ns = 0 then 0 else 1)
  m + (512 - s.tickOf m) % 512

/-- PARK entered: measurement stops at the end of the tick in progress (R83, R441). -/
def State.enterPark (s : State) (byExpiry : Bool) : State :=
  { (s.wr PWR.STATE_STATE 1).wrB PWR.STATE_BY_EXPIRY byExpiry with scd.stopAt := some (s.now + 1), scd.resumeAt := none }

/-- Every present head's mirror on its way to PARK_CODE (R82, R83). -/
def State.mirrorsHome (s : State) : State := State.each s.heads (fun h s => s.mirrorHome h) s

/-- Every present head's mirror on its way to target(0) (R81, R83). -/
def State.mirrorsOut (s : State) : State := State.each s.heads (fun h s => s.mirrorOut h) s

/-- At a tick boundary: measurement that was to stop stops, and the mirrors park (R54, R83). -/
def State.stopDue (s : State) : State :=
  if s.scd.stopAt.any fun n => decide (n ≤ s.now) then
    let was := s.scd.measuring
    let s := { s with scd.stopAt := none, scd.measuring := false }
    if was then s.mirrorsHome else s
  else s

/-- At a tick boundary 64 ticks before measurement resumes: mirrors that are not on their way yet start (R81, R380). -/
def State.returnDue (s : State) : State :=
  if s.scd.resumeAt = some (s.now + 64) then
    State.each s.heads (fun h s => match (s.emtOf h).mir with
      | .parked => s.mirrorOut h
      | .home _ _ => s.mirrorOut h
      | _ => s) s
  else s

/-- HORIZON_EXPIRY and RESUME_CANCEL: AGE has reached 64. Screed finishes the tick and enters PARK; a resume that has not
reached its boundary is cancelled; a Topcoat stops with cause 1 (R54, R55, R329). -/
def horizonExpiry (s : State) : State :=
  if s.rd SCD.LEASE_AGE < 64 ∨ s.inHold then s
  else if s.on SCD.LEASE_EXPIRED then
    if s.scd.resumeAt.isSome then { s with scd.resumeAt := none }.mirrorsHome else s
  else
    let parked := s.inPark
    let s := (s.wr SCD.LEASE_EXPIRED 1).irq .scd 3
    let s := if parked && s.scd.resumeAt.isNone then s
      else if parked then { s.wr PWR.STATE_BY_EXPIRY 1 with scd.resumeAt := none }.mirrorsHome
      else s.enterPark true
    s.stopTopcoat 1 false

/-- HORIZON_EXPIRY (R54). -/
def execHorizonExpiry (s : State) : Host.Outcome State Fault Refusal := live s (horizonExpiry s)

/-- LEASE_RESUME: after a renewal the mirrors return, and the restart boundary is fixed; ignored while AGE is 64
(R55). It does not end a PARK by command, where it clears EXPIRED alone (R441). -/
def leaseResume (ns : Nat) (s : State) : State :=
  if !s.on SCD.LEASE_EXPIRED || decide (64 ≤ s.rd SCD.LEASE_AGE) || s.scd.resumeAt.isSome || s.inHold then s else
  if s.inPark && !s.on PWR.STATE_BY_EXPIRY then s.wr SCD.LEASE_EXPIRED 0 else
  let n := s.frameAfter 64 ns
  { s with scd.resumeAt := some n }.mirrorsOut

/-- LEASE_RESUME (R55). -/
def execLeaseResume (ns : Fin 100000) (s : State) : Host.Outcome State Fault Refusal := live s (leaseResume ns.val s)

/-- At the start of a tick that measures: the heads it measures are noted, and a unit whose contexts are not in the cache gets
fresh ones (R222, R225). `v` is the state with everything that takes hold at this boundary, under which the tick runs. -/
def State.beginMeasured (s v : State) : State :=
  State.each (List.range 8) (fun h s =>
    let ws := v.measured h
    if ws = [] then s else
    State.each (ws.flatMap fun j => (List.range 8).map fun g => (j, g)) (fun x s => s.latePrefetch h x.1 x.2)
      { s with lth.used := setBit s.lth.used h }) s

/-- A head's mirror follows its steps from the tick of number `n` on and its servo starts with acc 0: with the pickups of this
tick's strobe where it is the tick that has begun, else with the target of its first tick (R78, R81). -/
def State.mirrorRun (s : State) (h : Head) (n : Nat) : State :=
  let s := (s.putEmt h { s.emtOf h with mir := .run, acc := 0, angBad := false, dacNext := dacClamp (s.target h (s.tickOf n)) }).wr
    (EMT.HEAD_STAT_PARKED h.val) 0
  if n ≤ s.now then s.servo s h else s

/-- Measurement begins with the tick of number `n`, and the mirrors follow their steps (R81). -/
def State.startMeasuring (s : State) (n : Nat) : State :=
  let s := { s with scd.measuring := true, scd.measureFrom := n, scd.resumeAt := none, scd.stopAt := none }
  (State.each s.heads (fun h s => s.mirrorRun h n) s).beginMeasured s

/-- MEASUREMENT_RESTART: at the restart boundary EXPIRED clears, the device is in RUN, and measurement restarts; before the
first measurement frame of a boot it waits for the conditions of R424 (R55, R424, R441). -/
def measurementRestart (s : State) : State :=
  if s.scd.resumeAt = some s.now ∧ ¬ s.inHold then
    let s := ((s.wr SCD.LEASE_EXPIRED 0).wr PWR.STATE_STATE 0).wr PWR.STATE_BY_EXPIRY 0
    if s.boot.measured then s.startMeasuring s.now else { s with scd.resumeAt := none }
  else s

/-- MEASUREMENT_RESTART (R55). -/
def execMeasurementRestart (s : State) : Host.Outcome State Fault Refusal := live s (measurementRestart s)

/-- PARK_GO: PARK by command; in HOLD refused with TWIN_ROLE (R83, R441). -/
def parkGo (s : State) : State :=
  if s.inHold then s.errCode .pwr TWIN_ROLE PWR.PARK_GO.word
  else if s.inPark then
    if s.on SCD.LEASE_EXPIRED || s.scd.resumeAt.isNone then s else { s with scd.resumeAt := none }.mirrorsHome
  else s.enterPark false

/-- PARK_GO (R83). -/
def execParkGo (s : State) : Host.Outcome State Fault Refusal := live s (parkGo s)

/-- PARK_EXIT: a PARK by command ends: the mirrors return, and measurement resumes at the first frame boundary after they
have; after an expiry refused with CFG_BUSY (R83, R441). -/
def parkExit (ns : Nat) (s : State) : State :=
  let w := PWR.PARK_EXIT.word
  if s.inHold then s.errCode .pwr TWIN_ROLE w
  else if !s.inPark then s
  else if s.on PWR.STATE_BY_EXPIRY || s.on SCD.LEASE_EXPIRED then s.errCode .pwr CFG_BUSY w
  else if s.scd.resumeAt.isSome then s
  else
    let n := s.frameAfter 64 ns
    { s with scd.resumeAt := some n }.mirrorsOut

/-- PARK_EXIT (R83). -/
def execParkExit (ns : Fin 100000) (s : State) : Host.Outcome State Fault Refusal := live s (parkExit ns.val s)

/-- TIME_STEP at its frame boundary: measurement stops as in PARK, domain time and the grid are set to the reference, and
measurement resumes at the first frame boundary of the new timeline at which the mirrors, 64 ticks home and 64 ticks back,
have returned (R380). -/
def State.stepAtFrame (s : State) : State :=
  if !s.on TIM.STEP_PENDING then s else
  let was := s.scd.measuring
  let s := { s with scd.measuring := false, scd.stopAt := none }
  let s := if was then s.mirrorsHome else s
  let s := ((s.timeStep (-s.tim.theta)).wr TIM.STEP_PENDING 0).timeState 1
  let s := { s with tim.slewing := true }
  if was then
    let n := s.frameAfter 128 0
    { s with scd.resumeAt := some n }
  else s

end Sys2Proof.Machine
end

