-- ==== Sys2Proof/Machine/Regs.lean ====
section
/-! DEFINITION. Commits and soft resets (R18 to R23, R411, R436, R454, R457 to R460): what a key write checks, when an accepted commit takes hold and what it changes then, and what a BLOCK reset of each page does. -/

namespace Sys2Proof.Machine

/-! ## The shadow (R19, R453) -/

/-- Whether a field has a shadow: its access code is RWS, RWL or WOS (R453). -/
def Acc.shadowed : Acc → Bool
  | .rws | .rwl | .wos => true
  | _ => false

/-- Whether a page has shadowed fields (R459). -/
def pageShadowed (p : Page) : Bool := p.fields.any fun f => f.acc.shadowed

/-- The fields of a page whose shadow differs from the live value (R453). -/
def State.changed (s : State) (p : Page) : List Fld :=
  p.fields.filter fun f => f.acc.shadowed && s.rdSh f != s.rd f

/-- A table entry in force (R149, R169, R216, R277, R411). -/
def State.tabVal (s : State) : TabId → Nat → Int
  | .flt, k => Sparse.get s.tabs.flt k (Config.nominal 0 k)
  | .rofs, k => Sparse.get s.tabs.rofs k 0
  | .skew, k => Sparse.get s.tabs.skew k 0
  | .coef, k => Sparse.get s.tabs.coef k (Config.nominal 1 k)
  | .pal, k => s.palette (decide (256 ≤ k)) (k % 256)

/-- What a table port shows of an entry: under CTRL.VIEW_SHADOW the shadow's, staged or in a commit that waits; else the one in
force (R453). -/
def State.tabView (s : State) (p : Page) (t : TabId) (k : Nat) : Int :=
  if !s.on (HDR.CTRL_VIEW_SHADOW p) then s.tabVal t k else
  let staged := (s.stage.filter fun e => e.1 == p).map (fun e => e.2) ++ (s.commits.filter fun c => c.page == p).flatMap PendCommit.tabs
  match staged.find? fun e => e.1 == t && e.2.1 == k with
  | some e => e.2.2
  | none => s.tabVal t k

/-- A table entry put in force. -/
def State.putTab (s : State) (t : TabId × Nat × Int) : State :=
  match t with
  | (.flt, k, v) => { s with tabs.flt := Sparse.put s.tabs.flt k v }
  | (.rofs, k, v) => { s with tabs.rofs := Sparse.set s.tabs.rofs k v 0 }
  | (.skew, k, v) => { s with tabs.skew := Sparse.set s.tabs.skew k v 0 }
  | (.coef, k, v) => { s with tabs.coef := Sparse.put s.tabs.coef k v }
  | (.pal, k, v) => { s with rnd.pal := Sparse.put s.rnd.pal k v.toNat }

/-- The staged table entries of a page that differ from the ones in force. -/
def State.stagedTabs (s : State) (p : Page) : List (TabId × Nat × Int) :=
  (s.stage.filter fun e => e.1 == p && s.tabVal e.2.1 e.2.2.1 != e.2.2.2).map fun e => e.2

/-- A table entry staged for the next commit of its page (R169). -/
def State.stageTab (s : State) (p : Page) (id : TabId) (k : Nat) (v : Int) : State :=
  { s with stage := (s.stage.filter fun e => !(e.1 == p && e.2.1 == id && e.2.2.1 == k)) ++ [(p, id, k, v)] }

/-! ## What a key write checks (R9, R19, R22, R40, R411, R454, R460) -/

/-- The broken rules of a commit of SCD: those of a swap, where one is staged (R40). -/
def scdCheck (s : State) : List (Nat × Nat) :=
  let m := s.rdSh SCD.SWAP_PART_MASK
  if m = 0 ∨ s.swapCode m = 0 then [] else [(s.swapCode m, SCD.SWAP_PART_MASK.word)]

/-- The broken rules of a commit of CLK (R434, R449): a divider of 0, an enable on an output without a use. -/
def clkCheck (s : State) : List (Nat × Nat) :=
  (List.range 48).flatMap fun o =>
    (if s.rdSh (CLK.OUT_DIV o) = 0 then [(CFG_ZERO, (CLK.OUT_DIV o).word)] else []) ++
    (if CLK.enReset o = 0 ∧ s.rdSh (CLK.OUT_EN o) = 1 then [(CFG_RANGE, (CLK.OUT_EN o).word)] else [])

/-- The broken rules of a commit, as the chapter of the page's block gives them; `at_` is the boundary asked for. -/
def pageCheck (p : Page) (at_ : Nat) (s : State) : List (Nat × Nat) :=
  match p with
  | .scd => scdCheck s
  | .clk => clkCheck s
  | .hkp => hkpCheck s
  | .thm => thmCheck s
  | .saf => safCheck s
  | .twn => twnCheck s
  | .emt h => emtCheck h s
  | .rfe h => rfeCheck h s
  | .wfl h => wflCheck h s
  | .stp => stpCheck s
  | .scm => scmCheck s
  | .skm => skmCheck s
  | .flt => fltCheck s
  | .msk => mskCheck s
  | .ptb => ptbCheck s
  | .lth => lthCheck s ++ lthTwinCheck s
  | .mem c => memCheck c.val s
  | .cxl1 => cxl1Check s
  | .gsl => gslCheck s
  | .tim => timCheck s
  | .dst => dstCheck s
  | .rnd => rndCheck at_ s
  | .cal => calCheck s
  | .cap | .ctl | .pwr | .tdc _ | .cxl0 | .sec => []

/-- The head whose RWL fields of MSK a field is one of: R189 gives them to island A. -/
def mskHead (f : Fld) : Option Nat :=
  (List.range 8).find? fun h =>
    [MSK.PCFG_PERS_TOL h, MSK.PCFG_PERS_MIN h, MSK.WX_WX_RANGE h, MSK.WX_RAIN_W h, MSK.WX_DUST_W h, MSK.WXI_RAIN_I h,
     MSK.WXI_DUST_I h].contains f

/-- The owners' refusals of a commit that changes owned fields (R189, R333, R454); those of SAF are among its own rules. -/
def State.ownerCheck (s : State) (p : Page) : List (Nat × Nat) :=
  let ch := s.changed p
  (if s.on (HDR.CTRL_LOCK p) then (ch.filter fun f => f.acc == Acc.rwl).map fun f => (CFG_LOCKED, f.word) else []) ++
  (if p = .msk ∧ s.safState ≠ 1 then
    (ch.filter fun f => (mskHead f).any fun h => s.permits h).map fun f => (SAFETY_LOCK, f.word) else []) ++
  (if p = .twn ∧ (s.role = 2 ∨ s.role = 5) then
    (ch.filter fun f => !([TWN.CTRL_REVERT_EN, TWN.CTRL_DEGR_HANDOVER, TWN.CTRL_AUTO_WARM, TWN.CTRL_TAKEOVER_INH,
      TWN.CKPT_ADDR_LO_ADDR, TWN.CKPT_ADDR_HI_ADDR].contains f)).map fun f => (TWIN_ROLE, f.word) else [])

/-- Every rule that a commit of the page now breaks: its code, and the word of the field (R9, R22, R454, R457, R460). -/
def State.commitCodes (s : State) (p : Page) : List (Nat × Nat) :=
  (if (s.commits.any fun c => c.page == p) || (s.resets.any fun r => r.page == p) then [(CFG_BUSY, 0)] else []) ++
  ((s.shadowBad.filter fun w => w / 4096 * 4096 == p.base).map fun w => (PARITY, w % 4096 / 4)) ++
  s.ownerCheck p ++ pageCheck p (s.rd (HDR.COMMIT_AT_AT p)) s

/-- The result that R9 selects among broken rules: the lowest code, and of its fields the lowest word. -/
def lowestCode : List (Nat × Nat) → Nat × Nat
  | [] => (0, 0)
  | a :: t =>
    let b := lowestCode t
    if b.1 = 0 ∨ a.1 < b.1 ∨ (a.1 = b.1 ∧ a.2 ≤ b.2) then a else b

/-! ## When an accepted commit takes hold (R19 to R21, R41, R411) -/

/-- A boundary's place in the order of R19. -/
def Bnd.rank : Bnd → Nat
  | .none | .imm | .refresh => 0
  | .tick => 1
  | .coat => 2
  | .frame => 3

/-- The boundary of a table entry (R169, R216, R277, R411). -/
def tabBnd : TabId → Bnd
  | .pal => .refresh
  | _ => .coat

/-- Whether an immediate field is one that the datapath reads, so that it takes hold between two windows (R21): the
accumulator fields of Trowel, the device range offset, and the frequency corrections. -/
def datapathField (p : Page) (f : Fld) : Bool :=
  match p with
  | .emt _ => true
  | .cal => f == CAL.DEV_OFS_OFS
  | .tim => f == TIM.TRIM_PPB || f == TIM.TCOMP_CTRL_EN
  | _ => false

/-- The boundary of an accepted commit: the latest of the one that COMMIT_AT asks for and those of what it changes; a
swap may need a frame boundary, and refresh fields wait for the latch. None where it takes hold at once. -/
def State.commitDue (s : State) (p : Page) (ns : Nat) : Option Due :=
  let ch := s.changed p
  let tabs := s.stagedTabs p
  let mask := s.rdSh SCD.SWAP_PART_MASK
  let ranks := s.rd (HDR.COMMIT_AT_AT p) :: (ch.map fun f => f.bnd.rank) ++ (tabs.map fun t => (tabBnd t.1).rank) ++
    (if p = .scd ∧ mask ≠ 0 ∧ s.swapNeedsFrame mask then [3] else [])
  if (ch.any fun f => f.bnd == Bnd.refresh) || (tabs.any fun t => t.1 == TabId.pal) then some .refresh else
  match ranks.foldl max 0 with
  | 0 => if ch.any fun f => datapathField p f then some .window else none
  | 1 => some (.tick (s.nextTick ns))
  | 2 => some (.tick (s.nextCoat ns))
  | _ => some (.tick (s.nextFrame ns))

/-- Whether a field belongs to the code key or its control: a commit that changes one commits the whole staged key
(R126). -/
def keyField (f : Fld) : Bool := isKeyWord f.key || f == STP.KEY_CTRL_AT_FRAME || f == STP.KEY_CTRL_USE_AT

/-- The declared group delays that a commit sets by itself: those of the custom banks whose TAPS it changes and whose GD it
leaves as it is (R216; log entry 127). -/
def State.defaultDelays (s : State) (p : Page) : List (Nat × Nat) :=
  match p with
  | .wfl h => (List.range 2).filterMap fun n =>
    let taps := WFL.CUST_CFG_TAPS h.val n
    let gd := WFL.CUST_CFG_GD h.val n
    if s.rdSh taps ≠ s.rd taps ∧ s.rdSh gd = s.rd gd then some (gd.key, 32 * (s.rdSh taps - 1)) else none
  | _ => []

/-- What an accepted commit changes: the fields that differ, every word of the code key where it touches the key, and the group
delays that it sets by itself. -/
def State.commitVals (s : State) (p : Page) : List (Nat × Nat) :=
  let ch := s.changed p
  let key : Bool := p == .stp && ch.any keyField
  let fs := if key then (ch.filter fun f => !isKeyWord f.key) ++ (List.range 4).map STP.CODE_KEY_KEY else ch
  (fs.map fun f => (f.key, s.rdSh f)) ++ s.defaultDelays p

/-! ## What takes hold (R22, R41, R43, R82, R126, R165, R234, R358, R408) -/

/-- Committed values put into the live copies; a staged value that equals the live one is no longer staged. -/
def State.applyVals (s : State) (p : Page) (vals : List (Nat × Nat)) : State :=
  State.each vals (fun v s =>
    match p.fields.find? fun f => f.key == v.1 with
    | some f => let v' := v.2 % 2 ^ f.width
                { s.wr f v' with shadow := s.shadow.filter fun e => !(e.1 == f.key && e.2 == v') }
    | none => s) s

/-- COMMIT_PENDING cleared and SHADOW_SEQ incremented (R22). -/
def State.commitDone (s : State) (p : Page) : State := (s.wr (HDR.STAT_COMMIT_PENDING p) 0).wrapInc (HDR.SHADOW_SEQ_SEQ p)

/-- SWAP_TAKE_HOLD, HEAD_ATTACH and HEAD_DETACH: the active slots flip, the staged header is installed, heads that join
start measuring with the first tick, heads that leave park their mirrors (R41 to R43, R82, R441). -/
def State.swapHold (s : State) (mask : Nat) : State :=
  let old := s.headMask
  let hdr := s.stagedHdr mask
  let named := partsIn mask
  let s := State.each named (fun p s =>
    let there := (s.imgSlot p false).part != []
    let s := s.wr SCD.ACTIVE_SLOT (if s.slotB p then clrBit (s.rd SCD.ACTIVE_SLOT) p else setBit (s.rd SCD.ACTIVE_SLOT) p)
    let s := s.bitPut SCD.ACTIVE_PRESENT p there
    let at_ := if h : p < 9 then s.scd.swapAt.set p s.now else s.scd.swapAt
    { s.bitPut SCD.LOAD_STAT_LOADED p false with scd.swapAt := at_, scd.held := setBit s.scd.held p }) s
  let s := { s with scd.runHdr := hdr }.showRun
  let s := { s.wr SCD.SWAP_PART_MASK 0 with shadow := Sparse.del s.shadow SCD.SWAP_PART_MASK.key }
  let s := State.each (List.finRange 8) (fun h s =>
    let was := hasBit old h.val
    if s.present h.val && !was then
      let e := s.emtOf h
      let s := s.putEmt h { e with joinAt := some s.now }
      if s.inPark then if (s.emtOf h).mir = .parked then s else s.mirrorHome h
      else if s.scd.measuring then
        let e := s.emtOf h
        (s.putEmt h (if e.mir = .run then e else { e with mir := .run, acc := 0 })).wr (EMT.HEAD_STAT_PARKED h.val) 0
      else s
    else if was && !s.present h.val then (s.mirrorHome h).wr (EMT.HEAD_STAT_EMITTING h.val) 0
    else s) s
  s.holdTokens.showDomains.mr6Stale

/-- A port whose configuration has changed: an enabled one or one that leaves loopback or PRBS trains, a disabled one is
down (R364, R370). -/
def State.portCommitted (s0 s : State) (p : Fin 4) : State :=
  if s0.portOn p && !s.portOn p then s.wr (GSL.PORT_STAT_UP p.val) 0
  else if (!s0.portOn p && s.portOn p) || (s0.portTest p && !s.portTest p) then s.portWant p
  else s

/-- Heads at which a per-channel item takes hold by a commit (R270). -/
def State.stamped (s : State) (heads : List Nat) : State :=
  State.each (List.finRange 8) (fun h s =>
    if heads.contains h.val then s.putCal h { s.calOf h with gen := true } else s) s

/-- What a commit changes beside its fields, by page; `s0` is the state before it took hold. -/
def State.committed (s0 s : State) (p : Page) (c : PendCommit) : State :=
  let ch (f : Fld) : Bool := s0.rd f != s.rd f
  match p with
  | .scd => if s.rd SCD.SWAP_PART_MASK = 0 then s else s.swapHold (s.rd SCD.SWAP_PART_MASK)
  | .thm => if ch THM.TCFG_FORCE_STEP then s.showStep else s
  | .hkp => s.pulseHeld
  | .saf =>
    let s := State.each ((List.range 16).filter fun n => [SAF.CONN_CFG_EN n, SAF.CONN_CFG_TRANSPORT n, SAF.CONN_CFG_PORT n,
      SAF.CONN_CFG_ROLE n, SAF.CONN_CFG_REACT n, SAF.CONN_CFG_OWNER n, SAF.CONN_CFG_OWN_IDX n, SAF.CONN_CFG_PARTNER n].any ch)
      (fun n s => s.connInit n) s
    if s.saf.img.isSome then (s.wr SAF.SCID_A_SCID s.scid).wr SAF.SCID_B_SCID s.scid else s
  | .msk => if s.safState = 1 ∧ s.saf.img.isSome then (s.wr SAF.SCID_A_SCID s.scid).wr SAF.SCID_B_SCID s.scid else s
  | .twn => if ch TWN.CKPT_ADDR_LO_ADDR || ch TWN.CKPT_ADDR_HI_ADDR then s.ckptAbandon else s
  | .emt h => if ch (EMT.REACH_REACH_IDX h.val) || ch (EMT.REACH_RAMP_COATS h.val) then s.rampStart h else s
  | .rfe h =>
    let rows := (List.range 128).filter fun r =>
      ch (RFE.CH_TRIM_LE_OFS h.val r) || ch (RFE.CH_TRIM_TE_OFS h.val r) || ch (RFE.CH_TRIM_TIA_OFS h.val r)
    if rows = [] then s else
      s.putCal h { s.calOf h with gen := true, hostTrim := rows.foldl setBit (s.calOf h).hostTrim }
  | .wfl h =>
    let rows := c.tabs.filterMap fun t => if t.1 = .skew then some (t.2.1 % 128) else none
    let s := if rows = [] then s else
      s.putCal h { s.calOf h with gen := true, hostSkew := rows.foldl setBit (s.calOf h).hostSkew }
    if [WFL.HOLD_LANE h.val, WFL.HOLD_ROW h.val, WFL.HOLD_EN h.val].any ch then
      s.putWfl h { s.wflOf h with heldCnt := 0, heldPrev := [], heldFrom := s.now * tickSmp }
    else if (s.heldSettings h).any ch ∨ c.tabs.any (fun t => t.1 == .coef) then s.settleHeld h (s.now * tickSmp)
    else s
  | .cal =>
    let s := State.each c.tabs (fun t s => s.mark (t.2.1 / 128) (offsetMark (t.2.1 / 128) (t.2.1 % 128))) s
    let s := if c.vals.any fun v => v.1 == CAL.DEV_OFS_OFS.key then s.markDevice else s
    s.stamped (c.tabs.map fun t => t.2.1 / 128)
  | .flt =>
    let s := State.each c.tabs (fun t s => s.mark (fltHead t.2.1) (floatMark (fltHead t.2.1) (fltSel t.2.1))) s
    s.stamped ((c.tabs.filter fun t => fltSel t.2.1 == 4).map fun t => fltHead t.2.1)
  | .cxl1 =>
    let s := if [CXL1.EVT_BASE_LO_ADDR, CXL1.EVT_BASE_HI_ADDR, CXL1.EVT_SIZE_SIZE].any ch then s.eventRingSet else s
    let s := if [CXL1.CMD_BASE_LO_ADDR, CXL1.CMD_BASE_HI_ADDR, CXL1.CMD_SIZE_SIZE].any ch then
      (s.wr CXL1.CMD_WR_IDX 0).wr CXL1.CMD_RD_IDX 0 else s
    if ch CXL1.MIR_LO_EN then { s with host.mirSeq := 0, host.mirLast := none } else s
  | .gsl => State.each (List.finRange 4) (fun q s => State.portCommitted s0 s q) (s.wr STP.DOMAIN_ID (s.rd GSL.IDENT_DOMAIN_ID))
  | .tim =>
    let s := if ch TIM.TRIM_PPB || ch TIM.TCOMP_CTRL_EN then s.showEps else s
    if !s0.on TIM.DISC_PPS_EN && s.on TIM.DISC_PPS_EN then { s with tim.refFrom := s.now } else s
  | .dst => State.dstCommitted s0 s
  | .rnd => State.rndCommitted s0 s
  | .lth => { s.wr LTH.FRESH_HEADS 0 with shadow := s.shadow.filter fun e => e.1 != LTH.FRESH_HEADS.key }
  | .cap | .ctl | .clk | .pwr | .tdc _ | .stp | .scm | .skm | .ptb | .mem _ | .cxl0 | .sec => s

/-- A commit of STP at its boundary: everything but a key that waits takes hold, and the commit counts; a key whose frame
has come takes hold, late where its frame had passed; a key that waits stays pending (R22, R126, R140; log entry 83). -/
def State.stpHold (s : State) (c : PendCommit) : State :=
  let keyed := c.wait || c.vals.any fun v => isKeyWord v.1
  let later := !c.wait && keyed && s.keyLater c s.now
  let late := Sparse.get c.vals STP.KEY_CTRL_USE_AT.key (s.rd STP.KEY_CTRL_USE_AT) == 1 &&
    atFrameJudged (Sparse.get c.vals STP.KEY_CTRL_AT_FRAME.key (s.rd STP.KEY_CTRL_AT_FRAME)) s.frame == 2
  let s := s.applyVals .stp (if later then c.vals.filter fun v => !isKeyWord v.1 else c.vals)
  let s := if c.wait then s.wr (HDR.STAT_COMMIT_PENDING .stp) 0 else s.commitDone .stp
  if later then
    let n := s.now + 512 * ((s.rd STP.KEY_CTRL_AT_FRAME + 32768 - s.frame) % 32768)
    let key : PendCommit := { page := .stp, vals := c.vals.filter fun v => isKeyWord v.1, due := .tick n, wait := true }
    { s with commits := s.commits ++ [key] }.wr (HDR.STAT_COMMIT_PENDING .stp) 1
  else if keyed then s.keyTakeHold late
  else s

/-- Whether a field is one of `CLK.OUT`, whose committed values wait in the second buffer for an UPDATE (R436). -/
def clkOutKey (k : Nat) : Bool :=
  (List.range 48).any fun o => k == (CLK.OUT_DIV o).key || k == (CLK.OUT_FDELAY o).key || k == (CLK.OUT_EN o).key

/-- An accepted commit takes hold (R22). -/
def State.takeHold (s : State) (c : PendCommit) : State :=
  let s0 := s
  let s := { s with commits := s.commits.filter fun d => d.page != c.page }
  if c.page = .stp then s.stpHold c else
  if c.page = .clk then
    let out := c.vals.filter fun v => clkOutKey v.1
    let s := s.applyVals .clk (c.vals.filter fun v => !clkOutKey v.1)
    let held := out.foldl (fun (m : List (Nat × Nat)) (v : Nat × Nat) => Sparse.put m v.1 v.2) s.boot.held
    { s with boot.held := held }.commitDone .clk
  else
    let s := s.applyVals c.page c.vals
    let s := if c.tabs = [] then s else State.each c.tabs (fun t s => s.putTab t) s.saveTabs
    (State.committed s0 s c.page c).commitDone c.page

/-- COMMIT_TAKE_HOLD: the pending commit of a page takes hold once its boundary has come; one for the gap between two
windows takes hold in any gap, and one for the latch waits for REFRESH_LATCH (R20 to R22). -/
def commitTakeHold (p : Page) (s : State) : State :=
  match s.commits.find? fun c => c.page == p with
  | none => s
  | some c =>
    match c.due with
    | .window => s.takeHold c
    | .tick n =>
      if n ≤ s.now then
        let t := s.takeHold c
        if c.page = .thm then t.throttleNote else t
      else s
    | .refresh => s

/-- COMMIT_TAKE_HOLD (R22). -/
def execCommitTakeHold (p : Page) (s : State) : Host.Outcome State Fault Refusal := live s (commitTakeHold p s)

/-! ## The key write (R459) -/

/-- CFG_MIRROR_SEND of an accepted commit: the mirrored fields and tables it changes, or the image that it swaps in (R319). -/
def State.commitMirror (s : State) (c : PendCommit) : State :=
  let key := SCD.SWAP_PART_MASK.key
  let vals := c.vals.filter fun v => v.1 != key && v.1 != LTH.FRESH_HEADS.key &&
    c.page.fields.any fun f => f.key == v.1 && mirrored c.page f
  let tabs := c.tabs.map fun t => match t.1 with
    | .flt => (0, t.2) | .rofs => (1, t.2) | .skew => (2, t.2) | .coef => (3, t.2) | .pal => (4, t.2)
  let s := if vals = [] ∧ tabs = [] then s else s.mirrorSend (.fields vals tabs)
  match c.vals.find? fun v => v.1 == key with
  | some v => s.mirrorSend (.image (s.stagedHdr v.2) ((partsIn v.2).map fun p => (p, (s.imgSlot p false).part)))
  | none => s

/-- A page's staged table entries taken. -/
def State.unstage (s : State) (p : Page) : State := { s with stage := s.stage.filter fun e => e.1 != p }

/-- A commit put among those that wait. -/
def State.putPending (s : State) (c : PendCommit) : State := { s with commits := s.commits ++ [c] }

/-- A commit waits for its boundary, and shows it; one of the key shows that too (R9, R22). -/
def State.awaitBoundary (s : State) (c : PendCommit) : State :=
  let s := (s.putPending c).wr (HDR.STAT_COMMIT_PENDING c.page) 1
  if c.vals.any fun v => isKeyWord v.1 then s.wr STP.KEY_STAT_PENDING 1 else s

/-- An accepted commit: CODE 0x00, and it is pending until its boundary, or takes hold at once. -/
def State.accept (s : State) (p : Page) (ns : Nat) : State :=
  let due := s.commitDue p ns
  let c : PendCommit := { page := p, vals := s.commitVals p, due := due.getD (.tick s.now), tabs := s.stagedTabs p }
  let s := ((s.errCode p OK 0).commitMirror c).unstage p
  if due.isNone then s.takeHold c else s.awaitBoundary c

/-- COMMIT: a write to COMMIT at `ns` nanoseconds into the tick; the key attempts a commit, any other value is ignored
(R459). In HOLD only the TWN and CAP pages commit, and PWR refuses (R316, R441). -/
def commit (p : Page) (key : Nat) (ns : Nat) (s : State) : State :=
  if s.inHold && p == .pwr then s.errCode .pwr TWIN_ROLE (HDR.COMMIT_KEY .pwr).word else
  if key ≠ p.commitKey ∨ (s.inHold = true ∧ p ≠ .cap ∧ p ≠ .twn) then s else
  let r := lowestCode (s.commitCodes p)
  if r.1 ≠ 0 then s.errCode p r.1 r.2
  else if pageShadowed p then s.accept p ns
  else s.errCode p OK 0

/-- COMMIT (R459). -/
def execCommit (p : Page) (key : BitVec 32) (ns : Fin 100000) (s : State) : Host.Outcome State Fault Refusal :=
  live s (commit p key.toNat ns.val s)

/-! ## Soft resets (R457, R458, R460) -/

/-- The tick at whose start a BLOCK reset of a page written `ns` into the tick takes hold: coat for EMT, RFE, MSK, WFL and
CAL, frame for PTB, tick for HKP and DST; none where it takes hold at once (R84, R91, R169, R190, R216, R274, R251, R405,
R458). -/
def State.resetDue (s : State) (p : Page) (ns : Nat) : Option Nat :=
  match p with
  | .emt _ | .rfe _ | .msk | .wfl _ | .cal => some (s.nextCoat ns)
  | .ptb => some (s.nextFrame ns)
  | .hkp | .dst => some (s.nextTick ns)
  | _ => none

/-- Fields that show what stands outside their page's settings: links, locks, straps, running operations. A BLOCK reset
leaves what they show, so they keep reading it (log entry 84). -/
def standing : Page → List Fld
  | .cxl0 => linkFields ++ [CXL0.IDE_STAT_IO, CXL0.IDE_STAT_CM]
  | .twn => [TWN.STAT_POS]
  | .gsl => GSL.IDENT_BOARD_VAR :: (List.range 4).flatMap fun p =>
      [GSL.PORT_STAT_WIDTH p, GSL.PORT_STAT_UP p, GSL.PORT_STAT_LOS p, GSL.PORT_STAT_LOL p, GSL.PORT_STAT_TRUNK p,
       GSL.PORT_STAT_TWIN p, GSL.PORT_STAT_NBR_ID p, GSL.PORT_STAT_NBR_VALID p, GSL.LINK_DLY_PS p]
  | .clk => [CLK.PHY_LOCK_DDR, CLK.PHY_LOCK_CXL, CLK.PHY_LOCK_GOSIA, CLK.PHY_LOCK_DP] ++
      (List.range 6).flatMap fun y => [CLK.SYN_STAT_LOCK y, CLK.SYN_STAT_STORED y, CLK.SYN_STAT_SLOT y]
  | .ctl => [CTL.FLASH_STAT_BUSY]
  | _ => []

/-- A BLOCK reset of SCD: the load registers, the staged slots and the counters, and a pending swap goes; slots still
held by a swap stay (R56). -/
def State.scdReset (s : State) : State :=
  let s := State.each ((List.range 9).filter fun p => !hasBit s.scd.held p) (fun p s => s.putSlot p false {}) s
  { s with scd.load := none }.resetPage .block .scd

/-- A BLOCK reset of a WFL page: a foreground run ends without a result, queued requests go, the custom coefficients return to those of
the ROM, and the slice factors stay; a run that CAL had asked for has ended, and one that waits there is asked for again (R216,
R266). -/
def State.wflReset (s : State) (h : Head) : State :=
  let s := (s.saveTabs.discardRequests h).resetPage .block (.wfl h)
  let s := { s.putBusy h 2 false with tabs.coef := s.tabs.coef.filter fun e => e.1 / 1024 != h.val }
  State.askWfl (h := h) (ns := 0) <| (s.putWfl h { s.wflOf h with pend := none, run := none, heldCnt := 0, heldPrev := [], heldFrom := s.now * tickSmp }).showUncal h

/-- A BLOCK reset of SAF clears only BAD, GAP and LATE (R300). -/
def State.safReset (s : State) : State :=
  let s := State.each (List.range 16) (fun c s =>
    ((s.wr (SAF.CONN_STAT_BAD c) 0).wr (SAF.CONN_STAT_GAP c) 0).wr (SAF.CONN_STAT_LATE c) 0) s
  { s with resets := s.resets.filter fun x => x.page != Page.saf }.wr (HDR.STAT_RESET_PENDING .saf) 0

/-- A BLOCK reset of HKP at its tick boundary: the round starts at p = 0 there, under the reset values (R259). -/
def State.hkpReset (s : State) : State :=
  let short := s.rd HKP.HSTAT_ROUND_POS != 0
  (s.resetPage .block .hkp).roundRestart short

/-- What a BLOCK reset of a page does when it takes hold (R444, R458, and the prose of each block's chapter). -/
def State.blockReset (s : State) (p : Page) : State :=
  match p with
  | .scd => s.scdReset
  | .saf => s.safReset
  | .hkp => s.hkpReset
  | .emt h => (s.resetPage .block p).rampStart h
  | .wfl h => s.wflReset h
  | .cal => s.calBlockReset.resetPage .block p
  | .dst => s.dstBlockReset
  | .rnd => s.rndReset .block
  | .cxl1 => (s.resetPage .host p).hostDrop
  | .cxl0 => { (s.resetPage .block p).putBack s (standing p) with host.route := [] }
  | .clk => { (s.resetPage .block p).putBack s (standing p) with boot.clkAt := none }
  | .pwr => (s.resetPage .block p).showDomains
  | .thm => (s.resetPage .block p).showStep
  | .tim => (s.resetPage .block p).showEps
  | .stp =>
    let t := (s.resetPage .block p).putBack s (standing p)
    if t.commits.any fun c => c.page == .stp && c.vals.any fun v => isKeyWord v.1 then t else t.wr STP.KEY_STAT_PENDING 0
  | .msk =>
    let t := (s.resetPage .block p).putBack s (standing p)
    { t with msk := t.msk.map fun m => { m with last := Vector.replicate 9 0 } }
  | .cap | .ctl | .twn | .rfe _ | .tdc _ | .scm | .skm | .flt | .ptb | .lth | .mem _ | .gsl | .sec =>
    (s.resetPage .block p).putBack s (standing p)

/-- Whether a soft reset is refused: SAF outside CONFIG, and MSK while a permission stands outside CONFIG and the reset would
change a field that island A owns (R189, R300; log entry 85). -/
def State.resetRefused (s : State) (p : Page) : Option Fld :=
  if s.safState = 1 then none
  else match p with
    | .saf => some (HDR.CTRL_SOFT_RESET p)
    | .msk => Page.msk.fields.find? fun f => ((mskHead f).any fun h => s.permits h) && s.rd f != f.reset
    | _ => none

/-- SOFT_RESET: a write of 1 to CTRL.SOFT_RESET is reported like a commit, and the reset takes hold at the boundary of its
block, at once where there is none (R457, R458). -/
def softReset (p : Page) (ns : Nat) (s : State) : State :=
  if s.inHold && p == .pwr then s.errCode p TWIN_ROLE (HDR.CTRL_SOFT_RESET p).word
  else if !s.served p then s
  else match s.resetRefused p with
  | some f => s.errCode p SAFETY_LOCK f.word
  | none =>
    let s := s.errCode p OK 0
    match s.resetDue p ns with
    | none => s.blockReset p
    | some n =>
      if s.resets.any fun r => r.page == p then s else
      let r : PendReset := { page := p, due := .tick n }
      { s with resets := s.resets ++ [r] }.wr (HDR.STAT_RESET_PENDING p) 1

/-- SOFT_RESET (R458). -/
def execSoftReset (p : Page) (ns : Fin 100000) (s : State) : Host.Outcome State Fault Refusal :=
  live s (softReset p ns.val s)

/-- SOFT_RESET_TAKE_HOLD: the soft reset that waits takes hold once its boundary has come (R457). -/
def softResetTakeHold (p : Page) (s : State) : State :=
  match s.resets.find? fun r => r.page == p with
  | none => s
  | some r =>
    match r.due with
    | .tick n => if n ≤ s.now then (s.blockReset p).wr (HDR.STAT_RESET_PENDING p) 0 else s
    | .window | .refresh => s

/-- SOFT_RESET_TAKE_HOLD (R457). -/
def execSoftResetTakeHold (p : Page) (s : State) : Host.Outcome State Fault Refusal := live s (softResetTakeHold p s)

/-! ## Header writes (R454, R457, R458) -/

/-- CTRL_LOCK: a write of 1 to CTRL.LOCK locks the RWL fields of the page; only WARM and POR clear it (R454, R458). -/
def ctrlLock (p : Page) (s : State) : State :=
  if s.inHold && p == .pwr then s.errCode p TWIN_ROLE (HDR.CTRL_LOCK p).word
  else if s.served p then s.wr (HDR.CTRL_LOCK p) 1 else s

/-- CTRL_LOCK (R454). -/
def execCtrlLock (p : Page) (s : State) : Host.Outcome State Fault Refusal := live s (ctrlLock p s)

/-- IRQ_FORCE: each 1 sets its bit of IRQ_STAT, as hardware would (R457). -/
def irqForce (p : Page) (m : Nat) (s : State) : State :=
  if s.inHold && p == .pwr then s.errCode p TWIN_ROLE (HDR.IRQ_FORCE_FORCE p).word
  else if s.served p then s.irqMask p m else s

/-- IRQ_FORCE (R457). -/
def execIrqForce (p : Page) (m : BitVec 32) (s : State) : Host.Outcome State Fault Refusal := live s (irqForce p m.toNat s)

/-- IRQ_STAT_CLEAR: each 1 clears its bit of IRQ_STAT; a bit that hardware sets in the same cycle stays set (R457). -/
def irqStatClear (p : Page) (m same : Nat) (s : State) : State :=
  let f := HDR.IRQ_STAT_IRQ p
  if s.inHold && p == .pwr then s.errCode p TWIN_ROLE f.word
  else if s.served p then (s.wr f (s.rd f - (s.rd f &&& m))).irqMask p same else s

/-- IRQ_STAT_CLEAR (R457). -/
def execIrqStatClear (p : Page) (m same : BitVec 32) (s : State) : Host.Outcome State Fault Refusal :=
  live s (irqStatClear p m.toNat same.toNat s)

/-- A parity error of a page's storage recorded in PARITY_LOG (R458, R460). -/
def State.parityLog (s : State) (p : Page) (word : Nat) : State :=
  ((s.satInc (HDR.PARITY_LOG_COUNT p)).wr (HDR.PARITY_LOG_WORD p) word).wr (HDR.PARITY_LOG_NEW p) 1

/-- REGISTER_PARITY_ERROR: a byte that fails in one copy is restored from the other and recorded; in both, the page gets
a BLOCK reset at once, an event record names page and word, and ERR_CODE reads PARITY; in the shadow, the next commit
is refused until the register is written again (R460). `kind` is 0 one copy, 1 both copies, 2 the shadow. -/
def registerParityError (p : Page) (word : Nat) (kind : Fin 3) (s : State) : State :=
  let s := s.unclean
  if kind = 0 then s.parityLog p word
  else if kind = 1 then
    let s := if p = .saf ∧ s.safState ≠ 1 then s
      else if p = .hkp then
        { (s.resetPage .block p).pulseHeld.wr HKP.HSTAT_ROUND_POS (s.rd HKP.HSTAT_ROUND_POS) with
          hkp.restart := s.hkp.restart ++ [s.now + 1] }
      else s.blockReset p
    ((s.parityLog p word).errCode p PARITY word).event p 255 [word]
  else
    let off := p.base + 4 * word
    { s with shadowBad := off :: s.shadowBad.filter fun w => w != off }.parityLog p word

/-- REGISTER_PARITY_ERROR (R460). -/
def execRegisterParityError (p : Page) (word : Fin 1024) (kind : Fin 3) (s : State) :
    Host.Outcome State Fault Refusal := live s (registerParityError p word.val kind s)

/-! ## The latch of Render (R411, R412) -/

/-- REFRESH_LATCH: the first line of vertical blanking. The commit of RND that was accepted before the instant C takes
hold, the signatures of the refresh that was shown are kept, and the images of the next refresh are chosen; `late` says
that the waiting commit came at or after C, so that it waits for the next latch (R411, R412). -/
def refreshLatch (late : Bool) (s : State) : State :=
  let s := s.latchSigs
  let s := match s.commits.find? fun c => c.page == .rnd && c.due == .refresh with
    | some c => if late then s else s.takeHold c
    | none => s
  s.latchImage

/-- REFRESH_LATCH (R411). -/
def execRefreshLatch (late : Bool) (s : State) : Host.Outcome State Fault Refusal := live s (refreshLatch late s)

/-! ## The clock outputs (R434, R436) -/

/-- Whether the consumer of a clock output runs (R434, R436). -/
def State.consumer (s : State) (o : Nat) : Bool :=
  if o < 16 then s.present (o % 8)
  else if o < 20 then s.headMask != 0
  else match o with
  | 20 | 37 | 38 => true
  | 21 => s.on DST.DSTAT_ARMED || (List.range 4).any fun k => s.on (DST.SCFG_EN k)
  | 22 | 35 | 36 => s.on RND.OUT_EN
  | 32 => s.linkUp
  | 33 => (List.range 4).any fun p => s.on (GSL.PORT_STAT_UP p)
  | 34 => (List.range 16).any fun c => s.on (SAF.CONN_CFG_EN c)
  | 39 => s.boot.ops != []
  | _ => false

/-- The outputs that MEM and RND set: those of SYN3, and output 7 of SYN5 (R436). -/
def outLocked (o : Nat) : Bool := decide (24 ≤ o ∧ o < 32) || o == 47

/-- The output of CLK that a clock domain's clock comes from; none for the crystal, the islands' own oscillators and recovered clocks
(R434, R439). -/
def clockOutput (d : Nat) : Option Nat :=
  if d < 16 then some d
  else if d < 24 then some 19
  else if d < 40 then some (d % 8)
  else if d < 44 then some 16
  else if d < 47 then some 17
  else if d = 47 then some 18
  else if d < 56 then some (d - 24)
  else if d < 59 then some 32
  else if 75 ≤ d ∧ d < 79 then some 33
  else match d with
  | 79 => some 19 | 80 => some 20 | 83 => some 37 | 84 => some 21 | 85 => some 47 | 86 => some 22 | 87 => some 38
  | 90 => some 39 | 96 => some 36 | 98 => some 34 | 99 => some 35
  | _ => none

/-- Whether a clock domain is gated: its head is absent, its consumer idle, or, for a domain of the datapath, the device in PARK
(R439). -/
def State.clockGated (s : State) (d : Nat) : Bool :=
  if d < 40 then !s.present (d % 8) || s.inPark
  else if d < 48 then s.headMask == 0 || s.inPark
  else if 48 ≤ d ∧ d < 56 then !s.on (MEM.STAT_TRAINED (d % 4))
  else if 59 ≤ d ∧ d < 75 then !s.on (GSL.PORT_STAT_UP ((d - 59) / 4))
  else match clockOutput d with
  | some 47 => !s.on RND.OUT_EN
  | some o => !s.consumer o
  | none => false

/-- The refusals of an UPDATE: held values for locked outputs, and values that differ where the consumer runs (R436). -/
def State.updateCodes (s : State) : List (Nat × Nat) :=
  (List.range 48).flatMap fun o =>
    [CLK.OUT_DIV o, CLK.OUT_FDELAY o, CLK.OUT_EN o].flatMap fun f =>
      if Sparse.get s.boot.held f.key (s.rd f) = s.rd f then []
      else if outLocked o then [(CFG_LOCKED, f.word)]
      else if s.consumer o then [(CFG_BUSY, f.word)] else []

/-- CLK_UPDATE: a write of 1 to UPDATE.GO has every held value moved to its output at the next tick boundary, or is
refused (R436). -/
def clkUpdate (ns : Nat) (s : State) : State :=
  if s.inHold then s else
  let r := lowestCode s.updateCodes
  if r.1 ≠ 0 then s.errCode .clk r.1 r.2
  else { s.errCode .clk OK 0 with boot.clkAt := some (s.nextTick ns) }.wr CLK.UPDATE_PENDING 1

/-- CLK_UPDATE (R436). -/
def execClkUpdate (ns : Fin 100000) (s : State) : Host.Outcome State Fault Refusal := live s (clkUpdate ns.val s)

/-- CLK_UPDATE_APPLY: at the tick boundary of the update every held value moves to its output (R436). -/
def clkUpdateApply (s : State) : State :=
  match s.boot.clkAt with
  | some n =>
    if n ≤ s.now then
      let s := { s.applyVals .clk s.boot.held with boot.clkAt := none, boot.held := [] }
      s.wr CLK.UPDATE_PENDING 0
    else s
  | none => s

/-- CLK_UPDATE_APPLY (R436). -/
def execClkUpdateApply (s : State) : Host.Outcome State Fault Refusal := live s (clkUpdateApply s)

end Sys2Proof.Machine
end

