-- ==== Sys2Proof/Machine/Memory.lean ====
section
/-! DEFINITION. The DDR5 channels (R229, R230, R233, R236): population, training, failure and temperature. -/

namespace Sys2Proof.Machine

/-! ## Population and speed (R229) -/

/-- Whether a channel's own DIMMs keep the rule of R229. -/
def dimmGood (d : DimmInfo) : Bool :=
  d.registered && (d.dimms == 1 || d.dimms == 2) && (d.ranks == 1 || d.ranks == 2) && d.check8 && [4, 8, 16, 32, 64].contains d.gib

/-- The DIMMs of a channel in a population. -/
def dimmsOf (pop : List DimmInfo) (c : Nat) : DimmInfo := pop.getD c {}

/-- Whether a channel keeps the population rule: its DIMMs are good, and the same part as those of the lowest good channel,
with its ranks and capacity; each channel holds 1 or 2 of them (R229; log entry 86). -/
def populated (pop : List DimmInfo) (c : Nat) : Bool :=
  let d := dimmsOf pop c
  match ((List.range 4).map fun i => dimmsOf pop i).find? dimmGood with
  | some r => dimmGood d && d.part == r.part && d.ranks == r.ranks && d.gib == r.gib
  | none => false

/-- The grade at which every channel runs (R229). -/
def State.grade (s : State) (pop : List DimmInfo) : Nat :=
  (List.range 4).foldl (fun g c =>
    let d := dimmsOf pop c
    let g := min g (s.rd (MEM.MCFG_SPEED_LIM c))
    if populated pop c then min (min g d.rating) (if d.dimms = 2 then 1 else 2) else g) 2

/-! ## The training record (R230; log entry 87) -/

/-- The part of a training record that names a channel's DIMMs and the grade. -/
def trainEntry (d : DimmInfo) (grade : Nat) : List Byte :=
  leBytes 8 d.serial ++ leBytes 1 d.dimms ++ leBytes 1 grade ++ zeros 6

/-- The body of a training record. -/
def trainBody (pop : List DimmInfo) (grade : Nat) : List Byte :=
  (List.range 4).flatMap fun c => trainEntry (dimmsOf pop c) grade

/-- Whether the selected record matches a channel's DIMMs, their slots and the grade. -/
def State.trainMatch (s : State) (pop : List DimmInfo) (grade c : Nat) : Bool :=
  match s.recSelect 6 with
  | none => false
  | some k => subBytes (s.recBody (copyAt 6 k)) (16 * c) 16 == trainEntry (dimmsOf pop c) grade

/-! ## Channel failure (R236) -/

/-- CHANNEL_FAIL (R236). -/
def execChannelFail (c : Fin 4) (s : State) : Host.Outcome State Fault Refusal :=
  live s (if s.inHold then s else channelFail c s)

/-! ## Training (R230) -/

/-- One channel trained, or declared failed. -/
def State.trainChannel (s : State) (pop : List DimmInfo) (stored ok : Bool) (grade : Nat) (c : Fin 4) : State :=
  let d := dimmsOf pop c.val
  let s := (((s.wr (MEM.STAT_DIMMS c.val) d.dimms).wr (MEM.STAT_RANKS c.val) d.ranks).wr (MEM.STAT_DIMM_GIB c.val) d.gib).wr
    (MEM.STAT_SPEED c.val) grade
  if ok then
    ((s.wr (MEM.STAT_TRAINED c.val) 1).wrB (MEM.STAT_STORED c.val) stored).bitPut CLK.PHY_LOCK_DDR c.val true
  else channelFail c s

/-- DDR_TRAINING_DONE: a channel whose stored record matches trains from it, every other one, and one that fails with it,
in full; a channel that fails in full, or breaks the population rule, is declared failed. SYN3 runs at the grade. A full
training has the record written anew (R229, R230, R434). `withStored` and `inFull` say which channels pass each way. -/
def ddrTrainingDone (pop : List DimmInfo) (withStored inFull : Nat) (s : State) : State :=
  if !s.boot.train then s else
  let g := s.grade pop
  let viaStored (c : Nat) : Bool :=
    populated pop c && s.trainMatch pop g c && !hasBit s.boot.full c && hasBit withStored c
  let viaFull (c : Nat) : Bool := populated pop c && !viaStored c && hasBit inFull c
  let full := (List.range 4).any viaFull
  let gib := ((List.range 4).map fun c => (dimmsOf pop c).dimms * (dimmsOf pop c).gib).sum
  let t := { s with boot.train := false, boot.full := 0 }.wr LTH.MEM_SIZE_MIB (gib * 1024)
  let t := ((t.wr (CLK.SYN_STAT_SLOT 3) g).wr (CLK.SYN_STAT_LOCK 3) 1).wr (CLK.SYN_STAT_BAND 3) (Sparse.get s.boot.bands (48 + g) 0)
  let t := State.each (List.finRange 4) (fun c t =>
    t.trainChannel pop (viaStored c.val) (viaStored c.val || viaFull c.val) g c) t
  let t := t.showDomains
  if full && !t.flashBusy .mem then t.flashAsk { src := .mem, area := 6, body := trainBody pop g } else t

/-- DDR_TRAINING_DONE (R230). -/
def execDdrTrainingDone (pop : List DimmInfo) (withStored inFull : BitVec 4) (s : State) :
    Host.Outcome State Fault Refusal := live s (ddrTrainingDone pop withStored.toNat inFull.toNat s)

/-! ## Temperature (R233) -/

/-- The highest of a list of temperatures. -/
def hottest : List Int → Option Int
  | [] => none
  | a :: t => match hottest t with
    | some b => some (max a b)
    | none => some a

/-- DIMM_TEMP_POLL: each channel shows its hottest DIMM, doubles the refresh above 85 °C, and above 95 °C raises TEMP with
an event record (R233). -/
def dimmTempPoll (temps : List (List Int)) (s : State) : State :=
  if s.inHold then s else
  State.each (List.finRange 4) (fun c s =>
    match hottest (temps.getD c.val []) with
    | none => s
    | some t =>
      let s := (s.wrI (MEM.DTEMP_TEMP c.val) t).wrB (MEM.DTEMP_REF2X c.val) (decide (85 < t))
      if 95 < t then (s.irq (.mem c) 2).event (.mem c) 2 [unsgn 32 t] else s) s

/-- DIMM_TEMP_POLL (R233). -/
def execDimmTempPoll (temps : List (List Int)) (s : State) : Host.Outcome State Fault Refusal := live s (dimmTempPoll temps s)

end Sys2Proof.Machine
end

