-- ==== Sys2Proof/Machine/Startup.lean ====
section
/-! DEFINITION. Start-up and the power states (R422 to R446, R467), the thermal shutdown (R257, R258), and the roles of a twin pair as they change (R315, R322 to R332). -/

namespace Sys2Proof.Machine

/-! ## Objects in flash (R428 to R433) -/

/-- The offset of a firmware image: 0 firmware A, 1 firmware B (R427). -/
def fwAt (slot : Nat) : Nat := (flashBase (2 + slot)).1

/-- Whether a firmware image is valid: its LEN fits, MAGIC and CRC check (R428, R431). -/
def State.fwValid (s : State) (slot : Nat) : Bool :=
  let a := fwAt slot
  decide (s.recLen a + 64 ≤ 0x800000) && u32 (s.fldN a 4) 0 == 0x5746535A &&
  u32 (s.fldN (a + 16) 4) 0 == recordCrc (s.fldN a 64) (s.recBody a)

/-- The schedule image in flash, IMG_LEN bytes, where its header checks (R33, R39). -/
def State.flashImage (s : State) : Option (List Byte) :=
  let n := hdrLen (s.fldN 0x1200000 12)
  if imgStep1 1 n n true ≠ 0 then none else
  let img := s.fldN 0x1200000 n
  if imgStep2 img ≠ 0 then none else some img

/-- A measurement of an object, or of the empty string with sequence 0xFFFFFFFF where it is absent or invalid (R433). -/
def State.measureObj (s : State) (mr kind slot : Nat) (obj : Option (Nat × List Byte)) : State :=
  match obj with
  | some (seq, b) => s.measure mr kind slot seq (sha384 b)
  | none => s.measure mr kind slot 0xFFFFFFFF (sha384 [])

/-- A firmware image as it is measured: with its header. -/
def State.fwObject (s : State) (slot : Nat) : Option (Nat × List Byte) :=
  if s.fwValid slot then some (s.recSeq (fwAt slot), s.fldN (fwAt slot) (64 + s.recLen (fwAt slot))) else none

/-- The measurements of the boot ROM in their order, once the firmware image to start is chosen (R433). -/
def State.measureAll (s : State) (started : Bool) : State :=
  let fw := s.rd CTL.BOOT_STAT_FW_SLOT
  let s := s.measure 1 4 0 0 ((List.range 48).map Config.romDigest)
  let s := s.measureObj 2 1 fw (if started then s.fwObject fw else none)
  let s := s.measureObj 3 1 (1 - fw) (s.fwObject (1 - fw))
  let s := match s.recSelect 1 with
    | some c => s.measureObj 4 2 c (some (s.recSeq (copyAt 1 c), s.fldN (copyAt 1 c) (64 + s.recLen (copyAt 1 c))))
    | none => s.measureObj 4 2 0 none
  s.measureObj 5 3 0 (s.flashImage.map fun b => (hdrImgSeq b, b))

/-- An absent record's event record (R429). -/
def State.recordAbsent (s : State) (area : Nat) : State :=
  if (s.recSelect area).isNone then s.event .ctl 255 [area] else s

/-! ## The band codes (R435; log entry 88) -/

/-- The body of the BAND record: for each synthesiser times 16 plus slot whether a code is held, and the code. -/
def State.bandBody (s : State) : List Byte :=
  (List.range 96).flatMap fun k => match s.boot.bands.find? fun e => e.1 == k with
    | some e => leBytes 1 1 ++ leBytes 1 e.2
    | none => zeros 2

/-- The band codes read from the BAND record into AON. -/
def State.readBands (s : State) : State :=
  match s.recSelect 0 with
  | none => s
  | some c =>
    let b := s.recBody (copyAt 0 c)
    { s with boot.bands := (List.range 96).filterMap fun k => if u8 b (2 * k) = 1 then some (k, u8 b (2 * k + 1)) else none }

/-- Whether a slot of a synthesiser holds a code, and the code. -/
def State.bandCode (s : State) (y : Nat) : Option Nat :=
  (s.boot.bands.find? fun e => e.1 == 16 * y + s.rd (CLK.SYN_STAT_SLOT y)).map fun e => e.2

/-- SYNTH_LOCK: a synthesiser locks with its stored band code, or with a code that a full search found, which is stored in
its slot; the BAND record is rewritten at most once per boot (R435). -/
def synthLock (y : Fin 6) (stored : Bool) (code : Nat) (s : State) : State :=
  if s.on TIM.XTAL_STAT_FAIL || s.inHold then s else
  let k := 16 * y.val + s.rd (CLK.SYN_STAT_SLOT y.val)
  match s.bandCode y.val, stored with
  | some c, true =>
    ((s.wr (CLK.SYN_STAT_LOCK y.val) 1).wr (CLK.SYN_STAT_STORED y.val) 1).wr (CLK.SYN_STAT_BAND y.val) c
  | _, _ =>
    let s := { s with boot.bands := Sparse.put s.boot.bands k code }
    let s := ((s.wr (CLK.SYN_STAT_LOCK y.val) 1).wr (CLK.SYN_STAT_STORED y.val) 0).wr (CLK.SYN_STAT_BAND y.val) code
    if s.boot.bandWritten then s else
      { s with boot.bandWritten := true }.flashAsk { src := .band, area := 0, body := s.bandBody }

/-- SYNTH_LOCK (R435). -/
def execSynthLock (y : Fin 6) (stored : Bool) (code : BitVec 8) (s : State) : Host.Outcome State Fault Refusal :=
  live s (synthLock y stored code.toNat s)

/-- SYNTH_LOCK_LOSS: a synthesiser, or with a number from 6 on the DDR5, CXL, Gosia or DisplayPort PHY, loses lock
(R448). -/
def synthLockLoss (k : Nat) (s : State) : State :=
  let s := if k < 6 then s.wr (CLK.SYN_STAT_LOCK k) 0
    else if k < 10 then channelFail (Fin.ofNat 4 (k - 6)) (s.bitPut CLK.PHY_LOCK_DDR (k - 6) false)
    else if k = 10 then s.wr CLK.PHY_LOCK_CXL 0
    else if k < 15 then s.bitPut CLK.PHY_LOCK_GOSIA (k - 11) false
    else s.wr CLK.PHY_LOCK_DP 0
  s.irq .clk 0

/-- SYNTH_LOCK_LOSS (R448). -/
def execSynthLockLoss (k : Fin 16) (s : State) : Host.Outcome State Fault Refusal :=
  live s (if s.inHold then s else synthLockLoss k.val s)

/-! ## The boot ROM (R423, R429 to R433) -/

/-- A new nonce of the maker test lock, which is random (R445, R450). -/
def State.newNonce (s : State) : State :=
  let a := s.freeVal
  let s := s.freeNext
  let b := s.freeVal
  (s.freeNext.wr SEC.MT_NONCE_LO_NONCE a).wr SEC.MT_NONCE_HI_NONCE b

/-- Boot fails: STAGE 7, and the device stays in PARK with the islands in START, their outputs off (R431, R432). -/
def State.bootFail (s : State) : State := (s.wr CTL.BOOT_STAT_STAGE 7).wr PWR.STATE_STATE 1

/-- SPEED_LIM of every channel as the configuration header gives it (R430). -/
def State.putSpeed (s : State) (v : Nat) : State := State.each (List.range 4) (fun c s => s.wr (MEM.MCFG_SPEED_LIM c) v) s

/-- The configuration copy selected, and the AON fields of its header: all of them at POR, SPEED_LIM alone at WARM (R429,
R430). -/
def State.readConfig (s : State) (atPor : Bool) : State :=
  match s.recSelect 1 with
  | none => ((s.putSpeed s.boot.speed).wr CTL.BOOT_STAT_CFG_DEFAULT 1).irq .ctl 2
  | some c =>
    let h := s.fldN (copyAt 1 c) 64
    let v := u8 h 0x18 % 4
    let s := { s with boot.speed := v }.putSpeed v |>.wr CTL.BOOT_STAT_CFG_COPY c
    if atPor then
      let s := { s with boot.fwSel := u8 h 0x14 % 2 }
      let s := (s.wr TWN.CFG_TWIN_EN (u8 h 0x15 % 2)).wr TWN.CFG_START_ROLE (u8 h 0x15 / 2 % 2)
      s.wr GSL.IDENT_DOMAIN_ID (u16 h 0x16)
    else s

/-- The firmware image started: the one FW_SEL names, counted in BOOT_TRY, or the other one; with neither the boot fails.
Also whether one was started (R431). -/
def State.startFirmware (s : State) : State × Bool :=
  let a := s.boot.fwSel
  if s.fwValid a && decide (s.rd CTL.BOOT_STAT_BOOT_TRY < 3) then
    ((s.wr CTL.BOOT_STAT_FW_SLOT a).satInc CTL.BOOT_STAT_BOOT_TRY, true)
  else if s.fwValid (1 - a) then
    (((s.wr CTL.BOOT_STAT_FW_SLOT (1 - a)).wr CTL.BOOT_STAT_FALLBACK 1).irq .ctl 2, true)
  else ((s.wr CTL.BOOT_STAT_FW_SLOT a).bootFail, false)

/-- What POR and WARM do alike once the flash can be read: header fields, absent records, the calibration copy at POR,
memory training and Primer, the code book's check, and the firmware started and measured (R423, R425). -/
def State.bootRom (s : State) (atPor bookOk : Bool) : State :=
  let s := if atPor then s.readBands else s
  let s := s.readConfig atPor
  let s := s.wr STP.DOMAIN_ID (s.rd GSL.IDENT_DOMAIN_ID)
  let s := State.each [0, 5, 1, 6, 7, 8] (fun a s => s.recordAbsent a) s
  let s := if atPor then s.calLoad else s
  let s := { s.showAllSources.bookCheck bookOk with boot.train := true }.primerStart
  let r := s.startFirmware
  r.1.measureAll r.2

/-- The running flash operation ended by a loss of power (R428, R467). -/
def State.flashLost (s : State) : State :=
  match s.boot.ops with
  | [] => s
  | o :: _ => s.flashCut o

/-- What a loss of power leaves: the flash, and what the device keeps of its outside; the event log's pointer is found again
by scanning the log (R433, R444). -/
def State.powerless (s : State) : State :=
  let f := s.flashLost
  let t : State := { pending := s.pending, flash := f.flash, free := s.free, out := s.out }
  t.wr CTL.LOG_PTR_OFS (s.rd CTL.LOG_PTR_OFS)

/-- POR: the power-on reset is released. `flashReady` says whether the flash reports no operation in progress in time, `slow`
that it offers no 8D-8D-8D, and `bookOk` that the code book's digest agrees; the straps come with it (R422, R423, R432). -/
def por (twnpos : Bool) (boardVar : Nat) (flashReady slow bookOk : Bool) (s : State) : State :=
  let s := s.powerless
  let s := ((s.wrB TWN.STAT_POS twnpos).wr GSL.IDENT_BOARD_VAR boardVar).wr TIM.XTAL_STAT_RUN 1
  let s := ((s.wrB CAP.STRAPS_TWNPOS twnpos).wr CAP.STRAPS_GSLVAR boardVar).showEps.holdEps.newNonce
  let s := State.each (List.finRange 4) (fun p s => s.portWant p) s
  let s := s.wrB CTL.BOOT_STAT_FLASH_SLOW slow
  (if flashReady then s.bootRom true bookOk else s.bootFail).showDomains

/-- POR (R422). It acts after a thermal shutdown as well. -/
def execPor (twnpos : Bool) (boardVar : Fin 16) (flashReady slow bookOk : Bool) (s : State) :
    Host.Outcome State Fault Refusal := .next (por twnpos boardVar.val flashReady slow bookOk s)

/-- SUPPLY_FAULT: a monitored supply out of tolerance applies POR; while the thermal latch is set only VDD and VDD33, `main`,
are monitored. POR is held until its release, and until then the device does nothing (R466, R467). -/
def supplyFault (main : Bool) (s : State) : State :=
  if s.latched && !main then s else { s.powerless with dark := true }

/-- SUPPLY_FAULT (R467). It acts after a thermal shutdown as well. -/
def execSupplyFault (main : Bool) (s : State) : Host.Outcome State Fault Refusal := .next (supplyFault main s)

/-! ## WARM (R425, R442) -/

/-- Fields that show what runs on over WARM and TAKEOVER: straps and the level of DP_HPD, the crystal, ticks, frame timestamps and the
clock discipline (R420, R438, R444; log entry 84). -/
def runningFields : List Fld :=
  strapFields ++ [RND.LINK_STAT_HPD, SCD.TICK_POS_TICK, SCD.TICK_POS_FRAME, TIM.XTAL_STAT_RUN, TIM.FRAME_TS_FRAC_FRAC, TIM.FRAME_TS_SEC_SEC,
    TIM.DSTAT_STATE, TIM.DSTAT_TRUSTED, TIM.DSTAT_HOLD_S, TIM.OFFSET_THETA, TIM.STEER_G]

/-- The measurement registers, the count of the log and the nonce of the maker test lock, which change at POR and WARM only and so stand
over TAKEOVER (R324, R433, R445; log entry 169). -/
def measuredFields : List Fld :=
  [SEC.LOG_CNT_COUNT, SEC.MT_NONCE_LO_NONCE, SEC.MT_NONCE_HI_NONCE] ++
  (List.range 5).flatMap fun i => (List.range 12).map fun n => SEC.MR_W (i + 1) n

/-- Every page and every engine at reset but for what a reset keeps: the AON copy and its tables, what runs on, the flash
queue, the twin monitor, decoders and MSI-X (R444). -/
def State.deviceReset (s : State) (k : ResetKind) : State :=
  let s0 := s
  let s := State.each Page.all (fun p s => s.resetPage k p) s
  let s := s.putBack s0 (if k = .takeover then runningFields ++ measuredFields else runningFields)
  let s := s.dropDatapath.hostDrop.safStart
  let tabs : Tabs := { s.tabs with coef := [] }
  { s with
    scd := {}, hkp := {}, dst := {}, rnd := {}, gsl := {}, tabs := tabs, tabsOld := tabs, tabsAt := s.now, commits := [],
    resets := [], tdc := { src := s.tdc.src.map fun e => (e.1, 1) }, tim.syncAt := [],
    cal := { marks := s.cal.marks, stored := s.cal.stored, aonTicks := s.cal.aonTicks },
    boot := { s.boot with clkAt := none, held := [], cert := [], mism := [], train := false, measured := false } }

/-- The flash operations at a WARM: a running page program is held until it ends, so an event entry stands; a record is left
incomplete, and the other requests go (R432; log entry 89). -/
def State.warmFlash (s : State) : State :=
  let s := match s.boot.ops with
    | [] => s
    | o :: _ => if o.area = 9 then s.logWrite o.body else s.flashCut o
  { s with boot.ops := [], flq := [] }

/-- The role after a WARM, which keeps it: a device in FAILED after a permanent stop is in HOLD again, one in SHADOW boots as SHADOW; one
whose transient stop is followed by a partner that is Topcoat enters SHADOW; any other shows its role until it chooses at the first
frame boundary at which it is ready (R314, R315, R329, R330; log entry 90). -/
def State.warmRole (s : State) : State :=
  if !s.twinEn then s
  else if s.role = 5 ∧ s.on TWN.CAUSE_PERMANENT then s.enterHold 5
  else
    let s := { s with twn.chosen := false, twn.readyAt := none, twn.quietAt := none, twn.grant := none, twn.released := false,
                      twn.stopDue := none, twn.swap := false, twn.takeAt := none, twn.relinq := false, twn.ckptOk := false,
                      twn.ckptCnt := 0, twn.ckptHdr := [] }
    if s.role = 3 then { s with twn.chosen := true }
    else if s.role = 5 ∧ s.portPresent = true ∧ (s.twn.msg.any fun m => m.role == 1) = true then
      { s with twn.chosen := true }.wr TWN.STAT_ROLE 3
    else s

/-- WARM: every domain but PD00 is reset and boot proceeds (R425, R442); while the thermal latch is set, and after a crystal
failure, nothing (R329, R442). `program` says whether a page program ran (R432). -/
def warm (program flashReady slow bookOk : Bool) (s : State) : State :=
  if s.latched || s.on TIM.XTAL_STAT_FAIL then s else
  let s := s.stopTopcoat 2 false
  let full := (List.range 4).foldl (fun m c => if s.on (MEM.MCFG_FULL_TRAIN c) then setBit m c else m) 0
  let held := program && !s.boot.ops.isEmpty
  let s := s.warmFlash.ckptAbandon.deviceReset .warm
  let s := { s with host := {}, boot.full := full, boot.log := [], boot.bandWritten := false, boot.upAt := s.now }
  let s := State.each (List.finRange 4) (fun p s => s.portWant p) s
  let s := ((s.wr PWR.RESET_CAUSE_WARM 1).wrB CTL.FLASH_STAT_HELD held).newNonce.showEps.holdEps
  let s := s.wrB CTL.BOOT_STAT_FLASH_SLOW slow
  (if flashReady then s.bootRom false bookOk else s.bootFail).warmRole.showDomains

/-- WARM (R442). -/
def execWarm (program flashReady slow bookOk : Bool) (s : State) : Host.Outcome State Fault Refusal :=
  live s (warm program flashReady slow bookOk s)

/-- AUTO_WARM: 10 ms after a transient stop the twin monitor applies WARM, when CTRL.AUTO_WARM is set (R329). -/
def autoWarm (program flashReady slow bookOk : Bool) (s : State) : State :=
  if s.twinEn && s.role == 5 && s.on TWN.CTRL_AUTO_WARM && !s.on TWN.CAUSE_PERMANENT &&
      (s.twn.quietAt.any fun t => decide (t + 100 ≤ s.now)) then
    warm program flashReady slow bookOk s
  else s

/-- AUTO_WARM (R329). -/
def execAutoWarm (program flashReady slow bookOk : Bool) (s : State) : Host.Outcome State Fault Refusal :=
  live s (autoWarm program flashReady slow bookOk s)

/-! ## The control complex (R431, R443, R445) -/

/-- BOOT_OK: firmware confirms its start, which clears BOOT_TRY (R431). -/
def bootOk (s : State) : State := s.wr CTL.BOOT_STAT_BOOT_TRY 0

/-- BOOT_OK (R431). -/
def execBootOk (s : State) : Host.Outcome State Fault Refusal := onPage .ctl s (bootOk s)

/-- LOCKSTEP_MISMATCH: both cores restart and firmware renews the lease, unless its image in SRAM fails its CRC, `reload`, so
that it is read from flash again; a third mismatch within 10 s holds the control complex, which is no restart (R443; DEDUCED, log
entry 170). -/
def lockstepMismatch (reload : Bool) (s : State) : State :=
  if s.inHold || s.on CTL.LOCKSTEP_HELD then s else
  let near := s.boot.mism.filter fun t => decide (s.now < t + 100000)
  let held := decide (2 ≤ near.length)
  let s := { s with boot.mism := (s.now :: near).take 3 }.wrB CTL.LOCKSTEP_HELD held
  let s := if held then s else s.satInc CTL.LOCKSTEP_RESTARTS
  let s := if held || reload then s else leaseRenew s
  (s.irq .ctl 1).event .ctl 1 [s.word .ctl 0x1005C]

/-- LOCKSTEP_MISMATCH (R443). -/
def execLockstepMismatch (reload : Bool) (s : State) : Host.Outcome State Fault Refusal := live s (lockstepMismatch reload s)

/-- Whether the maker test modes may be unlocked: PARK, and both islands in CONFIG or FAULT_W (R445). -/
def State.unlockable (s : State) : Bool := s.inPark && (s.safState == 1 || s.safState == 3)

/-- MT_PORT: the next word of an unlock certificate. With its last word the certificate is verified; where it holds and the
device may be unlocked, the maker test modes open with PD49 on and every output of the islands off; otherwise FAILS counts
(R445; log entry 59). -/
def mtPort (w : Nat) (s : State) : State :=
  if s.inHold then s else
  let cert := s.boot.cert ++ [w]
  if cert.length < Config.unlockWords then { s with boot.cert := cert } else
  let s := { s with boot.cert := [] }
  let nonce := s.rd SEC.MT_NONCE_LO_NONCE + 2 ^ 32 * s.rd SEC.MT_NONCE_HI_NONCE
  if s.unlockable && Config.unlocks nonce cert then
    let s := (s.wr SEC.MT_STAT_UNLOCKED 1).showDomains.safOff
    s.event .sec 255 [s.word .sec 0x140054]
  else s.satInc SEC.MT_STAT_FAILS

/-- MT_PORT (R445). -/
def execMtPort (w : BitVec 32) (s : State) : Host.Outcome State Fault Refusal := onPage .sec s (mtPort w.toNat s)

/-- MT_LOCK: the maker test modes are locked again, and a new nonce is drawn (R445). -/
def mtLock (s : State) : State :=
  if s.inHold then s else ({ s with boot.cert := [] }.wr SEC.MT_STAT_UNLOCKED 0).newNonce.showDomains

/-- MT_LOCK (R445). -/
def execMtLock (s : State) : Host.Outcome State Fault Refusal := onPage .sec s (mtLock s)

/-! ## Thermal shutdown (R257, R258) -/

/-- SHUTDOWN_OUTPUTS_OFF: 10 µs after the latch every drive, enable and safety output goes off, heartbeats stop and tokens are
released (R257, R329). -/
def shutdownOutputsOff (s : State) : State :=
  if s.hkp.shut ≠ 1 then s else
  let s := { s with hkp.shut := 2, scd.measuring := false, scd.resumeAt := none, scd.stopAt := none }
  let s := State.each (List.range 8) (fun h s => s.wr (EMT.HEAD_STAT_EMITTING h) 0) s
  s.safOff.lowerTokens.stopTopcoat 7 true

/-- SHUTDOWN_OUTPUTS_OFF (R257). -/
def execShutdownOutputsOff (s : State) : Host.Outcome State Fault Refusal := live s (shutdownOutputsOff s)

/-- SHUTDOWN_POWER_OFF: 100 µs after the latch every power domain goes off but PD00, and PD48 while a page program in progress
is held (R257, R258). -/
def shutdownPowerOff (program : Bool) (s : State) : State :=
  if s.hkp.shut ≠ 2 then s else
  let hold := program && !s.boot.ops.isEmpty
  let s := (if hold then s else s.flashLost).dropDatapath
  let s := { s with hkp.shut := 3, dark := true, commits := [], resets := [],
                    boot.ops := if hold then s.boot.ops.take 1 else [] }
  let s := State.each linkFields (fun f s => s.wr f f.reset) s
  let s := State.each (List.range 4) (fun p s => s.wr (GSL.PORT_STAT_UP p) 0) s
  ((s.wrB THM.LATCH_INFO_FLASH_HELD hold).wr PWR.DOM_ON_LO_ON 1).wr PWR.DOM_ON_HI_ON (if hold then 2 ^ 16 else 0)

/-- SHUTDOWN_POWER_OFF (R257). -/
def execShutdownPowerOff (program : Bool) (s : State) : Host.Outcome State Fault Refusal :=
  live s (shutdownPowerOff program s)

/-- FLASH_HOLD_END: PD48 goes off once the program is complete, or after 4 ms. `last` tells that the page held was the last one of its
operation, which is then whole; else a record is left incomplete (R258). -/
def flashHoldEnd (timeout last : Bool) (s : State) : State :=
  if !s.dark then s else
  match s.boot.ops with
  | [] => s
  | o :: _ =>
    let s := if timeout = false ∧ last = true then s.flashPut o else s.flashCut o
    (({ s with boot.ops := [] }.wrB THM.LATCH_INFO_HOLD_TIMEOUT timeout).wr PWR.DOM_ON_HI_ON 0)

/-- FLASH_HOLD_END (R258), the one step of a device gone dark. -/
def execFlashHoldEnd (how : HoldEnd) (s : State) : Host.Outcome State Fault Refusal :=
  .next (flashHoldEnd how.timeout how.last s)

/-! ## Measurement begins (R315, R424) -/

/-- Whether the device could begin to measure: it has an image, Primer has ended, a channel is trained and the islands have
left START (R424). -/
def State.canMeasure (s : State) : Bool :=
  !s.boot.measured && !s.inHold && !s.inPark && s.rd CTL.BOOT_STAT_STAGE != 7 &&
  s.headMask != 0 && s.cal.primer.isNone && ((List.range 4).any fun c => s.on (MEM.STAT_TRAINED c)) && s.safState != 0 &&
  !s.on TIM.XTAL_STAT_FAIL

/-- Whether the device could measure from the frame boundary that has just come; frame 0 of the tick generator is none
(R424). -/
def State.readyToMeasure (s : State) : Bool := s.tick == 0 && s.now != 0 && s.canMeasure

/-- FIRST_MEASUREMENT: measurement begins, in a pair as TOPCOAT or in SHADOW; a device in SHADOW has seeded its contexts from
the newest checkpoint and read its attach block; reach ramps start at index 0 (R65, R325, R330, R356, R424). -/
def firstMeasurement (pull : Pull) (s : State) : State :=
  if !s.readyToMeasure || (s.twinEn && s.role != 1 && s.role != 3) then s else
  let s := if s.twinEn && s.role == 3 then (s.ckptPull pull).attach pull.attach false else s
  let s := { s with boot.measured := true }.wr CTL.BOOT_STAT_STAGE 3
  (State.each s.heads (fun h s => (s.rampJoin h).effIdx h) s).startMeasuring s.now

/-- FIRST_MEASUREMENT (R424). -/
def execFirstMeasurement (pull : Pull) (s : State) : Host.Outcome State Fault Refusal := live s (firstMeasurement pull s)

/-- Tokens of every head of the image raised, and what the latches grant: all of them, or none is kept (R315, R323). -/
def State.raiseTokens (s : State) (grants : Nat) : State × Bool :=
  if s.barred then (s, false) else
  let s := (s.wr TWN.TOKENS_REQ s.headMask).wr TWN.TOKENS_GRANT (grants &&& s.headMask)
  if s.rd TWN.TOKENS_GRANT = s.headMask then (s, true) else (s.lowerTokens, false)

/-- ROLE_CHOICE: at the first frame boundary at which it is ready a device of a pair takes its role: UNDERCOAT beside a
Topcoat, or SHADOW after a transient stop of its own; TOPCOAT with every token granted; UNDERCOAT otherwise (R315, R330).
`grants` says which latches grant. -/
def roleChoice (grants : Nat) (s : State) : State :=
  if !s.twinEn || s.twn.chosen || s.latched || !s.readyToMeasure then s else
  let s := { s with twn.chosen := true, twn.readyAt := some s.now }
  if s.role = 2 then s.enterHold 2
  else if s.portPresent && (s.twn.msg.any fun m => m.role == 1) then
    if s.rd TWN.CAUSE_CODE != 0 && s.rd TWN.CAUSE_CODE != 8 && !s.on TWN.CAUSE_PERMANENT then s.wr TWN.STAT_ROLE 3
    else s.enterHold 2
  else if s.on TWN.CFG_START_ROLE then s.enterHold 2
  else
    let r := s.raiseTokens grants
    if r.2 then r.1.wr TWN.STAT_ROLE 1 else r.1.enterHold 2

/-- ROLE_CHOICE (R315). -/
def execRoleChoice (grants : BitVec 8) (s : State) : Host.Outcome State Fault Refusal := live s (roleChoice grants.toNat s)

/-! ## Out of HOLD (R324, R331, R332, R441) -/

/-- The domains of the retained configuration powered up from HOLD: pages and engines at reset, the retention store and the
AON copy restored, islands in START, memory training from its record, ports training, and lane runs pending (R324, R444). -/
def State.wake (s : State) : State :=
  let epoch := s.rd GSL.EPOCH_CUR
  let link := linkFields.map fun f => (f, s.rd f)
  let s := (s.deviceReset .takeover).restore
  let s := State.each link (fun e s => s.wr e.1 e.2) s
  let s := (if s.rd CXL0.LINK_STAT_STATE = 1 then s.wr CXL0.LINK_STAT_STATE 0 else s).wr GSL.EPOCH_CUR epoch
  let s := (s.wr STP.DOMAIN_ID (s.rd GSL.IDENT_DOMAIN_ID)).bookCheck true
  let s := ((s.wr STP.KEY_STAT_CHECK (keyCheck s.keyBytes)).wr PWR.STATE_STATE 0).wr CTL.BOOT_STAT_FW_SLOT s.twn.ret.fw
  let s := { s.wr CTL.BOOT_STAT_STAGE 2 with boot.train := true, host.evq := [], host.evSeq := 0 }
  let s := State.rndCommitted (s.wr RND.OUT_EN 0) s
  let s := State.each (List.finRange 4) (fun p s => s.portWant p) s
  let s := State.each s.heads (fun h s => s.makePending h 4 0) s
  (leaseRenew s).showEps.holdEps.showAllSources.showDomains

/-- START_ROLE_TIMEOUT: a device with START_ROLE 1 in UNDERCOAT that has had no beat and no ALIVE edge for 1 s after it was
ready raises its tokens, and is TOPCOAT when all are granted (R315; log entry 91). -/
def startRoleTimeout (grants : Nat) (s : State) : State :=
  let none_ (t : Option Nat) (r : Nat) : Bool := t.all fun t => decide (t < r)
  match s.twn.readyAt with
  | none => s
  | some r =>
    if s.twinEn && !s.latched && s.role == 2 && s.inHold && s.on TWN.CFG_START_ROLE && decide (r + 10000 ≤ s.now) &&
        (none_ s.twn.msgAt r || !(s.twn.msg.any fun m => m.role == 1)) && none_ s.twn.aliveAt r && !s.barred then
      let t := { s with twn.readyAt := none }.wake
      let r := t.raiseTokens grants
      if r.2 then r.1.wr TWN.STAT_ROLE 1 else { s with twn.readyAt := none }
    else s

/-- START_ROLE_TIMEOUT (R315). -/
def execStartRoleTimeout (grants : BitVec 8) (s : State) : Host.Outcome State Fault Refusal :=
  live s (startRoleTimeout grants.toNat s)

/-- ROLE_SWAP: a write of CTRL.SWAP on an UNDERCOAT leaves HOLD and boots to SHADOW; in any other role it is refused with
TWIN_ROLE; once the thermal latch is set nothing does (R256, R332, R333). -/
def roleSwap (s : State) : State :=
  if s.latched then s
  else if s.role = 2 ∧ s.inHold then { s.wake with twn.swap := true }.wr TWN.STAT_ROLE 3
  else s.errCode .twn TWIN_ROLE TWN.CTRL_SWAP.word

/-- ROLE_SWAP (R332). -/
def execRoleSwap (s : State) : Host.Outcome State Fault Refusal := live s (roleSwap s)

/-- Whether an UNDERCOAT decides a takeover: both paths silent for 1 ms, or RELINQUISH received; not while TAKEOVER_INH is set
(R322, R323). -/
def State.takeoverDue (s : State) : Bool :=
  s.twinEn && s.role == 2 && s.inHold && !s.on TWN.CTRL_TAKEOVER_INH && !s.barred &&
  (s.twn.relinq || ((s.twn.msgAt.isSome || s.twn.aliveAt.isSome) && s.silentSince s.twn.msgAt && s.silentSince s.twn.aliveAt))

/-- TAKEOVER: the TAKEOVER reset and the cold start up to the checkpoint pull: role TAKING, the retained configuration, tokens
raised, mirrors driven to the target of the tick, contexts from the newest checkpoint, rings from the attach block. A latch
that refuses sends the device back to UNDERCOAT, its retention store intact (R322 to R325, R356). `ns` is the instant of
decision within the tick. -/
def takeover (ns grants : Nat) (pull : Pull) (s : State) : State :=
  if !s.takeoverDue || s.latched then s else
  let ret := s.twn.ret
  let s := { s with twn.takeAt := some (s.now * 100000 + ns), twn.relinq := false }
  let s := (s.wake.wr TWN.STAT_ROLE 4).wr PWR.RESET_CAUSE_TAKEOVER 1
  let r := s.raiseTokens grants
  let s := r.1
  if !r.2 then
    let s := { s.enterHold 2 with twn.ret := ret, twn.takeAt := none }
    s.wr TWN.EVENTS_DENIED 1
  else
    let s := State.each s.heads (fun h s =>
      (s.putEmt h { s.emtOf h with mir := .run, acc := 0 }).wr (EMT.MIR_DAC_CODE h.val) (dacClamp (s.target h s.tick))) s
    (s.ckptPull pull).attach pull.attach true

/-- TAKEOVER (R322). -/
def execTakeover (ns : Fin 100000) (grants : BitVec 8) (pull : Pull) (s : State) : Host.Outcome State Fault Refusal :=
  live s (takeover ns.val grants.toNat pull s)

/-- What the frame-header record of the frame in progress will report, as far as it is known at its start (R164, R255, R328). -/
def State.newFrame (s : State) : FrameInfo :=
  { frame := s.frame, epoch := s.rd GSL.EPOCH_CUR, domain := s.domainId, heads := s.headMask
    coats := if s.scd.variant then 3 else 4, step := s.rd THM.TSTAT_STEP
    twin := s.twn.twinUntil.any fun n => decide (s.now < n), untrusted := !s.on TIM.DSTAT_TRUSTED
    ts := s.rd TIM.FRAME_TS_SEC_SEC * 2 ^ 32 + s.rd TIM.FRAME_TS_FRAC_FRAC, imgSeq := s.rd SCD.RUN_SEQ_IMG_SEQ
    keyCheck := s.rd STP.KEY_STAT_CHECK, contract := s.rd SCD.RUN_INFO_CONTRACT }

/-- TAKEOVER_RESUME: once its memory is ready the new Topcoat measures from the next tick, with beats and ALIVE, and its
records carry TWIN to the end of the frame after; a header that its partner still owed is written with the first tick
(R53, R324, R326, R328, R333). -/
def takeoverResume (s : State) : State :=
  match s.twn.takeAt with
  | none => s
  | some d =>
    if s.role ≠ 4 ∨ s.boot.train = true ∨ ((List.range 4).any fun c => s.on (MEM.STAT_TRAINED c)) = false then s else
    let n := s.now + 1
    let frame := s.frameOf n
    let behind (m : PartnerMsg) : Bool := let k := (frame + 32767 - m.fhDone) % 32768; decide (1 ≤ k) && decide (k < 16384)
    let owed := s.twn.msg.any behind
    let s := (s.startMeasuring n).switchRings.wr TWN.STAT_ROLE 1
    let s := { s with twn.takeAt := none, twn.quietAt := none, twn.chosen := true, twn.lateHeader := owed,
                      twn.twinUntil := some (n + (512 - s.tickOf n) + 512), boot.measured := true, dst.took := true }
    let now := s.newFrame
    let info : FrameInfo := { now with twin := true }
    let s := { s with ptb.cur := info, ptb.prev := { info with frame := (info.frame + 32767) % 32768, ended := true },
                      ptb.headerAt := if s.tickOf n ≤ 1 then some (n - s.tickOf n + 1) else none }
    let s := (((s.wr TWN.TAKE_INFO_TICK (s.tickOf n)).wr TWN.TAKE_INFO_FRAME frame).wr TWN.TAKE_INFO_DUR
      (min 255 ((n * 100000 - d) / 50000))).wr CTL.BOOT_STAT_STAGE 3
    let s := (leaseRenew s).satInc TWN.COUNT_TAKEOVERS
    let s := if d + 6400000 < n * 100000 then s.wr TWN.EVENTS_LATE 1 else s
    s.eventsAnew.twnEvent TWN.EVENTS_TAKEOVER

/-- TAKEOVER_RESUME (R324). -/
def execTakeoverResume (s : State) : Host.Outcome State Fault Refusal := live s (takeoverResume s)

/-- TAKE_FAIL: a step of the takeover fails: 1 lock, 2 retention, 3 DDR5, 4 islands. Tokens and safety outputs go off, and the
device is FAILED (R326). -/
def takeFail (step : Nat) (s : State) : State :=
  if s.role ≠ 4 then s else
  let s := (s.lowerTokens.safOff.wr TWN.CAUSE_FAIL_STEP step).wr TWN.EVENTS_TAKE_FAIL 1
  { s.enterHold 5 with twn.takeAt := none }

/-- TAKE_FAIL (R326). -/
def execTakeFail (step : Fin 4) (s : State) : Host.Outcome State Fault Refusal := live s (takeFail (step.val + 1) s)

end Sys2Proof.Machine
end

