-- ==== Sys2Proof/Machine/Datapath.lean ====
section
/-! DEFINITION. The datapath of a tick: column measurement windows, the slots of every engine, replay, pulses, and the writes of the point builder with the snapshot boundary (R15, R16, R32, R35, R49, R50, R60, R72, R128 to R139, R162, R164, R227). -/

namespace Sys2Proof.Machine

/-! ## A column measurement window (R60, R70 to R72, R79, R199) -/

/-- The rows enabled in CH_EN of a head (R92). -/
def State.chEn (s : State) (h : Nat) : Nat :=
  (List.range 4).foldl (fun m i => m + s.rd (RFE.CH_EN_EN h i) * 2 ^ (32 * i)) 0

/-- A window that opens: what its measurements take from the settings in force, before any edge (R79, R91, R110, R124, R146,
R183, R271, R272, R328). `lit` names the lines that fire, with the code drawn. -/
def State.newWin (s : State) (h : Head) (window lit : Nat) (code : Option (Nat × List Nat)) : Win :=
  { mtick := s.now, head := h.val, window := window, col := 8 * s.step128 + emitterColumn window, offs := code.map Prod.snd,
    entry := (code.map Prod.fst).getD 0, lit := lit, degr := (s.emtOf h).angBad,
    twin := s.twn.twinUntil.any fun n => decide (s.now < n), dirt := s.on (MSK.DIRT_STAT_ALARM h.val), silent := !s.publishes,
    calage := (s.calOf h).age, wfmage := (s.calOf h).wfmAge, gains := (List.range 8).map fun g => s.rd (RFE.GAIN_G h.val g),
    devOfs := s.rdI CAL.DEV_OFS_OFS, calGen := s.rd (CAL.HSTAT_CAL_GEN h.val), chEn := s.chEn h.val,
    cut := if window = 7 then min s.stepCut (if s.rfeSwitches h then 15984 else 16000) else 16000
    eps := s.tim.eps, effIdx := s.rd (EMT.REACH_STAT_EFF_IDX h.val), frame := s.frame, tick := s.tick,
    epoch := s.rd GSL.EPOCH_CUR, emptyEn := s.on PTB.PCFG_EMPTY_EN,
    set := s.settings, plain := s.hkp.plain }

/-- The lines of a head that light a window: those it fires, or in SHADOW, where the partner fires, the enabled ones of a
window with a code (R70 to R72, R330). -/
def State.windowLines (s : State) (h : Head) (window : Nat) (code : Bool) : Nat :=
  if s.role = 3 then
    if code && s.colFree h (emitterColumn window) && !s.on TIM.XTAL_STAT_FAIL then s.lines h else 0
  else s.firingLines h (emitterColumn window) code

/-- An excursion in a window of the tick in progress; what is left of it at the end of the window goes on in the next one, at once
where that has opened, else when it opens; `n` bounds the windows (R90, R94, R101, R396). -/
def State.takePulse (s : State) (n : Nat) (h : Head) (row : Fin 128) (window : Fin 8) (x : Excursion) (was : Bool × Bool) : State :=
  match n with
  | 0 => s
  | n + 1 =>
    if (s.winAt h.val window.val).isNone then s else
    let t := State.watchPulse s h row.val window.val x was (pulse h row window x was s)
    let rest := restOf x
    if rest.te = [] then t else
    let is := openAtEnd (pulsesIn x was)
    if window.val < 7 && (t.winAt h.val (window.val + 1)).isSome then t.takePulse n h row (window + 1) rest is
    else { t with carry := t.carry ++ [(h.val, row, 8 * t.now + window.val + 1, rest, is.1, is.2)] }

/-- The excursions that were open at the end of the window before enter the window that has opened (R101). -/
def State.carryIn (h : Head) (window : Nat) (s : State) : State :=
  let n := 8 * s.now + window
  let mine := s.carry.filter fun e => e.1 == h.val && e.2.2.1 == n
  let s := { s with carry := s.carry.filter fun e => e.1 != h.val || decide (n < e.2.2.1) }
  State.each mine (fun e s => s.takePulse 8 h e.2.1 (Fin.ofNat 8 window) e.2.2.2.1 e.2.2.2.2) s

/-- One head's window: the checks before it, its shots, and the captures of its lanes; an engine whose entry of the window is not
worked does none of its part (R30, R52, R60, R69 to R72, R199). -/
def State.openWindow (s : State) (h : Head) (window : Nat) (hsRb lsRb : Bool) (tap : Nat → List Sample) : State :=
  let s0 := s
  let s := s.supplyToken h hsRb lsRb
  let s := if s.role = 3 then s else s.aelCheck h
  let code := s.codeFor h.val window
  let lit := if s.windowIdle h.val 0 window then 0 else s.windowLines h window code.isSome
  let s := s.fire h (emitterColumn window) (if s.role = 3 then 0 else lit) ((code.map Prod.snd).getD [])
  let w := s.newWin h window lit code
  let w := if s.windowIdle h.val 1 window then { w with chEn := 0 } else w
  let w := if s.windowIdle h.val 2 window then w else s.capture h w tap
  let s := { s with wins := s.wins ++ [w], ptb.coatMeas := setBit s.ptb.coatMeas h.val }.powerLanes h w
  State.carryIn h window (State.watchBlank s0 h window s)

/-- The analog samples of a row of a head among those a window brings. -/
def tapOf (taps : List (Nat × Nat × List Sample)) (h row : Nat) : List Sample :=
  ((taps.find? fun t => t.1 == h && t.2.1 == row).map fun t => t.2.2).getD []

/-- The samples of the held lanes in a window, kept for the end of the tick (R214). -/
def State.holdTaps (s : State) (window : Nat) (taps : List (Nat × Nat × List Sample)) : State :=
  State.each ((List.finRange 8).filter fun h => s.on (WFL.HOLD_EN h.val)) (fun h s =>
    let new := (tapOf taps h (s.rd (WFL.HOLD_ROW h.val))).map fun (x : Sample) => { x with n := x.n + window * winSmp }
    s.putWfl h { s.wflOf h with held := (s.wflOf h).held ++ new }) s

/-- COLUMN_WINDOW_START: each head that measures the window fires its column's shots, and its converters and lanes listen; a
head that does not measure it did not fire in it (R84 `HEAD_STAT.EMITTING`). The command brings the readbacks of the two emitter enables and the analog samples at the head's taps (R12, R60, R71, R193). -/
def columnWindowStart (window : Nat) (hsRb lsRb : Bool) (taps : List (Nat × Nat × List Sample)) (s : State) : State :=
  let s := State.each (List.finRange 8) (fun h s =>
    if (s.winAt h.val window).isSome then s
    else if (s.measured h.val).contains window && !s.twn.released then s.openWindow h window hsRb lsRb (tapOf taps h.val)
    else s.wr (EMT.HEAD_STAT_EMITTING h.val) 0) (s.tapEnded window)
  s.holdTaps window taps

/-- COLUMN_WINDOW_START (R60). -/
def execColumnWindowStart (window : Fin 8) (hsRb lsRb : Bool) (taps : List (Nat × Nat × List Sample)) (s : State) :
    Host.Outcome State Fault Refusal := live s (columnWindowStart window.val hsRb lsRb taps s)

/-- PULSE, with what Dust Sheet watches of it (R90, R396). -/
def execPulse (h : Head) (row : Fin 128) (window : Fin 8) (x : Excursion) (s : State) : Host.Outcome State Fault Refusal :=
  live s (s.takePulse 8 h row window x (false, false))

/-! ## Errors of a unit (R49, R51, R52) -/

/-- The lane that a unit's entry names in an engine, in the tick in which the unit is first worked there (R35, R49). -/
def State.firstLane (s : State) (e : Nat) (u : WorkUnit) : Option Nat :=
  let n := u.mtick + (if e = 9 then 2 else 1)
  let variant := if s.now ≤ n + s.tick then s.scd.variant else s.lth.variantPrev
  let part := s.partFor u.head u.mtick
  let l := partSlots part (partTableOf part (variant && hdrContract s.scd.runHdr != 1) (s.tickOf n)) e
  (l.find? fun x => x.kind == 0 && x.window == u.window && x.group == u.group && x.head == u.head).map Slot.lane

/-- Whether replays of a lane run on the spare alone, which then has its whole capacity free (R51). -/
def State.onSpare (s : State) (e lane : Nat) : Bool :=
  match laneGroup e lane with
  | some g => s.on (SCD.LANE_MAP_PENDING g) && s.rd (SCD.LANE_MAP_FAULTY g) == lane
  | none => false

/-- Whether the group of a lane still has an unused spare, on which a replay runs beside its own lane (R49). -/
def State.spareFree (s : State) (e lane : Nat) : Bool :=
  match laneGroup e lane with
  | some g => !(s.on (SCD.LANE_MAP_PENDING g) || s.on (SCD.LANE_MAP_REMAPPED g) || s.on (SCD.LANE_MAP_EXHAUSTED g))
  | none => false

/-- A parity error of a unit noted, and its lane declared faulty where the unit has erred there in the tick before too (R51, R52). -/
def State.laneError (s : State) (e lane : Nat) (u : WorkUnit) : State :=
  let again := s.scd.errsPrev.any fun x => x.1 == e && x.2.1 == lane && x.2.2 == u
  let s := { s with scd.errs := s.scd.errs ++ [(e, lane, u)] }.unclean
  if again then s.laneFail e lane else s

/-- A unit marked for replay from an engine, or from the earlier of two (R49). -/
def State.markUnit (s : State) (e lane : Nat) (u : WorkUnit) : State :=
  if s.scd.marks.any fun r => r.wu == u then
    { s with scd.marks := s.scd.marks.map fun r => if r.wu = u ∧ e < r.engine then { r with engine := e, lane := lane } else r }
  else { s with scd.marks := s.scd.marks ++ [{ wu := u, engine := e, lane := lane, errTick := s.now }] }

/-- A parity error in an engine on a unit of the tick in progress: the unit is marked for replay, and the islands wait for its
replayed pass (R49, R286). -/
def State.unitError (s : State) (e : Nat) (u : WorkUnit) : State :=
  match s.unitEntry e u with
  | none => s
  | some x =>
    let s := s.markUnit e x.2.lane u
    (if e ≤ 8 then s.forgetUnit u else s).laneError e x.2.lane u

/-- A parity error in an engine on a unit that is replayed in the tick: made good where it is the failed engine's and the group's
unused spare runs beside it; else the unit, whose edges leave the capture ring, is dropped (R49; log entry 150). -/
def State.replayError (s : State) (e : Nat) (u : WorkUnit) : State :=
  match s.scd.replays.find? fun r => r.wu == u with
  | none => s
  | some r =>
    if e < r.engine then s else
    let lane := if r.engine = e then r.lane else (s.firstLane e u).getD 0
    let good := r.engine = e ∧ s.spareFree e lane = true
    let s := if good then s else s.replayDrop (fun x => x.wu == u) e lane
    s.laneError e lane u

/-- A parity error in an engine on a unit, in its own pass or in its replay. -/
def State.engineError (s : State) (e : Nat) (u : WorkUnit) (replay : Bool) : State :=
  if replay then s.replayError e u else s.unitError e u

/-- ENGINE_PARITY_ERROR: a parity error in an engine from Scrim to Lath on a unit that it works in the tick in progress, or, with
`replay`, that it works again; the other engines have no replay, and their errors are their own chapters' (R49, R51, R52). -/
def engineParityError (e h window group : Nat) (replay : Bool) (s : State) : State :=
  if e < 4 ∨ 9 < e then s else
  let here (u : WorkUnit) : Bool := u.head == h && u.window == window && u.group == group
  if replay then
    match s.scd.replays.find? fun r => here r.wu with
    | none => s
    | some r => s.replayError e r.wu
  else s.unitError e { head := h, window := window, group := group, mtick := s.unitTick e }

/-- ENGINE_PARITY_ERROR (R49). -/
def execEngineParityError (e : Fin 15) (h : Head) (window : Fin 8) (err : UnitError) (s : State) :
    Host.Outcome State Fault Refusal :=
  live s (engineParityError e.val h.val window.val err.group.val err.replay s)

/-! ## The slots of Scrim and Skim (R128 to R139) -/

/-- A measurement's new ambient average and floor (R136, R137). -/
def State.skimOf (s : State) (u : WorkUnit) (w : Win) (i : Nat) : Nat × Nat :=
  let row := 16 * u.group + i
  let m := w.row row
  let src := s.sourceImage u.mtick (s.ctxOf u i)
  let a := skimNew (u16 src 8) (!imgValid src) m.outCnt (s.regions w row).outLen (w.rd (SKM.SKCFG_ALPHA u.head))
    (w.rd (SKM.SKCFG_SUN_RATE u.head))
  (a, w.floorS a)

/-- SCRIM_SEARCH of one row: its candidates, with the bins whose count is a fault (R129, R131 to R135). -/
def State.scrimRow (s : State) (u : WorkUnit) (w : Win) (i : Nat) : MeasRow × Nat × Bool :=
  let row := 16 * u.group + i
  let m := w.row row
  let l := row / 4
  let vs := allVotes m.pulses (w.offs.getD []) l
  let sf := (s.skimOf u w i).2
  let thresh := w.rd (SCM.CAND_THRESH u.head)
  let t := w.tEff sf
  let ps := candidates vs t thresh (bMin (s.stopWin u.head u.mtick 0 l).1 l)
  let faults := ((vs.map Vote.bin).eraseDups.filter fun b => decide (8 < binCount vs b)).length
  ({ m with scrim := some (bestFour ps), tEff := t, overflow := decide (4 < ps.length)
            blind := decide (8 < sf + w.rd (SCM.CAND_MARGIN u.head)) }, faults, decide (4 < ps.length))

/-- The SCM slot of a unit: searched measurements, OVF_CNT once for each measurement, AMBIG requests, and a bin count above 8 as a
parity error of the unit (R129 to R135, R141, R205). -/
def State.scrimUnit (s : State) (u : WorkUnit) : State :=
  let s := State.each (List.range 16) (fun i s =>
    match s.winOf u with
    | none => s
    | some w =>
      let row := 16 * u.group + i
      if !w.worked row then s else
      let r := s.scrimRow u w i
      let s := s.putWin (w.upd row fun _ => r.1)
      let s := if r.2.2 && !(w.row row).overflow then s.satInc SCM.OVF_CNT_COUNT else s
      let s := if w.on (SCM.CAND_AMBIG_EN u.head) && (r.1.scrim.getD []).any Peak.ambig then
          if hh : u.head < 8 then s.ambigRequest ⟨u.head, hh⟩ row u.window u.mtick else s
        else s
      if r.2.1 = 0 then s else
        let s := s.satAdd SCM.SCM_STAT_BIN_FAULT r.2.1
        s.engineError 4 u (s.scd.replays.any fun r => r.wu == u)) s
  (s.tapHists u).watchAmbig u

/-- The SKM slot of a unit: average, floor and SUN of each worked measurement (R136 to R138, R142). -/
def State.skimUnit (s : State) (u : WorkUnit) : State :=
  State.each (List.range 16) (fun i s =>
    match s.winOf u with
    | none => s
    | some w =>
      let row := 16 * u.group + i
      if !w.worked row then s else
      let r := s.skimOf u w i
      let sun := decide (w.rd (SKM.SKCFG_SUN_RATE u.head) < r.1)
      let first := (w.row row).skim.isNone
      let s := s.putWin (w.upd row fun m => { m with skim := some r, sun := sun })
      let n := if sun && first then s.stp.sunCnt + 1 else s.stp.sunCnt
      { s with stp.sunCnt := n, stp.maxS := max s.stp.maxS r.2 }) s

/-! ## Slots (R35, R482) -/

/-- The work of a processing engine on a unit: Scrim, Skim, Float, Masking, the point builder; none on a unit that is dropped
(R35). -/
def State.workUnit (s : State) (e : Nat) (u : WorkUnit) : State :=
  if (s.winOf u).any fun w => hasBit w.dropped u.group then s
  else if e = 4 then s.scrimUnit u
  else if e = 5 then s.skimUnit u
  else if e = 6 then s.floatUnit u
  else if e = 7 then (s.maskUnit u).watchMask u
  else if e = 8 then s.ptbUnit u
  else s

/-- A KIND 0 entry of an engine's list for the measurements of tick `m`, unless it is not worked. -/
def State.slotAt (s : State) (p e i m : Nat) : Option Slot :=
  ((s.entries p e m)[i]?).filter fun x => x.kind == 0 && !s.idleSlot p e i x

/-- The unit that an entry names, for the measurements of tick `m`. -/
def Slot.unit (x : Slot) (m : Nat) : WorkUnit := { head := x.head, window := x.window, group := x.group, mtick := m }

/-- The state as the slots that prepare the next tick see it: where the first measurement comes with the next tick, that tick
counts as measured (R222, R424, R482). -/
def State.foresee (s : State) : State :=
  if s.tick == 511 && s.canMeasure && !(s.twinEn && (s.role == 2 || (s.twn.chosen && (s.role == 4 || s.role == 5)))) then
    { s with scd.resumeAt := some (s.now + 1) }
  else s

/-- The STP slot: an entry of WINDOW j - 1 draws window j of the tick, one of WINDOW 7 window 0 of the next tick, each from the
partition of the tick it draws for (R42, R122, R482). -/
def State.stpSlot (s : State) (p i : Nat) (bookFails : Bool) : State :=
  let s := { s with scd.done := s.scd.done ++ [(p, 3, i)] }
  let s := match s.slotAt p 3 i s.now with
    | some x => if hh : x.head < 8 then
        if x.window < 7 && (s.measured x.head).contains (x.window + 1) then s.codeDraw ⟨x.head, hh⟩ s.now (x.window + 1) bookFails
        else s
      else s
    | none => s
  match s.slotAt p 3 i (s.now + 1) with
  | some x => if hh : x.head < 8 then
      if x.window = 7 ∧ s.foresee.measuredNext x.head 0 = true then s.codeDraw ⟨x.head, hh⟩ (s.now + 1) 0 bookFails else s
    else s
  | none => s

/-- The LTH slot of an entry: the unit of the next tick is read into the cache, and the unit measured two ticks ago, or late
three, is written back, each under its own partition; the contexts of a unit that is replayed in the tick, or will be in the next,
go back after the replay (R16, R42, R49, R221, R224, R225). -/
def State.lthSlot (s : State) (p i : Nat) (flips : List Flip) (fails : List ImageFail) : State :=
  let s := { s with scd.done := s.scd.done ++ [(p, 9, i)] }
  let s := match s.slotAt p 9 i (s.now + 1) with
    | some x =>
      let t := s.foresee.prefetch x.head x.window x.group flips
      { t with scd.resumeAt := s.scd.resumeAt }
    | none => s
  match s.slotAt p 9 i (s.now - 2) with
  | some x =>
    let us := [x.unit (s.now - 3), x.unit (s.now - 2)].filter fun u => !(s.scd.replays ++ s.scd.marks).any fun r => r.wu == u
    State.each us (fun u s => s.writeback u fails) s
  | none => s

/-- A slot of a processing engine or an island: the unit of the tick before is worked once, and the entry counts as done; a unit that
an engine before does not work is left. Skim and Masking read the contexts of the unit, and an image that fails its parity in the
cache by then counts from there on (R35, R47, R224, R226, R482). -/
def State.unitSlot (s : State) (p e i : Nat) (fails : List ImageFail) : State :=
  match s.slotAt p e i (s.now - 1) with
  | none => s
  | some x =>
    let u := x.unit (s.now - 1)
    if s.scd.done.contains (p, e, i) || !s.workable e u then s else
    let s := { s with scd.done := s.scd.done ++ [(p, e, i)] }
    let s := if e = 5 ∨ e = 7 then s.cacheFail u fails else s
    if e = 11 then s.safUnit u (x.lane == 1) else s.workUnit e u

/-- WORK_UNIT_SLOT: entry `i` of an engine's list in a partition activates its lane. Emission, converters and lanes act with
the window they serve; DDR, DST, RND and CAL entries only reserve bursts or cycles. `bookFails`, `flips` and `fails`
bring what the reads of the slot met (R35, R122, R124, R226, R231). -/
def workUnitSlot (p e i : Nat) (bookFails : Bool) (flips : List Flip) (fails : List ImageFail) (s : State) : State :=
  if e = 3 then s.stpSlot p i bookFails
  else if e = 9 then s.lthSlot p i flips fails
  else if (4 ≤ e ∧ e ≤ 8) ∨ e = 11 then s.unitSlot p e i fails
  else s

/-- WORK_UNIT_SLOT (R35). -/
def execWorkUnitSlot (p : Fin 9) (e : Fin 15) (i : Nat) (bookFails : Bool) (reads : SlotReads) (s : State) :
    Host.Outcome State Fault Refusal := live s ((workUnitSlot p.val e.val i bookFails reads.flips reads.fails s).channelsOver s.memErrs)

/-! ## Replay (R49 to R51) -/

/-- The lanes whose reserve a replay uses: the failed engine's own lane, and those of every engine after it (R49, R50). -/
def State.replayLanes (s : State) (r : ReplayMark) : List (Nat × Nat) :=
  ([4, 5, 6, 7, 8, 9].filter fun e => decide (r.engine ≤ e)).filterMap fun e =>
    let lane := if e = r.engine then some r.lane else s.firstLane e r.wu
    lane.bind fun k => if s.onSpare e k then none else some (e, k)

/-- The replays that fit: at most 8 in the device, and on each lane what its reserve holds, in the order of their errors
(R50). -/
def State.admitted (s : State) : List ReplayMark :=
  (s.scd.replays.foldl (fun (acc : List ReplayMark × List (Nat × Nat)) r =>
    let lanes := s.replayLanes r
    if acc.1.length < 8 ∧ (lanes.all fun k => decide ((acc.2.filter fun x => x == k).length < replayPerLane k.1)) then
      (acc.1 ++ [r], acc.2 ++ lanes)
    else acc) ([], [])).1

/-- A unit's results from an engine on taken back, so that its replay works from what stood before; a replay of the point builder
alone writes what Masking has left. A measurement that had been decomposed is refined again, from its edges alone, whichever engine
failed (R28, R49, R213; DEDUCED, log entry 152). -/
def MeasRow.rewind (m : MeasRow) (e : Nat) : MeasRow :=
  let e := if (m.flt.getD []).any Ret.wfm then min e 6 else e
  { m with
    scrim := if e ≤ 4 then none else m.scrim
    rets := if e ≤ 6 then none else if e = 7 then m.flt else m.rets
    masked := if e ≤ 7 then false else m.masked }

/-- A unit re-executed in the failed engine and in every engine after it, and in both islands; the point builder's part follows with
its late records; its contexts go back when the tick closes. A unit that lacks its entry in one of those engines is dropped (R16,
R49, R162, R286, R482). -/
def State.replayUnit (s : State) (r : ReplayMark) : State :=
  let u := r.wu
  if [4, 5, 6, 7, 8].any fun e => decide (r.engine ≤ e) && (s.firstLane e u).isNone then s.dropCounted [u] else
  let s := match s.winOf u with
    | none => s
    | some w =>
      let w := ((List.range 16).map (16 * u.group + ·)).foldl (fun (w : Win) row => w.upd row fun m => m.rewind r.engine) w
      s.putWin { w with replay := setBit w.replay u.group }
  let s := State.each ([4, 5, 6, 7].filter fun e => decide (min r.engine 6 ≤ e)) (fun e s => s.workUnit e u) s
  if (s.winOf u).any fun w => hasBit w.dropped u.group then s else (s.safUnit u false).safUnit u true

/-- A replay of the tick in progress marked as run, with what its writeback will meet. -/
def State.ranReplay (s : State) (r : ReplayMark) (fails : List ImageFail) : State :=
  { s with scd.replays := s.scd.replays.map fun x => if x = r then { x with ran := true, fails := fails } else x }

/-- UNIT_REPLAY and REPLAY_LIMIT_DROP: a unit marked in the tick before is replayed within the limits, or dropped; an error
of Lath alone leaves only the writeback to be made, and counts in its frame's header too (R16, R49, R50, R164). -/
def unitReplay (h window group : Nat) (fails : List ImageFail) (s : State) : State :=
  match s.scd.replays.find? fun r => r.wu.head == h && r.wu.window == window && r.wu.group == group && !r.ran with
  | none => s
  | some r =>
    if s.admitted.contains r then
      let s := (s.satInc SCD.REPLAY_STAT_REPLAYED).ranReplay r fails
      if r.engine = 9 then s.frameInfo (s.frameOf r.wu.mtick) fun i => { i with replayed := min 65535 (i.replayed + 1) }
      else s.replayUnit { r with ran := true, fails := fails }
    else s.replayDrop (fun x => x == r) r.engine r.lane

/-- UNIT_REPLAY (R49). -/
def execUnitReplay (h : Head) (window group : Fin 8) (fails : List ImageFail) (s : State) : Host.Outcome State Fault Refusal :=
  live s (unitReplay h.val window.val group.val fails s)

/-! ## Tick closure (R47, R48, R482) -/

/-- The 8 units of a window. -/
def windowUnits (h window mtick : Nat) : List WorkUnit :=
  (List.range 8).map fun g => { head := h, window := window, group := g, mtick := mtick }

/-- The windows that the tick should have opened: one whose Trowel entry was skipped or lost its lane, or that was never opened,
drops its units with an overrun of Trowel; one whose TDC entry was, with one of the TDC (R30, R47, R52). -/
def State.closeWindows (s : State) (h : Head) : State :=
  if s.twn.released then s else
  State.each (s.measured h.val) (fun j s =>
    let lane (e : Nat) : Nat := ((s.windowEntry h.val e j).map fun x => x.2.lane).getD 0
    let missed := (s.winAt h.val j).isNone
    let s := if missed then { s with wins := s.wins ++ [s.newWin h j 0 none], ptb.coatMeas := setBit s.ptb.coatMeas h.val } else s
    if missed || s.windowIdle h.val 0 j then s.overrun 0 (lane 0) (windowUnits h.val j s.now)
    else if s.windowIdle h.val 1 j then s.overrun 1 (lane 1) (windowUnits h.val j s.now)
    else s) s

/-- Whether an entry of Stipple, Lath or the islands had work in the tick that ends (R122, R222, R224). -/
def State.hadWork (s : State) (h e : Nat) (x : Slot) : Bool :=
  if e = 3 then if x.window = 7 then s.foresee.measuredNext h 0 else (s.measured h).contains (x.window + 1)
  else if e = 9 then s.lth.cache.any (fun c => c.wu == x.unit (s.now - 2)) ||
    (s.foresee.measuredNext h x.window && !s.lth.cache.any fun c => c.wu == x.unit (s.now + 1))
  else s.unitsToWork.contains (x.unit (s.now - 1))

/-- The lanes of Stipple, Lath and the islands that have not finished their slots: an overrun of each; the code that was not drawn
leaves its window unlit, the context follows R225, and the cell that an island has not seen is unmonitored (R47, R72, R225,
R286). -/
def State.closeLanes (s : State) (h : Head) : State :=
  State.each [3, 9, 11] (fun e s =>
    let m := if e = 3 then s.now else if e = 9 then s.now - 2 else s.now - 1
    let left := (s.entries h.val e m).zipIdx.filter fun x =>
      x.1.kind == 0 && !s.scd.done.contains (h.val, e, x.2) && s.hadWork h.val e x.1
    State.each ((left.map fun x => x.1.lane).eraseDups) (fun lane s => s.overrun e lane []) s) s

/-- The units of the processing engines that are left: each lane left unfinished, for want of a worker too, drops its units with an
overrun; a unit that lacks its entry is dropped without one (R47, R52, R482). -/
def State.closeUnits (s : State) : State :=
  let marked := s.scd.marks.map ReplayMark.wu
  let open_ := (s.unitsToWork.filter fun u => !marked.contains u).filterMap fun u => (s.unfinished u).map fun r => (u, r)
  let lacking := (open_.filter fun x => x.2.2.isNone).map Prod.fst
  let late := open_.filterMap fun x => x.2.2.map fun lane => (x.1, x.2.1, lane)
  let lanes := (late.map fun x => (x.2.1, x.2.2)).eraseDups
  State.each lanes (fun el s =>
    s.overrun el.1 el.2 ((late.filter fun x => (x.2.1, x.2.2) == el).map Prod.fst)) (s.dropCounted lacking)

/-- The replays of the tick: those that have not run are dropped, and the contexts of all of them go back (R16, R47, R49). -/
def State.closeReplays (s : State) : State :=
  let s := State.each (s.scd.replays.filter fun r => !r.ran) (fun r s => s.replayDrop (fun x => x.wu == r.wu) r.engine r.lane) s
  State.each s.scd.replays (fun r s => s.writeback r.wu r.fails) s

/-- TICK_CLOSURE and TICK_OVERRUN: the work left at the last cycle of the tick is dropped, in every engine that has slots in it, and
both islands are told of the units dropped in the tick. DDR, DST, RND and CAL entries only reserve bursts or cycles, and a lane plan
that is not run makes no captures (R30, R47, R48, R52, R482). -/
def State.tickClosure (s : State) : State :=
  let s := s.closeReplays
  let s := (State.each (List.finRange 8) (fun h s => (s.closeLanes h).closeWindows h) s).closeUnits
  s.tellIslands s.scd.dropped

/-! ## Writes of the point builder (R162, R164, R227, R328) -/

/-- POINT_RECORD_WRITE: the records of the tick, and what Dust Sheet takes of them (R162, R390). -/
def execPointRecordWrite (s : State) : Host.Outcome State Fault Refusal := live s (pointRecordWrite s).tapPoints

/-- SNAPSHOT_BOUNDARY: the snapshot window shows the image of the frame before; none where no frame has ended since the datapath
began (R227). -/
def State.snapshot (s : State) : State :=
  if !s.ptb.prev.ended then s else
  let f := (s.frame + 32767) % 32768
  let s := ((s.wr LTH.SNAP_STAT_FRAME f).wr LTH.SNAP_STAT_HALF (f % 2)).wr LTH.SNAP_STAT_VALID 1
  (s.wrapInc LTH.SNAP_SEQ_SEQ).irq .lth 1

/-- The header of a frame that the partner still owed when this device took over: no records, TWIN set, in the ring that this device
has taken (R29, R328). -/
def State.writeOwed (s : State) : State :=
  let keep := s.ptb.prev
  let none_ : FrameInfo := { keep with recs := Vector.replicate 8 0, replayed := 0, dropped := 0, degr := 0, twin := true }
  let t := { s with ptb.prev := none_, twn.lateHeader := false }.writeHeader s.now
  { t with ptb.prev := keep }

/-- FRAME_HEADER_WRITE: at the end of tick 1 of a frame the header record of the frame before is written, with the snapshot
boundary, the checkpoint of a Topcoat, and the end of a handover; a device in SHADOW or FAILED writes no record. A header the old Topcoat
owed is written in the new one's first measurement tick (R164, R227, R320, R328, R330, R331). -/
def frameHeaderWrite (s : State) : State :=
  if s.inHold then s else
  let s := if s.twn.lateHeader ∧ s.scd.measureFrom ≤ s.now then s.writeOwed else s
  if s.tick ≠ 1 ∨ s.ptb.headerAt = some s.now then s else
  let s := { s with ptb.headerAt := some s.now }
  let s := if s.publishes = false ∨ s.ptb.prev.ended = false then s else { s.writeHeader (s.now - 2) with twn.fhDone := s.ptb.prev.frame }
  s.snapshot.ckptStart.handoverEnd

/-- FRAME_HEADER_WRITE (R164). -/
def execFrameHeaderWrite (s : State) : Host.Outcome State Fault Refusal := live s (frameHeaderWrite s)

end Sys2Proof.Machine
end

