-- ==== Sys2Proof/Machine/Bar.lean ====
section
/-! DEFINITION. Accesses to BAR0 (R337, R452 to R463): what a write does to each register and what a read returns, on the paths of CXL.io, the command ring, SMBus and firmware, and the entries that firmware performs at its start (R430). -/

namespace Sys2Proof.Machine

/-! ## Fields of a word -/

/-- What a word written holds for a field. -/
def Fld.of (f : Fld) (v : Nat) : Nat := v / 2 ^ (f.key % 32) % 2 ^ f.width

/-- Whether a field lies in the register at a BAR0 offset. -/
def Fld.here (f : Fld) (off : Nat) : Bool := f.key / 32 == off

/-- The number of an access path (R462 `ACC_ERR.PATH`). -/
def pathNo : Path → Nat
  | .cxlIo => 0 | .ring => 1 | .smbus => 2 | .firmware => 3

/-- A discarded write or a refused read of a path (R452, R462). -/
def State.accErr (s : State) (path : Path) : State :=
  (((s.satInc CAP.ACC_ERR_COUNT).wr CAP.ACC_ERR_PATH (pathNo path)).wr CAP.ACC_ERR_NEW 1).irq .cap 0

/-- Fields that a port serves: a write of one never goes to the field itself (R117, R169, R216, R277, R350, R357, R420). -/
def portField (p : Page) (f : Fld) : Bool :=
  match p with
  | .flt => f == FLT.TBL_DATA_VALUE
  | .wfl h => f == WFL.TBL_DATA_VALUE h.val
  | .cal => f == CAL.TBL_DATA_ROFS
  | .rnd => f == RND.PAL_DATA_RGBA
  | .cxl0 => f == CXL0.ROUTE_DATA_VEC
  | .cxl1 => f == CXL1.CMD_WR_IDX
  | .pwr | .cap | .ctl | .scd | .clk | .hkp | .thm | .saf | .twn | .emt _ | .rfe _ | .tdc _ | .stp | .scm | .skm | .msk | .ptb
  | .lth | .mem _ | .gsl | .tim | .dst | .sec => false

/-- A field's share of a word written, by its access code (R453). -/
def State.fieldWrite (s : State) (f : Fld) (v : Nat) : State :=
  match f.acc with
  | .rw => s.wr f (f.of v)
  | .rws | .rwl | .wos => s.wrSh f (f.of v)
  | .w1c => s.wr f (s.rd f - (s.rd f &&& f.of v))
  | .ro | .wo => s

/-- A word written to the fields of a register that its page tables, the header apart (R453, R460). -/
def State.bodyWrite (s : State) (p : Page) (off v : Nat) : State :=
  let fs := p.fields.filter fun f => f.here off && !portField p f
  let s := State.each fs (fun f s => s.fieldWrite f v) s
  if fs.any fun f => f.acc.shadowed then { s with shadowBad := s.shadowBad.filter fun w => w != off } else s

/-! ## The table ports -/

/-- What the table port of a WFL page names: the coefficient of a custom bank, a slice factor, or a channel's skew; none
outside the table (R216, R217). -/
inductive WflEntry where
  | coef (key : Nat)
  | factor (lane n : Nat)
  | skew (key : Nat)
  | none
  deriving DecidableEq, Repr

/-- The entry at TBL_ADDR of a WFL page (R216). -/
def State.wflEntry (s : State) (h : Nat) : WflEntry :=
  let i := s.rd (WFL.TBL_ADDR_INDEX h)
  match s.rd (WFL.TBL_ADDR_SEL h) with
  | 0 => if i < 384 then .coef (coefKey h 3 i) else .none
  | 1 => if i < 384 then .coef (coefKey h 4 i) else .none
  | 2 => if i < 24 then .factor (s.rd (WFL.TBL_ADDR_LANE h)) i else .none
  | _ => if i < 128 then .skew (h * 128 + i) else .none

/-- What TBL_DATA of a WFL page reads: the live entry, or the shadow's (R216, R453). -/
def State.wflPort (s : State) (h : Head) : Nat :=
  match s.wflEntry h.val with
  | .coef k => unsgn 18 (s.tabView (.wfl h) .coef k)
  | .factor lane n => unsgn 16 (((s.wflOf h).facs.toList.getD lane []).getD n 0)
  | .skew k => unsgn 16 (s.tabView (.wfl h) .skew k)
  | .none => 0

/-- A write of TBL_DATA of a WFL page: the entry is staged; slice factors are read only (R216, R217). -/
def State.wflPortWrite (s : State) (h : Head) (v : Nat) : State :=
  match s.wflEntry h.val with
  | .coef k => s.stageTab (.wfl h) .coef k (sgn 18 v)
  | .factor _ _ => s
  | .skew k => s.stageTab (.wfl h) .skew k (sgn 16 v)
  | .none => s.errCode (.wfl h) CFG_RANGE (WFL.TBL_DATA_VALUE h.val).word

/-- SEL, SUB and INDEX of Float's table port name an entry (R169, R171). -/
def State.fltNamed (s : State) : Bool := fltHas (s.rd FLT.TBL_ADDR_SEL) (s.rd FLT.TBL_ADDR_SUB) (s.rd FLT.TBL_ADDR_INDEX)

/-- The key of the entry at Float's table port. -/
def State.fltAt (s : State) : Nat :=
  fltKey (s.rd FLT.TBL_ADDR_HEAD) (s.rd FLT.TBL_ADDR_SEL) (s.rd FLT.TBL_ADDR_SUB) (s.rd FLT.TBL_ADDR_INDEX)

/-- What TBL_DATA of Float reads: the live entry or the shadow's, 0 where none is named (R169, R171, R453). -/
def State.fltPort (s : State) : Nat :=
  if s.fltNamed then unsgn (fltWidth (s.rd FLT.TBL_ADDR_SEL)).1 (s.tabView .flt .flt s.fltAt) else 0

/-- A write of TBL_DATA of Float (R169, R171). -/
def State.fltPortWrite (s : State) (v : Nat) : State :=
  if s.fltNamed then
    let w := fltWidth (s.rd FLT.TBL_ADDR_SEL)
    s.stageTab .flt .flt s.fltAt (if w.2 then sgn w.1 v else (v % 2 ^ w.1 : Nat))
  else s.errCode .flt CFG_RANGE FLT.TBL_DATA_VALUE.word

/-- The page whose routing ROUTE_SEL selects (R357, R359). -/
def State.routePage (s : State) : Option Page := Page.all.find? fun p => p.base == s.rd CXL0.ROUTE_SEL_PAGE * 4096

/-! ## Registers that act when written -/

/-- A write of CXL[1]: the read indices, of which a write in the last microsecond of a tick counts from the next tick on, and
the doorbell (R346, R350). -/
def State.cxl1Act (s0 : State) (off v ns : Nat) (s : State) : State :=
  if CXL1.CMD_WR_IDX.here off then cmdDoorbell v s
  else match (List.range 10).find? fun n => (rdFld n).here off with
    | some n =>
      if 99000 < ns ∧ (s.host.late.any fun e => e.1 == n) = false then
        { s with host.late := Sparse.put s.host.late n (s0.rd (rdFld n)) }
      else s
    | none => s

/-- A write of SAF beside its fields (R282, R295, R297). -/
def State.safAct (s0 : State) (off v : Nat) (s : State) : State :=
  let one (f : Fld) : Bool := f.here off && f.of v == 1
  let s := if one SAF.MODE_CONFIG then enterConfig s else s
  let s := if one SAF.MODE_STORE then safetyStore s else s
  let s := if SAF.CONFIRM_SCID.here off then confirm v s else s
  let s := if one SAF.FLOAD_GO then floadGo (SAF.FLOAD_FLASH.of v == 1) s else s
  if SAF.EMIT_REQ.here off then
    if SAF.EMIT_REQ.of v = 0 then s.emitDrop else if s0.on SAF.EMIT_REQ then s else emitReq (s.wr SAF.EMIT_REQ 0)
  else s

/-- A write of DST beside its fields (R396, R399, R401). -/
def State.dstAct (off v ns : Nat) (s : State) : State :=
  let one (f : Fld) : Bool := f.here off && f.of v == 1
  let s := if one DST.ARM_STOP then s.disarm else s
  let s := if one DST.ARM_GO then armGo ns s else s
  let s := if one DST.TRIG_CMD_BUS then trigCmdBus (DST.TRIG_CMD_LINE.of v) ns s else s
  if one DST.TRIG_CMD_GO then trigCmdGo ns s else s

/-- A write of RND beside its fields (R408, R420). -/
def State.rndAct (off v : Nat) (s : State) : State :=
  let s := if RND.AUX_CMD_GO.here off && RND.AUX_CMD_GO.of v == 1 then
      if 4 ≤ RND.AUX_CMD_OP.of v then s.errCode .rnd CFG_RANGE RND.AUX_CMD_OP.word
      else auxGo (RND.AUX_CMD_OP.of v) (RND.AUX_CMD_ADDR.of v) (RND.AUX_CMD_LEN.of v) s
    else s
  if RND.PAL_DATA_RGBA.here off then
    s.stageTab .rnd .pal (s.rd RND.PAL_ADDR_INDEX + 256 * s.rd RND.PAL_ADDR_SEL) (v : Nat)
  else s

/-- A write of CXL[0] beside its fields (R351, R357, R359). -/
def State.cxl0Act (off v : Nat) (s : State) : State :=
  if CXL0.ROUTE_SEL_PAGE.here off then
    if s.routePage.isNone then s.errCode .cxl0 CFG_RANGE CXL0.ROUTE_SEL_PAGE.word else s
  else if CXL0.ROUTE_DATA_VEC.here off then
    let n := CXL0.ROUTE_DATA_VEC.of v
    if n < 12 then s.errCode .cxl0 CFG_RANGE CXL0.ROUTE_DATA_VEC.word
    else match s.routePage with
      | some p => { s with host.route := Sparse.set s.host.route (p.base / 4096) n (defaultVec (p.base / 4096)) }
      | none => s
  else s

/-- What a write of a register does beside its fields, by page: the commands that registers give, and the checks of their
chapters. `s0` is the state before the write, `ns` its instant within the tick. -/
def State.act (s0 : State) (p : Page) (off v ns : Nat) (s : State) : State :=
  let one (f : Fld) : Bool := f.here off && f.of v == 1
  match p with
  | .scd =>
    let s := if one SCD.LOAD_GO then schedLoad (SCD.LOAD_PART_MASK.of v) (SCD.LOAD_FLASH.of v == 1) s else s
    let s := if one SCD.LEASE_RENEW then leaseRenew s else s
    if one SCD.LEASE_RESUME then leaseResume ns s else s
  | .emt h => if one (EMT.FAULT_CLR_CLR h.val) then faultClr h ns s else s
  | .tdc h =>
    let s := if (TDC.TBL_ADDR_INTP h.val).here off && decide (135 < (TDC.TBL_ADDR_INTP h.val).of v) then s.errCode p CFG_RANGE (TDC.TBL_ADDR_INTP h.val).word else s
    if one (TDC.EDGE_STAT_CLR h.val) then s.wr (TDC.EDGE_STAT_MAX_FILL h.val) 0 else s
  | .flt =>
    if FLT.TBL_ADDR_SEL.here off then
      if s.fltNamed then s else s.errCode .flt CFG_RANGE FLT.TBL_ADDR_SEL.word
    else if FLT.TBL_DATA_VALUE.here off then s.fltPortWrite v else s
  | .msk =>
    if MSK.CNT_SEL_CLASS.here off && (s.rd MSK.CNT_SEL_CLASS == 0 || decide (8 < s.rd MSK.CNT_SEL_CLASS)) then
      s.errCode .msk CFG_RANGE MSK.CNT_SEL_CLASS.word else s
  | .wfl h =>
    if one (WFL.CAL_CMD_GO h.val) then wflCalGo h ns s
    else if one (WFL.HREQ_GO h.val) then
      hreqWrite h ((WFL.HREQ_ROW h.val).of v) ((WFL.HREQ_COL h.val).of v) ((WFL.HREQ_ANYCOL h.val).of v == 1)
        ((WFL.HREQ_COUNT h.val).of v) ns s
    else if (WFL.TBL_ADDR_SEL h.val).here off then
      match s.wflEntry h.val with
      | .none => s.errCode p CFG_RANGE (WFL.TBL_ADDR_INDEX h.val).word
      | .coef _ | .factor _ _ | .skew _ => s
    else if (WFL.TBL_DATA_VALUE h.val).here off then s.wflPortWrite h v else s
  | .cal =>
    if one CAL.CMD_GO then calCmdGo (CAL.CMD_HEADS.of v) (CAL.CMD_KINDS.of v) ns s
    else if one CAL.STORE_GO then storeGo s
    else if CAL.TBL_DATA_ROFS.here off then
      s.stageTab .cal .rofs (s.rd CAL.TBL_ADDR_HEAD * 128 + s.rd CAL.TBL_ADDR_ROW) (sgn 20 v)
    else s
  | .saf => State.safAct s0 off v s
  | .twn => if one TWN.CTRL_SWAP then roleSwap s else s
  | .cxl0 => s.cxl0Act off v
  | .cxl1 => State.cxl1Act s0 off v ns s
  | .gsl =>
    let s := if one GSL.EPOCH_CTL_BUMP then epochBump s else s
    State.each ((List.finRange 4).filter fun q => one (GSL.PORT_CFG_RETRAIN q.val)) (fun q s =>
      (s.putPort q { s.port q with maxWidth := 4 }).portWant q) s
  | .tim =>
    let s := if one TIM.TOD_ARM_ARM then s.wr TIM.TOD_ARM_ARMED 1 else s
    if one TIM.STEP_GO then timeStepGo s else s
  | .dst => s.dstAct off v ns
  | .rnd => s.rndAct off v
  | .ctl =>
    let s := if one CTL.BOOT_CTL_BOOT_OK then bootOk s else s
    if one CTL.FLASH_CMD_GO then flashCmdGo (CTL.FLASH_CMD_AREA.of v) s else s
  | .clk => if one CLK.UPDATE_GO then clkUpdate ns s else s
  | .pwr =>
    let s := if one PWR.PARK_GO then parkGo s else s
    if one PWR.PARK_EXIT then parkExit ns s else s
  | .sec =>
    let s := if SEC.MT_PORT_DATA.here off then mtPort v s else s
    if one SEC.MT_LOCK_LOCK then mtLock s else s
  | .cap | .hkp | .thm | .rfe _ | .stp | .scm | .skm | .ptb | .lth | .mem _ => s

/-! ## Writes -/

/-- A write of a page's header (R457 to R459); `o` is the offset within the page. -/
def State.headerWrite (s : State) (p : Page) (o v ns : Nat) : State :=
  match o with
  | 0x08 =>
    let s := s.wr (HDR.CTRL_VIEW_SHADOW p) ((HDR.CTRL_VIEW_SHADOW p).of v)
    let s := if (HDR.CTRL_LOCK p).of v = 1 then ctrlLock p s else s
    if (HDR.CTRL_SOFT_RESET p).of v = 1 then softReset p ns s else s
  | 0x10 => irqStatClear p v 0 s
  | 0x14 => (s.wr (HDR.IRQ_EN_EN p) v).pageSignal s p
  | 0x18 => irqForce p v s
  | 0x20 => commit p v ns s
  | 0x24 => s.wr (HDR.COMMIT_AT_AT p) v
  | 0x2C => s.fieldWrite (HDR.PARITY_LOG_NEW p) v
  | _ => s

/-- A write of the MSI-X table: a vector that is unmasked while its pending bit is set sends its message (R351). -/
def State.msixWrite (s : State) (i v : Nat) : State :=
  if i % 4 = 3 then
    let s := { s with host.msix := Sparse.set s.host.msix i (v % 2) 1 }
    if v % 2 = 0 ∧ hasBit s.host.pba (i / 4) = true then
      { s with host.pba := clrBit s.host.pba (i / 4) }.message (i / 4)
    else s
  else { s with host.msix := Sparse.set s.host.msix i v 0 }

/-- A word written at a BAR0 offset, `ns` nanoseconds into the tick: a misaligned write and one of the SMBus port are
discarded and counted; in HOLD the page PWR refuses and every page but CAP and TWN discards (R316, R337, R441, R452). -/
def State.barWrite (s : State) (path : Path) (off v ns : Nat) : State :=
  if off % 4 ≠ 0 ∨ path = .smbus then s.accErr path
  else if 0xE00000 ≤ off ∧ off < 0xE00400 then s.msixWrite ((off - 0xE00000) / 4) v
  else match Page.all.find? fun p => p.base == off / 4096 * 4096 with
    | none => s
    | some p =>
      if s.inHold && p == .pwr then s.errCode .pwr TWIN_ROLE (off % 4096 / 4)
      else if s.inHold && p != .cap && p != .twn then s
      else if off % 4096 < 0x40 then s.headerWrite p (off % 4096) v ns
      else State.act s p off v ns (s.bodyWrite p off v)

/-- REGISTER_WRITE: a write to the register fabric of one register, on a path, `ns` nanoseconds into the tick. -/
def execRegisterWrite (path : Path) (off : BitVec 24) (v : BitVec 32) (ns : Fin 100000) (s : State) :
    Host.Outcome State Fault Refusal := live s (s.barWrite path off.toNat v.toNat ns.val)

/-! ## Reads -/

/-- The power domain whose state CTRL.EN of a page shows (R440, R455). -/
def pageDomain : Page → Nat
  | .cap | .thm | .tim => 0
  | .pwr | .twn => 1
  | .saf => 2
  | .emt h | .rfe h => 4 + h.val
  | .tdc h => 12 + h.val
  | .wfl h => 20 + h.val
  | .stp | .scm | .skm => 28
  | .flt | .msk => 32
  | .ptb => 33
  | .mem c => 34 + c.val
  | .cxl0 | .cxl1 => 38
  | .gsl => 39
  | .ctl => 40
  | .lth => 41
  | .scd | .cal => 42
  | .dst => 43
  | .rnd => 44
  | .hkp => 45
  | .clk => 46
  | .sec => 48

/-- CTRL.EN of a page: its power domain is on; the pages of Stipple, Scrim and Skim lie in four (R440, R458). -/
def State.pageOn (s : State) (p : Page) : Bool :=
  match p with
  | .stp | .scm | .skm => s.domains / 2 ^ 28 % 16 != 0
  | _ => hasBit s.domains (pageDomain p)

/-- STAT.BUSY of a page: an operation that excludes commits runs, which is a command entry on CXL[1] and an open record on DST
(R358, R405; log entry 93). -/
def State.pageBusy (s : State) (p : Page) : Bool :=
  match p with
  | .cxl1 => s.on CXL1.CMD_STAT_BUSY
  | .dst => s.on DST.DSTAT_OPEN
  | _ => false

/-- NEXT_CAP of a page: in HOLD the list is CAP, PWR and TWN (R461). -/
def State.listNext (s : State) (p : Page) : Nat := if s.inHold then p.nextIn [.cap, .pwr, .twn] else p.nextCap

/-- What a read returns of a field (R453). -/
def State.fieldRead (s : State) (p : Page) (f : Fld) : Nat :=
  match f.acc with
  | .wo | .wos => 0
  | .rws | .rwl => if s.on (HDR.CTRL_VIEW_SHADOW p) then s.rdSh f else s.rd f
  | .ro | .rw | .w1c => s.rd f

/-- The fields of a register put together. -/
def State.wordRead (s : State) (p : Page) (off : Nat) : Nat :=
  (p.fields.filter fun f => f.here off && !portField p f).foldl (fun a f => a + s.fieldRead p f * 2 ^ (f.key % 32)) 0

/-- The word of a register that shows something computed: the header's list and status, the table ports, and windows into
other stores; none where the register shows its fields. -/
def State.portRead (s : State) (p : Page) (path : Path) (off : Nat) : Option Nat :=
  if (HDR.NEXT_CAP_OFS p).here off then some (s.listNext p)
  else if (HDR.CTRL_EN p).here off then some (s.wordRead p off + b2n (s.pageOn p))
  else if (HDR.STAT_BUSY p).here off then some (s.wordRead p off + b2n (s.pageBusy p))
  else match p with
  | .cap => if CAP.PAGES_COUNT.here off && s.inHold then some 3 else none
  | .tdc h => if (TDC.TBL_DATA_VALUE h.val).here off then some (tdcPort h.val s) else none
  | .flt => if FLT.TBL_DATA_VALUE.here off then some s.fltPort else none
  | .msk => if MSK.CLS_CNT_COUNT.here off then some s.clsCount else none
  | .wfl h => if (WFL.TBL_DATA_VALUE h.val).here off then some (s.wflPort h) else none
  | .cal => if CAL.TBL_DATA_ROFS.here off then
      some (unsgn 20 (s.tabView .cal .rofs (s.rd CAL.TBL_ADDR_HEAD * 128 + s.rd CAL.TBL_ADDR_ROW))) else none
  | .rnd => if RND.PAL_DATA_RGBA.here off then
      some (s.tabView .rnd .pal (s.rd RND.PAL_ADDR_INDEX + 256 * s.rd RND.PAL_ADDR_SEL)).toNat else none
  | .cxl0 => if CXL0.ROUTE_DATA_VEC.here off then some ((s.routePage.map fun q => s.vecOf (q.base / 4096)).getD 0) else none
  | .sec => if SEC.LOG_DATA_DATA.here off then some s.logWord else none
  | .tim => if TIM.TIME_SEC_SEC.here off then some (s.tim.secCap.toList.getD (pathNo path) 0) else none
  | .dst => ((List.range 4).find? fun k => (DST.WR_HI_IDX k).here off).map fun k =>
      Sparse.get s.dst.wrCap (pathNo path * 4 + k) (s.rd (DST.WR_HI_IDX k))
  | .cxl1 => if CXL1.CMD_WR_IDX.here off then some (s.rd CXL1.CMD_WR_IDX) else none
  | .pwr | .ctl | .scd | .clk | .hkp | .thm | .saf | .twn | .emt _ | .rfe _ | .stp | .scm | .skm | .ptb | .lth | .mem _ | .gsl =>
    none

/-- A read of TIME_FRAC at an instant: domain time is captured for the path (R112, R456). -/
def State.timeFrac (s : State) (path : Path) (ns : Nat) : State × Nat :=
  let t := s.timeAt (s.now * tickSmp + smpOfNs ns)
  let v := s.tim.secCap
  ({ s with tim.secCap := if h : pathNo path < 4 then v.set (pathNo path) (t / 2 ^ 32) else v }, t % 2 ^ 32)

/-- A read of WR_LO of a stream: WR_HI is captured for the path (R405, R456). -/
def State.wrLo (s : State) (path : Path) (k : Nat) : State × Nat :=
  ({ s with dst.wrCap := Sparse.put s.dst.wrCap (pathNo path * 4 + k) (s.rd (DST.WR_HI_IDX k)) }, s.rd (DST.WR_LO_IDX k))

/-- Whether a page answers reads: in HOLD CAP, PWR and TWN, with the thermal latch's shutdown CAP and THM (R316, R455, R463). -/
def State.readable (s : State) (p : Page) : Bool :=
  if s.dark then s.latched && (p == .cap || p == .thm) else s.served p

/-- The word that a read of a 4-byte-aligned BAR0 offset returns, with what it captures: a page not served in HOLD reads
0xFFFFFFFF, one that the shutdown has taken off a free value; the CXL component registers, whose layout is CXL's, read free
values (R112, R316, R337, R452, R456; log entry 94). -/
def State.barRead (s : State) (path : Path) (off ns : Nat) : State × Nat :=
  if 0xF00000 ≤ off ∧ off < 0xF10000 then (s.freeNext, leNat (s.freeBytes 4))
  else if 0xE00000 ≤ off ∧ off < 0xE00400 then (s, s.msixWord ((off - 0xE00000) / 4))
  else if off = 0xE08000 then (s, s.host.pba % 2 ^ 32)
  else if off = 0xE08004 then (s, s.host.pba / 2 ^ 32)
  else match Page.all.find? fun p => p.base == off / 4096 * 4096 with
    | none => (s, 0)
    | some p =>
      if !s.readable p then if s.dark then (s.freeNext, leNat (s.freeBytes 4)) else (s, 0xFFFFFFFF)
      else if TIM.TIME_FRAC_FRAC.here off then s.timeFrac path ns
      else match (List.range 4).find? fun k => (DST.WR_LO_IDX k).here off with
        | some k => s.wrLo path k
        | none => (s, (s.portRead p path off).getD (s.wordRead p off))

/-- TIME_FRAC_READ: a read of TIME_FRAC on a path (R112). -/
def execTimeFracRead (path : Path) (ns : Fin 100000) (s : State) : Host.Outcome State Fault Refusal :=
  let r := s.barRead path 0x110040 ns.val
  live s (r.1.send (.regRead path 0x110040 (leBytes 4 r.2)))

/-- WR_LO_READ: a read of WR_LO of a stream on a path (R405). -/
def execWrLoRead (path : Path) (k : Fin 4) (s : State) : Host.Outcome State Fault Refusal :=
  let off := (DST.WR_LO_IDX k.val).key / 32
  let r := s.barRead path off 0
  live s (r.1.send (.regRead path off (leBytes 4 r.2)))

/-! ## Refused accesses (R452) -/

/-- Whether the device allows an access: a read of 1 to 4 bytes within one register, or of 8 aligned bytes; a write of one
register, or of 8 aligned bytes (R452). -/
def accessAllowed (off len : Nat) (write : Bool) : Bool :=
  (len == 8 && off % 8 == 0) ||
  if write then len == 4 && off % 4 == 0 else decide (1 ≤ len) && decide (off % 4 + len ≤ 4)

/-- REFUSED_ACCESS: an access that the device does not allow is counted; a refused read returns 0 in every byte (R452). One that
it allows is no refused access. -/
def refusedAccess (path : Path) (off len : Nat) (write : Bool) (s : State) : State :=
  if accessAllowed off len write then s
  else if write then s.accErr path
  else (s.accErr path).send (.regRead path off (zeros len))

/-- REFUSED_ACCESS (R452). -/
def execRefusedAccess (path : Path) (off : BitVec 24) (len : Fin 65) (write : Bool) (s : State) :
    Host.Outcome State Fault Refusal := live s (refusedAccess path off.toNat len.val write s)

/-! ## The SMBus port (R463) -/

/-- What the SMBus port does: it serves every power state but OFF, in which no command has an effect, and the thermal latch too
(R463). -/
def State.onSmbus (s : State) (f : State → State) : Host.Outcome State Fault Refusal :=
  .next (if s.dark && !s.latched then s else f s)

/-- SMBUS_SET_OFFSET: the 24-bit BAR0 offset of SMBus reads (R463). -/
def execSmbusSetOffset (off : BitVec 24) (s : State) : Host.Outcome State Fault Refusal :=
  s.onSmbus fun s => { s with host.smbus := off.toNat }

/-- SMBUS_READ: four bytes of the register at the offset, which then advances by 4; an offset that is not aligned answers with a
byte count of 0 and is counted (R463). -/
def smbusRead (ns : Nat) (s : State) : State :=
  if s.host.smbus % 4 ≠ 0 then (s.accErr .smbus).send (.smbus []) else
  let r := s.barRead .smbus s.host.smbus ns
  { r.1 with host.smbus := (s.host.smbus + 4) % 2 ^ 24 }.send (.smbus (leBytes 4 r.2))

/-- SMBUS_READ (R463). It is served after a thermal shutdown as well. -/
def execSmbusRead (ns : Fin 100000) (s : State) : Host.Outcome State Fault Refusal := s.onSmbus (smbusRead ns.val)

/-- SMBUS_OTHER_COMMAND: any other SMBus command answers with a byte count of 0 and is counted (R463). -/
def execSmbusOtherCommand (s : State) : Host.Outcome State Fault Refusal := s.onSmbus fun s => (s.accErr .smbus).send (.smbus [])

/-! ## The entries of the command ring (R349, R350) -/

/-- The page whose COMMIT register lies at an offset (R458). -/
def commitPage (off : Nat) : Option Page := Page.all.find? fun p => p.base + 0x20 == off

/-- One pair of a WRITE entry written, and its RESULT put into the entry (R350). -/
def writePair (ns : Nat) (b : List Byte) (r : State × List Byte) (i : Nat) : State × List Byte :=
  let s := r.1.barWrite .ring (entPair b i).1 (entPair b i).2 ns
  let code := match commitPage (entPair b i).1 with
    | some p => s.rd (HDR.ERR_CODE_CODE p)
    | none => 0
  (s, overlay r.2 (0x13 + 8 * i) (leBytes 1 code))

/-- WRITE: the pairs of the entry are written in order, and each RESULT holds the page's ERR_CODE after a COMMIT write. An entry that
would start less than 3 µs before a tick boundary waits until the boundary has passed: here it stays as it is (R350). -/
def writeEntry (ns : Nat) (s : State) : State :=
  match s.curEntry 1 with
  | none => s
  | some b =>
    if 97000 < ns then s else
    let r := (List.range (u8 b 1)).foldl (writePair ns b) (s, b)
    r.1.entEnd r.2 1

/-- WRITE (R350); an entry performs its writes within one tick, `ns` nanoseconds into it. -/
def execWrite (ns : Fin 100000) (s : State) : Host.Outcome State Fault Refusal := live s (writeEntry ns.val s)

/-- One offset of a READ entry read into its value word (R350). -/
def readPair (ns : Nat) (b : List Byte) (r : State × List Byte) (i : Nat) : State × List Byte :=
  let x := r.1.barRead .ring (entPair b i).1 ns
  (x.1, overlay r.2 (0x14 + 8 * i) (leBytes 4 x.2))

/-- READ: what the offsets read is put into the value words (R350). -/
def readEntry (ns : Nat) (s : State) : State :=
  match s.curEntry 2 with
  | none => s
  | some b =>
    let r := (List.range (u8 b 1)).foldl (readPair ns b) (s, b)
    r.1.entEnd r.2 1

/-- READ (R350). -/
def execRead (ns : Fin 100000) (s : State) : Host.Outcome State Fault Refusal := live s (readEntry ns.val s)

/-! ## A load ends (R39, R319) -/

/-- SCHED_LOAD_DONE: the load in progress ends with its result, and a Topcoat sends its partner what is loaded (R38, R39, R319). -/
def schedLoadDone (flips : List Flip) (s : State) : State :=
  if s.scd.load.isNone then s else
  let s := schedLoadEnd flips s
  let parts := (partsIn (s.rd SCD.LOAD_STAT_LOADED)).map fun p => (p, (s.imgSlot p false).hdr, (s.imgSlot p false).part)
  if s.rd SCD.LOAD_STAT_CODE = 0 then s.mirrorSend (.load parts) else s

/-- SCHED_LOAD_DONE (R39). -/
def execSchedLoadDone (flips : List Flip) (s : State) : Host.Outcome State Fault Refusal :=
  live s ((schedLoadDone flips s).channelsOver s.memErrs)

/-- FLOAD_DONE (R282). -/
def execFloadDone (flips : List Flip) (s : State) : Host.Outcome State Fault Refusal := live s ((floadDone flips s).channelsOver s.memErrs)

/-! ## Firmware (R423, R430) -/

/-- The schedule image of the flash staged in every inactive slot (R38, R423). -/
def State.stageFlashImage (s : State) : State :=
  let s := schedLoad 0x1FF true s
  if s.scd.load.isSome then schedLoadDone [] s else s

/-- One entry of the configuration copy performed as a command-ring WRITE performs its pair: an entry of SAF is rejected with
SAFETY_LOCK; a rejected commit is counted in CFG_REJ with an event record naming its offset (R430). -/
def State.configEntry (s : State) (off v : Nat) : State :=
  if off / 4096 * 4096 = Page.saf.base ∧ 0x40 ≤ off % 4096 then s.errCode .saf SAFETY_LOCK (off % 4096 / 4) else
  let s := s.barWrite .firmware off v 0
  match commitPage off with
  | some p =>
    if v = p.commitKey ∧ s.rd (HDR.ERR_CODE_CODE p) ≠ 0 then
      ((s.satInc CTL.BOOT_STAT_CFG_REJ).irq .ctl 2).event .ctl 2 [off]
    else s
  | none => s

/-- The entries of the configuration copy in force, in order (R430). -/
def State.configApply (s : State) : State :=
  match s.recSelect 1 with
  | none => s
  | some c =>
    let b := s.recBody (copyAt 1 c)
    State.each (List.range (b.length / 8)) (fun i s => s.configEntry (u32 b (8 * i) % 2 ^ 24) (u32 b (8 * i + 4))) s

/-- FIRMWARE_RELEASE: the boot ROM releases the control complex: the schedule image of the flash is staged, firmware renews the
lease and applies the configuration entries (R423, R430, R431). -/
def firmwareRelease (s : State) : State :=
  if s.inHold || s.rd CTL.BOOT_STAT_STAGE != 0 || s.boot.log.isEmpty then s else
  let s := (s.wr CTL.BOOT_STAT_STAGE 1).stageFlashImage
  (leaseRenew s).configApply.wr CTL.BOOT_STAT_STAGE 2

/-- FIRMWARE_RELEASE (R423). -/
def execFirmwareRelease (s : State) : Host.Outcome State Fault Refusal := live s (firmwareRelease s)

end Sys2Proof.Machine
end

