-- ==== Sys2Proof/Machine/Boundary.lean ====
section
/-! DEFINITION. The boundaries of R12: what closes a tick and begins the next, what a coat boundary and a frame boundary apply, and the reset of a SYNC_IN edge. -/

namespace Sys2Proof.Machine

/-- The fields that a commit of the page due at this boundary brings, with their values. -/
def State.brings (s : State) (p : Page) : List (Fld × Nat) :=
  match s.commits.find? fun c => c.page == p with
  | none => []
  | some c =>
    match c.due with
    | .tick n =>
      if n ≤ s.now then c.vals.filterMap fun v => (p.fields.find? fun g => g.key == v.1).map fun g => (g, v.2) else []
    | .window | .refresh => []

/-- The state with the values that a commit of the page due at this boundary brings. -/
def State.with_ (s : State) (p : Page) : State := State.each (s.brings p) (fun v s => s.wr v.1 v.2) s

/-- A part of a tick boundary worked under the values that a commit of the page due at this boundary brings, for both apply to
the first tick after the boundary; the commit itself takes hold right after (R20, R23; log entry 95). -/
def State.under (p : Page) (f : State → State) (s : State) : State :=
  State.each (s.brings p) (fun v t => t.wr v.1 (s.rd v.1)) (f (s.with_ p))

/-- The state under which the tick just begun runs, as far as the image tells: with the swap that takes hold at this boundary, and
with the frame's variant at tick 0 (R23, R42, R254). -/
def State.ahead (s : State) : State :=
  let s := match s.pendingSwap with
    | some (mask, n) =>
      let rest : List PendCommit := s.commits.filter fun c => c.page != Page.scd
      if n ≤ s.now then { s with commits := rest }.swapHold mask else s
    | none => s
  if s.tick = 0 then { s with scd.variant := s.hkp.bndStep == 3 } else s

/-! ## The tick that ends -/

/-- The gate-drive tests of the last tick of a coat, on every head whose Trowel tests in its tails: one that the tick measures or
would measure, with the work for it in its table (R73, R83, R481). -/
def State.gateTests (s : State) (gs : Vector GateTest 8) : State :=
  if s.step128 = 127 ∧ s.scd.measuring = true ∧ s.scd.measureFrom ≤ s.now then
    State.each s.heads (fun h s => if s.shortWork h then s.gateTest h gs[h] else s) s
  else s

/-- Skim's statistics of a coat shown at the end of the tick in which its last measurements were worked, the first tick of the next
coat; a count of 2^20 shows as 0 (R142; DESIGN CHOICE, log entry 160). -/
def State.floorShown (s : State) : State :=
  if s.step128 ≠ 0 then s else
  { (s.wr SKM.SKM_STAT_SUN_CNT s.stp.sunCnt).wr SKM.SKM_STAT_MAX_S s.stp.maxS with stp := {} }

/-- The close of the tick in progress: unfinished work is dropped, the engines' counts are taken, the round position's results
formed, Dust Sheet resolves its triggers, read indices are sampled, the index mirror is written, and AGE counts (R47, R53,
R73, R185, R190, R245, R263, R343, R346, R397). -/
def State.closeTick (s : State) (x : TickIn) : State :=
  let s := (((s.tickClosure.maskCount.rfeAccumulate.trackSums.floorShown).gateTests x.gates).hkpWork x.convs x.rtd).dstTickEnd
  let s := s.sampleRd.mirrorLine
  if s.scd.renewed then { s with scd.renewed := false }
  else s.wr SCD.LEASE_AGE (min 64 (s.rd SCD.LEASE_AGE + 1))

/-- The heads whose contexts start fresh in the frame that begins, and the heads measured in it, none yet; contexts that came
from a checkpoint stand until measurement begins (R222, R325). -/
def State.newContexts (s : State) : State :=
  let fresh := (List.range 8).foldl (fun m h => if s.freshNext h then setBit m h else m) 0
  { s with lth.freshHeads := fresh, lth.used := if s.lth.seeded && !s.scd.measuring then s.lth.used else 0,
           lth.variantPrev := s.scd.variant }

/-- The next tick: domain time, the tick number, and the position in the frame; with tick 0 the frame counter advances (R12,
R110, R111, R375). -/
def State.nextTickStarts (s : State) : State :=
  let t := s.tick
  let s := { s.timeTick.holdEps with now := s.now + 1, cal.aonTicks := s.cal.aonTicks + 1 }
  if t = 511 then (s.wr SCD.TICK_POS_TICK 0).wr SCD.TICK_POS_FRAME (s.frame + 1) else s.wr SCD.TICK_POS_TICK (t + 1)

/-! ## The tick that begins -/

/-- What the engines forget and pass on from tick to tick: entries done, marks that become replays, errors of the tick before,
measurements and codes that have left the pipeline (R15, R49, R51, R225). -/
def State.shiftEngines (s : State) : State :=
  let s := { s with scd.done := [], scd.skips := [], scd.dropped := [], scd.replays := s.scd.marks, scd.marks := [],
                    scd.errsPrev := s.scd.errs, scd.errs := [],
                    wins := s.wins.filter fun w => !decide (w.mtick + 4 ≤ s.now),
                    codes := s.codes.filter fun c => !decide (c.2.1 + 4 ≤ s.now),
                    carry := s.carry.filter fun e => decide (8 * s.now ≤ e.2.2.1) }
  s.abandon

/-- Emission at a tick strobe, under what takes hold at this boundary: the pickups of every present head converted, its servo
updated; and the energy sums of every head, present or not, move on by the tick (R20, R23, R69, R78, R79, R82, R244). -/
def State.emissionTick (s v : State) (x : TickIn) : State :=
  State.each (List.finRange 8) (fun h s =>
    let s := if v.present h then
        let s := s.under .hkp fun s => s.pickup h x.picks[h]
        s.servo (v.with_ (.emt h)) h
      else s
    s.aelTick h) s

/-- The start of a tick: measurement stops or mirrors return where it is due, the engines begin, housekeeping moves on, and the
islands work their strobe (R54, R81, R240, R245, R283, R290, R293, R299, R340, R351, R394, R432). -/
def State.beginTick (s : State) (x : TickIn) : State :=
  let s := s.stopDue.returnDue.shiftEngines
  let s := (s.under .hkp State.hkpStep).throttleNote.frameStep.logPump
  let v := s.ahead
  let s := (((s.beginMeasured v).emissionTick v x).signalHeld.recallTick).under .dst State.dstTickStart
  (s.putReadbacks x.hsRb x.lsRb).safTick

/-- What the twin monitor and the fabric do at a tick start: the latches' levels, beats, ALIVE, a handover's codes, beacons, and
SYNC in tick 2 of a frame (R312, R316 to R318, R331, R372, R376). -/
def State.linksTick (s : State) (x : TickIn) : State :=
  let s := if s.twinEn then s.wr TWN.TOKENS_GRANT x.tokrb.toNat else s
  let s := s.beat.aliveToggle.handoverTick.beacon
  if s.tick = 2 then s.syncSend else s

/-- TICK_BOUNDARY: the tick in progress closes and the next begins. In HOLD only the time base and the twin monitor run; without
its crystal the device has no ticks (R12, R113, R316). -/
def tickBoundary (x : TickIn) (s : State) : State :=
  if s.on TIM.XTAL_STAT_FAIL then s
  else if s.inHold then s.nextTickStarts.linksTick x
  else
    let s := s.closeTick x
    let s := if s.tick = 511 then s.newContexts else s
    (s.nextTickStarts.beginTick x).linksTick x

/-- TICK_BOUNDARY (R12). -/
def execTickBoundary (x : TickIn) (s : State) : Host.Outcome State Fault Refusal := live s (tickBoundary x s)

/-! ## Coat boundary -/

/-- What a coat boundary does for one head: the dirt alarm, background tracking, emission, and calibration (R65 to R70, R74, R103,
R104, R185, R198, R266, R270). `plain` tells of the coat that ends. -/
def State.headAtCoat (s : State) (x : CoatIn) (plain : Bool) (h : Head) : State :=
  let of {α : Type} (l : List (Nat × List α)) : List α := ((l.find? fun e => e.1 == h.val).map Prod.snd).getD []
  (((s.dirtAlarm h).track h).emtAtCoat h).calAtCoat h plain (of x.hits) (of x.relief)

/-- COAT_BOUNDARY, once at the start of every 128 ticks, after the commits due there: heads, lanes, the islands' selection and
scrub, throttle actions, and a relinquish that waited (R12, R51, R52, R254, R282, R283, R329). -/
def coatBoundary (x : CoatIn) (s : State) : State :=
  if s.on TIM.XTAL_STAT_FAIL || s.inHold || s.step128 != 0 || s.coatAt == some s.now then s else
  let empty := s.scd.variant && s.coat == 0
  let s := { s with coatAt := some s.now, ptb.coatMeasPrev := s.ptb.coatMeas, ptb.coatMeas := 0, memErrs := Vector.replicate 4 0 }
  let plain := s.hkp.plain
  let s := State.each (List.finRange 8) (fun h s => s.headAtCoat x plain h) s
  let s := ((s.lanesAtCoat.safCoat empty).tableScrub x.scrub).throttleCoat.calBegins
  s.relinquishDue

/-- COAT_BOUNDARY (R12). -/
def execCoatBoundary (x : CoatIn) (s : State) : Host.Outcome State Fault Refusal := live s (coatBoundary x s)

/-! ## Frame boundary -/

/-- The host bursts of the frame that ends (R235). -/
def State.burstsAtFrame (s : State) : State :=
  let s := State.each (List.finRange 4) (fun c s => s.wr (MEM.HOSTBW_BURSTS c.val) s.host.bursts[c]) s
  { s with host.bursts := Vector.replicate 4 0 }

/-- FRAME_BOUNDARY, once at the start of tick 0, after the commits due there and the coat boundary: the timestamp, variant frames,
rings, host bursts, clean frames of SHADOW, the master, the clock's steering, the epoch, a time step, failed channels, and what
the frame-header record will report (R12, R112, R164, R165, R235, R330, R373, R377, R380, R384, R395). -/
def frameBoundary (s : State) : State :=
  if s.on TIM.XTAL_STAT_FAIL || s.tick != 0 || s.frameAt == some s.now then s else
  let s := { s with frameAt := some s.now }.frameTs
  if s.inHold then s else
  let s := s.throttleFrame.switchRings.burstsAtFrame.shadowFrame
  if s.inHold then s else
  let s := s.elect.disciplineAtFrame.holdEps.epochAtFrame.derivePath.stepAtFrame
  let s := if s.boot.memFail then { s with boot.memFail := false }.dstMemFail else s
  { s with ptb.prev := { s.ptb.cur with ended := true, frame := (s.frame + 32767) % 32768 }, ptb.cur := s.newFrame }

/-- FRAME_BOUNDARY (R12). -/
def execFrameBoundary (s : State) : Host.Outcome State Fault Refusal := live s (frameBoundary s)

/-! ## SYNC_IN (R215, R250, R437) -/

/-- The outputs whose dividers a SYNC_IN edge restarts (R437). -/
def State.syncOutputs (s : State) : List Nat :=
  (List.range 48).filter fun o => if o < 32 then hasBit (s.rd CLK.SYNC_EN0_MASK) o else hasBit (s.rd CLK.SYNC_EN1_MASK) (o - 32)

/-- SYNC_RESET: at the tick boundary that an edge has selected the held lanes' decimators reset and count it, the housekeeping
round restarts, and marked dividers restart (R215, R250, R437). -/
def syncReset (s : State) : State :=
  let due := s.tim.syncAt.filter fun n => decide (n ≤ s.now)
  if due = [] || s.inHold then s else
  let s := s.syncLanes due.length
  let s := if s.rd HKP.HSTAT_ROUND_POS = 0 then s else s.roundRestart true
  let starts := s.syncOutputs.foldl (fun (m : List (Nat × Nat)) o => Sparse.put m o s.now) s.boot.divStart
  { s with tim.syncAt := s.tim.syncAt.filter fun n => !decide (n ≤ s.now), boot.divStart := starts }

/-- SYNC_RESET (R215). -/
def execSyncReset (s : State) : Host.Outcome State Fault Refusal := live s (syncReset s)

end Sys2Proof.Machine
end

