-- ==== Sys2Proof/Machine/Dispatch.lean ====
section
/-! DEFINITION. One arm per command: the meaning of each row of the table of operations. -/

namespace Sys2Proof.Machine

def exec (i : Instr) (s : State) : Host.Outcome State Fault Refusal :=
  match i with
  | .registerWrite path off v ns => Sys2Proof.Machine.execRegisterWrite path off v ns s
  | .refusedAccess path off len write => Sys2Proof.Machine.execRefusedAccess path off len write s
  | .commit p key ns => Sys2Proof.Machine.execCommit p key ns s
  | .commitTakeHold p => Sys2Proof.Machine.execCommitTakeHold p s
  | .softReset p ns => Sys2Proof.Machine.execSoftReset p ns s
  | .softResetTakeHold p => Sys2Proof.Machine.execSoftResetTakeHold p s
  | .ctrlLock p => Sys2Proof.Machine.execCtrlLock p s
  | .irqForce p m => Sys2Proof.Machine.execIrqForce p m s
  | .irqStatClear p m same => Sys2Proof.Machine.execIrqStatClear p m same s
  | .registerParityError p word kind => Sys2Proof.Machine.execRegisterParityError p word kind s
  | .timeFracRead path ns => Sys2Proof.Machine.execTimeFracRead path ns s
  | .wrLoRead path k => Sys2Proof.Machine.execWrLoRead path k s
  | .smbusSetOffset off => Sys2Proof.Machine.execSmbusSetOffset off s
  | .smbusRead ns => Sys2Proof.Machine.execSmbusRead ns s
  | .smbusOtherCommand => Sys2Proof.Machine.execSmbusOtherCommand s
  | .tickBoundary x => Sys2Proof.Machine.execTickBoundary x s
  | .coatBoundary x => Sys2Proof.Machine.execCoatBoundary x s
  | .frameBoundary => Sys2Proof.Machine.execFrameBoundary s
  | .columnWindowStart window hsRb lsRb taps => Sys2Proof.Machine.execColumnWindowStart window hsRb lsRb taps s
  | .workUnitSlot p e idx bookFails reads => Sys2Proof.Machine.execWorkUnitSlot p e idx bookFails reads s
  | .schedLoad mask flash => Sys2Proof.Machine.execSchedLoad mask flash s
  | .schedLoadDone flips => Sys2Proof.Machine.execSchedLoadDone flips s
  | .oldSlotRelease p => Sys2Proof.Machine.execOldSlotRelease p s
  | .leaseRenew => Sys2Proof.Machine.execLeaseRenew s
  | .horizonExpiry => Sys2Proof.Machine.execHorizonExpiry s
  | .leaseResume ns => Sys2Proof.Machine.execLeaseResume ns s
  | .measurementRestart => Sys2Proof.Machine.execMeasurementRestart s
  | .engineParityError e h window err => Sys2Proof.Machine.execEngineParityError e h window err s
  | .unitReplay h window group fails => Sys2Proof.Machine.execUnitReplay h window group fails s
  | .slotParityError p e idx secondFails => Sys2Proof.Machine.execSlotParityError p e idx secondFails s
  | .faultClr h ns => Sys2Proof.Machine.execFaultClr h ns s
  | .mirrorStep h => Sys2Proof.Machine.execMirrorStep h s
  | .mirrorRampStart h => Sys2Proof.Machine.execMirrorRampStart h s
  | .mirrorParkDone h => Sys2Proof.Machine.execMirrorParkDone h s
  | .parkGo => Sys2Proof.Machine.execParkGo s
  | .parkExit ns => Sys2Proof.Machine.execParkExit ns s
  | .pulse h row window x => Sys2Proof.Machine.execPulse h row window x s
  | .rfeSettingsSwitch h => Sys2Proof.Machine.execRfeSettingsSwitch h s
  | .xtalFail => Sys2Proof.Machine.execXtalFail s
  | .pointRecordWrite => Sys2Proof.Machine.execPointRecordWrite s
  | .frameHeaderWrite => Sys2Proof.Machine.execFrameHeaderWrite s
  | .imageReady => Sys2Proof.Machine.execImageReady s
  | .wflCalGo h ns => Sys2Proof.Machine.execWflCalGo h ns s
  | .wflCalStart h => Sys2Proof.Machine.execWflCalStart h s
  | .wflCalEnd h rs ns => Sys2Proof.Machine.execWflCalEnd h rs ns s
  | .capturePlan h => Sys2Proof.Machine.execCapturePlan h s
  | .lanePowerUp h lane => Sys2Proof.Machine.execLanePowerUp h lane s
  | .hreq h row col any count ns => Sys2Proof.Machine.execHreq h row col any count ns s
  | .laneParityError h lane window sample sequencer => Sys2Proof.Machine.execLaneParityError h lane window sample sequencer s
  | .syncInEdge ns => Sys2Proof.Machine.execSyncInEdge ns s
  | .syncReset => Sys2Proof.Machine.execSyncReset s
  | .ddrTrainingDone pop withStored inFull => Sys2Proof.Machine.execDdrTrainingDone pop withStored inFull s
  | .channelFail c => Sys2Proof.Machine.execChannelFail c s
  | .dimmTempPoll temps => Sys2Proof.Machine.execDimmTempPoll temps s
  | .hostMemRead hpa copy flips => Sys2Proof.Machine.execHostMemRead hpa copy flips s
  | .hostMemWrite hpa b => Sys2Proof.Machine.execHostMemWrite hpa b s
  | .rtdOpenLead => Sys2Proof.Machine.execRtdOpenLead s
  | .thermalEvaluation ns => Sys2Proof.Machine.execThermalEvaluation ns s
  | .throttleStepChange => Sys2Proof.Machine.execThrottleStepChange s
  | .shutdownOutputsOff => Sys2Proof.Machine.execShutdownOutputsOff s
  | .shutdownPowerOff program => Sys2Proof.Machine.execShutdownPowerOff program s
  | .flashHoldEnd how => Sys2Proof.Machine.execFlashHoldEnd how s
  | .calCmd heads kinds ns => Sys2Proof.Machine.execCalCmd heads kinds ns s
  | .rfeRunEnd h => Sys2Proof.Machine.execRfeRunEnd h s
  | .skewRunEnd h => Sys2Proof.Machine.execSkewRunEnd h s
  | .calCheck h ns => Sys2Proof.Machine.execCalCheck h ns s
  | .calParityError heads => Sys2Proof.Machine.execCalParityError heads s
  | .store => Sys2Proof.Machine.execStore s
  | .primerEnd rs => Sys2Proof.Machine.execPrimerEnd rs s
  | .fload flash => Sys2Proof.Machine.execFload flash s
  | .floadDone flips => Sys2Proof.Machine.execFloadDone flips s
  | .coatConclusion => Sys2Proof.Machine.execCoatConclusion s
  | .safetyInputSample a b => Sys2Proof.Machine.execSafetyInputSample a b s
  | .ossdTestPulse pair b lows => Sys2Proof.Machine.execOssdTestPulse pair b lows s
  | .emitReq => Sys2Proof.Machine.execEmitReq s
  | .emitCheck offHs offLs onHs onLs => Sys2Proof.Machine.execEmitCheck offHs offLs onHs onLs s
  | .emitFault hs ls => Sys2Proof.Machine.execEmitFault hs ls s
  | .enterConfig => Sys2Proof.Machine.execEnterConfig s
  | .confirm v => Sys2Proof.Machine.execConfirm v s
  | .safetyStore => Sys2Proof.Machine.execSafetyStore s
  | .islandStartEnd selfTest => Sys2Proof.Machine.execIslandStartEnd selfTest s
  | .clockFault => Sys2Proof.Machine.execClockFault s
  | .telegramReceive port b => Sys2Proof.Machine.execTelegramReceive port b s
  | .statusTelegramSend c => Sys2Proof.Machine.execStatusTelegramSend c s
  | .telegramWatchdog c => Sys2Proof.Machine.execTelegramWatchdog c s
  | .twinMessageReceive b item align => Sys2Proof.Machine.execTwinMessageReceive b item align s
  | .aliveEdge h => Sys2Proof.Machine.execAliveEdge h s
  | .pathSilence => Sys2Proof.Machine.execPathSilence s
  | .cfgStoreResend => Sys2Proof.Machine.execCfgStoreResend s
  | .checkpointComplete => Sys2Proof.Machine.execCheckpointComplete s
  | .checkpointAbandon => Sys2Proof.Machine.execCheckpointAbandon s
  | .roleChoice grants => Sys2Proof.Machine.execRoleChoice grants s
  | .takeover ns grants pull => Sys2Proof.Machine.execTakeover ns grants pull s
  | .takeoverResume => Sys2Proof.Machine.execTakeoverResume s
  | .takeFail step => Sys2Proof.Machine.execTakeFail step s
  | .relinquish code => Sys2Proof.Machine.execRelinquish code s
  | .autoWarm program flashReady slow bookOk => Sys2Proof.Machine.execAutoWarm program flashReady slow bookOk s
  | .handoverTokenRelease => Sys2Proof.Machine.execHandoverTokenRelease s
  | .handoverTokenRaise grants => Sys2Proof.Machine.execHandoverTokenRaise grants s
  | .handoverOldStop => Sys2Proof.Machine.execHandoverOldStop s
  | .roleSwap => Sys2Proof.Machine.execRoleSwap s
  | .linkTraining speed width flit256 lopt cxl cache mem => Sys2Proof.Machine.execLinkTraining speed width flit256 lopt cxl cache mem s
  | .linkDown => Sys2Proof.Machine.execLinkDown s
  | .hostReset => Sys2Proof.Machine.execHostReset s
  | .flr => Sys2Proof.Machine.execFlr s
  | .doeSafetyRequest b => Sys2Proof.Machine.execDoeSafetyRequest b s
  | .doeDiscovery inst index => Sys2Proof.Machine.execDoeDiscovery inst index s
  | .cdatRead => Sys2Proof.Machine.execCdatRead s
  | .getVersion => Sys2Proof.Machine.execGetVersion s
  | .getCapabilities => Sys2Proof.Machine.execGetCapabilities s
  | .negotiateAlgorithms offered => Sys2Proof.Machine.execNegotiateAlgorithms offered s
  | .getDigests => Sys2Proof.Machine.execGetDigests s
  | .getCertificate slot off len => Sys2Proof.Machine.execGetCertificate slot off len s
  | .challenge slot => Sys2Proof.Machine.execChallenge slot s
  | .getMeasurements index signed => Sys2Proof.Machine.execGetMeasurements index signed s
  | .keyExchange => Sys2Proof.Machine.execKeyExchange s
  | .finish n good => Sys2Proof.Machine.execFinish n good s
  | .heartbeat n => Sys2Proof.Machine.execHeartbeat n s
  | .keyUpdate n => Sys2Proof.Machine.execKeyUpdate n s
  | .endSession n => Sys2Proof.Machine.execEndSession n s
  | .hdmDecoderCommit idx hpa size dpa ways bi => Sys2Proof.Machine.execHdmDecoderCommit idx hpa size dpa ways bi s
  | .biTimeout line => Sys2Proof.Machine.execBiTimeout line s
  | .hostMemoryError => Sys2Proof.Machine.execHostMemoryError s
  | .eventRecord p bit qual cells args => Sys2Proof.Machine.execEventRecord p bit qual cells args s
  | .eventRingWrite => Sys2Proof.Machine.execEventRingWrite s
  | .cmdDoorbell v => Sys2Proof.Machine.execCmdDoorbell v s
  | .cmdFetch b => Sys2Proof.Machine.execCmdFetch b s
  | .write ns => Sys2Proof.Machine.execWrite ns s
  | .read ns => Sys2Proof.Machine.execRead ns s
  | .wait => Sys2Proof.Machine.execWait s
  | .waitEnd => Sys2Proof.Machine.execWaitEnd s
  | .nop => Sys2Proof.Machine.execNop s
  | .cmdCompletion => Sys2Proof.Machine.execCmdCompletion s
  | .parcelReceive p b => Sys2Proof.Machine.execParcelReceive p b s
  | .parcelReplay p timeout => Sys2Proof.Machine.execParcelReplay p timeout s
  | .portRetrain p lanes => Sys2Proof.Machine.execPortRetrain p lanes s
  | .portDownRetry p lanes => Sys2Proof.Machine.execPortDownRetry p lanes s
  | .laneDrop p lane cause => Sys2Proof.Machine.execLaneDrop p lane cause s
  | .eyeScan p lane height width => Sys2Proof.Machine.execEyeScan p lane height width s
  | .beaconReceive p src hops b => Sys2Proof.Machine.execBeaconReceive p src hops b s
  | .deviceLost id => Sys2Proof.Machine.execDeviceLost id s
  | .syncReceive p t1 t2 t3 t4 asymA => Sys2Proof.Machine.execSyncReceive p t1 t2 t3 t4 asymA s
  | .ppsEdge rising off => Sys2Proof.Machine.execPpsEdge rising off s
  | .todArm => Sys2Proof.Machine.execTodArm s
  | .holdoverEntry => Sys2Proof.Machine.execHoldoverEntry s
  | .timeStep => Sys2Proof.Machine.execTimeStep s
  | .epochBump => Sys2Proof.Machine.execEpochBump s
  | .triggerReceive p src hops b ns => Sys2Proof.Machine.execTriggerReceive p src hops b ns s
  | .trigCmdBus line ns => Sys2Proof.Machine.execTrigCmdBus line ns s
  | .trigCmdGo ns => Sys2Proof.Machine.execTrigCmdGo ns s
  | .armGo ns => Sys2Proof.Machine.execArmGo ns s
  | .armStop => Sys2Proof.Machine.execArmStop s
  | .dstRecordEnd => Sys2Proof.Machine.execDstRecordEnd s
  | .holdoffEnd ns => Sys2Proof.Machine.execHoldoffEnd ns s
  | .captureParcel src b => Sys2Proof.Machine.execCaptureParcel src b s
  | .linkTrainRetry => Sys2Proof.Machine.execLinkTrainRetry s
  | .irqHpd lost => Sys2Proof.Machine.execIrqHpd lost s
  | .hpdLoss => Sys2Proof.Machine.execHpdLoss s
  | .hpdReturn => Sys2Proof.Machine.execHpdReturn s
  | .auxNativeRead addr len => Sys2Proof.Machine.execAuxNativeRead addr len s
  | .auxNativeWrite addr len => Sys2Proof.Machine.execAuxNativeWrite addr len s
  | .auxI2cRead addr len => Sys2Proof.Machine.execAuxI2cRead addr len s
  | .auxI2cWrite addr len => Sys2Proof.Machine.execAuxI2cWrite addr len s
  | .auxComplete code b => Sys2Proof.Machine.execAuxComplete code b s
  | .refreshLatch late => Sys2Proof.Machine.execRefreshLatch late s
  | .refreshEnd => Sys2Proof.Machine.execRefreshEnd s
  | .freezeStall => Sys2Proof.Machine.execFreezeStall s
  | .vsyncInEdge falling within ns => Sys2Proof.Machine.execVsyncInEdge falling within ns s
  | .displayLineStart line f => Sys2Proof.Machine.execDisplayLineStart line f s
  | .por twnpos boardVar flashReady slow bookOk => Sys2Proof.Machine.execPor twnpos boardVar flashReady slow bookOk s
  | .warm program flashReady slow bookOk => Sys2Proof.Machine.execWarm program flashReady slow bookOk s
  | .supplyFault main => Sys2Proof.Machine.execSupplyFault main s
  | .firmwareRelease => Sys2Proof.Machine.execFirmwareRelease s
  | .firstMeasurement pull => Sys2Proof.Machine.execFirstMeasurement pull s
  | .bootOk => Sys2Proof.Machine.execBootOk s
  | .flashCmd area => Sys2Proof.Machine.execFlashCmd area s
  | .flashOperationDone => Sys2Proof.Machine.execFlashOperationDone s
  | .lockstepMismatch reload => Sys2Proof.Machine.execLockstepMismatch reload s
  | .clkUpdate ns => Sys2Proof.Machine.execClkUpdate ns s
  | .clkUpdateApply => Sys2Proof.Machine.execClkUpdateApply s
  | .synthLock y stored code => Sys2Proof.Machine.execSynthLock y stored code s
  | .mtPort w => Sys2Proof.Machine.execMtPort w s
  | .mtLock => Sys2Proof.Machine.execMtLock s
  | .islandParityError => Sys2Proof.Machine.execIslandParityError s
  | .startRoleTimeout grants => Sys2Proof.Machine.execStartRoleTimeout grants s
  | .dpTrainingEnd sinkRate sinkLanes ok => Sys2Proof.Machine.execDpTrainingEnd sinkRate sinkLanes ok s
  | .synthLockLoss k => Sys2Proof.Machine.execSynthLockLoss k s
  | .linkRecovery enter => Sys2Proof.Machine.execLinkRecovery enter s
  | .aspmL1 enter => Sys2Proof.Machine.execAspmL1 enter s
  | .ideKm n stream op => Sys2Proof.Machine.execIdeKm n stream op s
  | .ideIntegrityFailure => Sys2Proof.Machine.execIdeIntegrityFailure s
  | .hostSnoop line => Sys2Proof.Machine.execHostSnoop line s
  | .biResponse line => Sys2Proof.Machine.execBiResponse line s
  | .mr6Recomputed => Sys2Proof.Machine.execMr6Recomputed s

end Sys2Proof.Machine
end

