-- ==== Sys2Proof/Safety.lean ====
section
/-! DEFINITION. What the claims say of a state and of a step: the canonical form of the stores, the invariant that every
command keeps, and the frames of commands. -/

namespace Sys2Proof.Machine

/-- The canonical form of a memory: addresses strictly rising, and no entry equal to what an unlisted address reads as. -/
def Memory.wf (dflt : Byte) (m : List Host.Cell) : Bool := Sparse.rising m && m.all fun c => c.2 != dflt

/-- The invariant of every state that a command leaves: device memory and flash are in canonical form, and the lists of live
and of staged register values have rising keys, so that equal contents are equal data; the tick position lies within the frame
(R12). -/
structure Inv (s : State) : Prop where
  mem    : Memory.wf 0 s.mem = true
  flash  : Memory.wf 0xFF s.flash = true
  regs   : Sparse.rising s.regs = true
  shadow : Sparse.rising s.shadow = true
  tick   : s.tick < 512

/-- Everything but the register fields with the keys listed, device memory and flash is open: those fields, and every byte
of both stores, read as before. -/
def Frame (keys : List Nat) (s t : State) : Prop :=
  (∀ f : Fld, f.key ∉ keys → t.rd f = s.rd f) ∧ (∀ a : Nat, t.ld a = s.ld a) ∧ ∀ a : Nat, t.fld a = s.fld a

/-- The same for the fields of whole pages, numbered by their 4 KiB slot of BAR0. -/
def PageFrame (slots : List Nat) (s t : State) : Prop :=
  (∀ f : Fld, f.key / 131072 ∉ slots → t.rd f = s.rd f) ∧ (∀ a : Nat, t.ld a = s.ld a) ∧ ∀ a : Nat, t.fld a = s.fld a

/-- The outputs of the safety function stand only in the states that allow them: OSSD channels are off outside RUN, and both
emitter enables outside CONFIG and RUN (R293, R295, R297); no waiting commit carries a value for a field of SAF that is not
staged. -/
structure OutputsOff (s : State) : Prop where
  pairs    : s.safState ≠ 2 → s.saf.chA = 0 ∧ s.saf.chB = 0
  emitters : s.safState ≠ 1 → s.safState ≠ 2 → s.rd SAF.EMIT_HS_EN = 0 ∧ s.rd SAF.EMIT_LS_EN = 0
  staged   : ∀ c ∈ s.commits, ∀ v ∈ c.vals, ∀ f ∈ Page.saf.fields, f.key = v.1 → f.acc.shadowed = true

/-- The command completes: `exec` answers a next state, and `P` holds of it. -/
def Completes (c : Instr) (s : State) (P : State → Prop) : Prop := ∃ t, exec c s = .next t ∧ P t

/-- The device is powered and outside HOLD. -/
structure Runs (s : State) : Prop where
  lit  : s.dark = false
  awake : s.inHold = false

/-- The fields that an event record may touch: the count of lost records and the interrupt of their page (R347). -/
abbrev eventKeys : List Nat := [CXL1.EVT_LOST_COUNT.key, (HDR.IRQ_STAT_IRQ .cxl1).key]

/-- The fields that a reported result touches (R9). -/
abbrev codeKeys (p : Page) : List Nat := [(HDR.ERR_CODE_CODE p).key, (HDR.ERR_CODE_WORD p).key, (HDR.STAT_ERROR p).key]

/-- The fields that a refused access touches (R452, R462). -/
abbrev accKeys : List Nat := [CAP.ACC_ERR_COUNT.key, CAP.ACC_ERR_PATH.key, CAP.ACC_ERR_NEW.key, (HDR.IRQ_STAT_IRQ .cap).key]

/-- `n` steps, one after the other; the first that does not answer a next state ends them. -/
def stepMany : Nat → State → Host.Outcome State Fault Refusal
  | 0, s => .next s
  | n + 1, s =>
    match step s with
    | .next t => stepMany n t
    | o => o

/-- The commands `cs`, each worked while the rest of them and `q` wait, lead from one state to another. -/
def runAll (q : List Instr) : List Instr → State → State → Prop
  | [], s, t => t = s
  | c :: cs, s, t => ∃ u, exec c { s with pending := cs ++ q } = .next u ∧ runAll q cs u t

/-- The pairs of a WRITE entry `b`, by their numbers, written in order, as BAR0 writes of the ring path, lead from one state to
another; `e` holds their RESULTs: the page's ERR_CODE after a write of COMMIT, and 0 otherwise (R350). -/
def pairsWritten (ns : Fin 100000) (b e : List Byte) : List Nat → State → State → Prop
  | [], s, t => t = s
  | i :: l, s, t => ∃ u,
    exec (.registerWrite .ring (BitVec.ofNat 24 (u32 b (0x10 + 8 * i))) (BitVec.ofNat 32 (u32 b (0x14 + 8 * i))) ns) s = .next u ∧
    (∀ p, commitPage (u32 b (0x10 + 8 * i) % 2 ^ 24) = some p → u8 e (0x13 + 8 * i) = u.rd (HDR.ERR_CODE_CODE p) % 256) ∧
    (commitPage (u32 b (0x10 + 8 * i) % 2 ^ 24) = none → u8 e (0x13 + 8 * i) = 0) ∧ pairsWritten ns b e l u t

/-- Whether a command may store in device memory or drop its contents. -/
def mayStore (c : Instr) : Bool :=
  match c with
  | .registerWrite _ _ _ _ | .tickBoundary _ | .coatBoundary _ | .frameBoundary | .columnWindowStart _ _ _ _ |
    .workUnitSlot _ _ _ _ _ | .horizonExpiry | .unitReplay _ _ _ _ | .xtalFail | .pointRecordWrite |
    .frameHeaderWrite | .hostMemWrite _ _ | .shutdownOutputsOff | .shutdownPowerOff _ | .checkpointComplete |
    .roleChoice _ | .takeover _ _ _ | .takeFail _ | .relinquish _ | .autoWarm _ _ _ _ | .roleSwap | .write _ |
    .dstRecordEnd | .por _ _ _ _ _ | .warm _ _ _ _ | .supplyFault _ | .firmwareRelease | .firstMeasurement _ |
    .startRoleTimeout _ => true
  | _ => false

/-- Whether a command may change the configuration flash. -/
def mayProgram (c : Instr) : Bool :=
  match c with
  | .shutdownPowerOff _ | .flashHoldEnd _ | .autoWarm _ _ _ _ | .por _ _ _ _ _ | .warm _ _ _ _ | .supplyFault _ |
    .flashOperationDone => true
  | _ => false

/-- The area of the register map in which a key lies: bits [21:16] of the BAR0 offset, which number the blocks (R461), and 22
for the register of the tick position. -/
def area (k : Nat) : Nat := if k / 32 = 0x20060 then 22 else k / 2097152

/-- Whether a command may write fields of an area. -/
def mayWrite (c : Instr) (a : Nat) : Bool :=
  match c with
  | .timeFracRead _ _ | .wrLoRead _ _ | .smbusSetOffset _ | .oldSlotRelease _ | .faultClr _ _ | .rfeSettingsSwitch _ |
    .wflCalGo _ _ | .lanePowerUp _ _ | .syncInEdge _ | .rfeRunEnd _ | .skewRunEnd _ | .enterConfig |
    .statusTelegramSend _ | .cfgStoreResend | .doeDiscovery _ _ | .cdatRead | .getVersion | .getCapabilities |
    .negotiateAlgorithms _ | .getDigests | .getCertificate _ _ _ | .challenge _ | .getMeasurements _ _ | .keyExchange |
    .finish _ _ | .heartbeat _ | .keyUpdate _ | .endSession _ | .hdmDecoderCommit _ _ _ _ _ _ | .read _ | .nop |
    .epochBump | .trigCmdBus _ _ | .trigCmdGo _ | .armGo _ | .hostSnoop _ | .biResponse _ | .mr6Recomputed => false
  | .refusedAccess _ _ _ _ | .smbusRead _ | .smbusOtherCommand => [0].contains a
  | .bootOk | .flashCmd _ => [1].contains a
  | .schedLoad _ _ | .leaseRenew | .throttleStepChange => [2].contains a
  | .clkUpdate _ | .clkUpdateApply | .synthLock _ _ _ => [3].contains a
  | .parkGo => [4].contains a
  | .fload _ | .emitReq | .confirm _ | .safetyStore => [6].contains a
  | .checkpointAbandon | .handoverTokenRelease => [7].contains a
  | .mirrorStep _ | .mirrorRampStart _ | .mirrorParkDone _ => [8].contains a
  | .capturePlan _ | .hreq _ _ _ _ _ _ => [11].contains a
  | .imageReady => [12].contains a
  | .biTimeout _ | .hostMemoryError | .eventRecord _ _ _ _ _ | .eventRingWrite | .cmdDoorbell _ | .cmdFetch _ | .wait |
    .waitEnd | .cmdCompletion | .linkRecovery _ | .aspmL1 _ | .ideKm _ _ _ | .ideIntegrityFailure => [15].contains a
  | .parcelReceive _ _ | .parcelReplay _ _ | .laneDrop _ _ _ | .beaconReceive _ _ _ _ | .deviceLost _ |
    .triggerReceive _ _ _ _ _ => [16].contains a
  | .todArm | .holdoverEntry | .timeStep => [17].contains a
  | .armStop | .holdoffEnd _ => [18].contains a
  | .linkTrainRetry | .irqHpd _ | .hpdReturn | .auxNativeRead _ _ | .auxNativeWrite _ _ | .auxI2cRead _ _ |
    .auxI2cWrite _ _ | .auxComplete _ _ | .refreshEnd | .freezeStall | .vsyncInEdge _ _ _ =>
    [19].contains a
  | .calCmd _ _ _ | .store => [21].contains a
  | .leaseResume _ => [2, 8].contains a
  | .slotParityError _ _ _ _ => [2, 15].contains a
  | .linkTraining _ _ _ _ _ _ _ => [3, 15].contains a
  | .hpdLoss | .dpTrainingEnd _ _ _ => [3, 19].contains a
  | .parkExit _ => [4, 8].contains a
  | .mtLock => [4, 20].contains a
  | .syncReset => [5, 11].contains a
  | .rtdOpenLead => [5, 21].contains a
  | .coatConclusion | .safetyInputSample _ _ | .ossdTestPulse _ _ _ | .emitCheck _ _ _ _ | .emitFault _ _ |
    .islandStartEnd _ | .clockFault | .telegramReceive _ _ | .telegramWatchdog _ | .doeSafetyRequest _ |
    .islandParityError => [6, 15].contains a
  | .aliveEdge _ | .pathSilence => [7, 15].contains a
  | .pulse _ _ _ _ => [9, 10].contains a
  | .wflCalStart _ => [11, 21].contains a
  | .hostMemWrite _ _ => [13, 15].contains a
  | .dimmTempPoll _ => [14, 15].contains a
  | .eyeScan _ _ _ _ => [15, 16].contains a
  | .captureParcel _ _ => [15, 18].contains a
  | .calCheck _ _ | .primerEnd _ => [15, 21].contains a
  | .ppsEdge _ _ => [17, 22].contains a
  | .lockstepMismatch _ => [1, 2, 15].contains a
  | .flashHoldEnd _ => [1, 4, 5].contains a
  | .flashOperationDone => [1, 6, 21].contains a
  | .laneParityError _ _ _ _ _ => [2, 11, 15].contains a
  | .engineParityError _ _ _ _ => [2, 12, 15].contains a
  | .portRetrain _ _ | .portDownRetry _ _ => [3, 15, 16].contains a
  | .thermalEvaluation _ => [5, 15, 21].contains a
  | .handoverTokenRaise _ | .handoverOldStop => [6, 7, 15].contains a
  | .checkpointComplete => [7, 13, 15].contains a
  | .wflCalEnd _ _ _ => [11, 15, 21].contains a
  | .dstRecordEnd => [13, 15, 18].contains a
  | .syncReceive _ _ _ _ _ _ => [16, 17, 22].contains a
  | .measurementRestart => [2, 4, 8, 13].contains a
  | .roleChoice _ | .takeFail _ | .relinquish _ => [4, 6, 7, 16].contains a
  | .mtPort _ => [4, 6, 15, 20].contains a
  | .columnWindowStart _ _ _ _ => [8, 13, 15, 18].contains a
  | .calParityError _ => [10, 11, 15, 21].contains a
  | .pointRecordWrite => [12, 13, 15, 18].contains a
  | .horizonExpiry => [2, 4, 6, 7, 16].contains a
  | .shutdownPowerOff _ => [3, 4, 5, 15, 16].contains a
  | .ddrTrainingDone _ _ _ | .channelFail _ | .synthLockLoss _ | .hostMemRead _ _ _ => [3, 4, 13, 14, 15].contains a
  | .schedLoadDone _ => [2, 3, 4, 13, 14, 15].contains a
  | .floadDone _ => [3, 4, 6, 13, 14, 15].contains a
  | .displayLineStart _ _ => [3, 4, 13, 14, 15, 19].contains a
  | .shutdownOutputsOff => [4, 6, 7, 8, 16].contains a
  | .takeoverResume => [1, 2, 7, 8, 13, 15].contains a
  | .firstMeasurement _ => [1, 7, 8, 12, 13, 15].contains a
  | .unitReplay _ _ _ _ => [2, 11, 12, 13, 14, 15, 18].contains a
  | .workUnitSlot _ _ _ _ _ => [2, 3, 4, 11, 12, 13, 14, 15, 18].contains a
  | .xtalFail => [3, 4, 6, 7, 15, 16, 17].contains a
  | .frameHeaderWrite => [4, 6, 7, 12, 13, 15, 16].contains a
  | .frameBoundary => [2, 4, 6, 7, 14, 16, 17, 18, 22].contains a
  | .coatBoundary _ => [2, 4, 6, 7, 8, 9, 10, 11, 12, 15, 16, 21].contains a
  | .tickBoundary _ => [2, 5, 6, 7, 8, 11, 12, 13, 15, 16, 17, 18, 21, 22].contains a
  | .registerWrite _ _ _ _ | .commit _ _ _ | .commitTakeHold _ | .softReset _ _ | .softResetTakeHold _ | .ctrlLock _ |
    .irqForce _ _ | .irqStatClear _ _ _ | .registerParityError _ _ _ | .twinMessageReceive _ _ _ | .takeover _ _ _ |
    .autoWarm _ _ _ _ | .roleSwap | .linkDown | .hostReset | .flr | .write _ | .refreshLatch _ | .por _ _ _ _ _ |
    .warm _ _ _ _ | .supplyFault _ | .firmwareRelease | .startRoleTimeout _ => true

/-- Whether a command may move the count of ticks. -/
def mayTick (c : Instr) : Bool :=
  match c with
  | .tickBoundary _ | .por _ _ _ _ _ | .supplyFault _ => true
  | _ => false

/-- Whether a command may switch the power domains off or on as a whole. -/
def maySwitch (c : Instr) : Bool :=
  match c with
  | .shutdownPowerOff _ | .por _ _ _ _ _ | .supplyFault _ => true
  | _ => false

end Sys2Proof.Machine
end

