-- ==== Sys2Proof/Certificates/Slice0/Obligations.lean ====
section
/-! DEFINITION. The statements for the provers. -/

open Sys2Proof Sys2Proof.Machine


/-- A step with the command `c` at the front of the queue is `exec c` on the state with the queue's rest; on an empty queue the
block idles, which is the model's choice (log entry 1). -/
def Obligations.StepTakesTheFront : Prop := ∀ (c : Instr) (q : List Instr) (s : State),
  step { s with pending := c :: q } = exec c { s with pending := q } ∧
  step { s with pending := [] } = .next { s with pending := [] }

/-- Commands are worked first in, first out: as many steps as commands wait in front take exactly those, in their order, and leave
the rest of the queue waiting. No command stops: each answers a next state from every state. -/
def Obligations.QueueDrainsInOrder : Prop :=
  (∀ (cs q : List Instr) (s : State), s.pending = cs ++ q →
    ∃ t, stepMany cs.length s = .next t ∧ runAll q cs s t ∧ t.pending = q) ∧
  (∀ (c : Instr) (s : State), Completes c s fun _ => True)

/-- The invariant of Safety.lean holds right after reset. -/
def Obligations.ResetInv : Prop := Inv State.reset

/-- Every step keeps the invariant: device memory and flash stay in canonical form, register values keep rising keys, and the tick position stays below 512. -/
def Obligations.StepKeepsInv : Prop := ∀ s t : State, Inv s → step s = .next t → Inv t

/-- Right after reset every field of the register map has the reset value of its table, the tick position is tick 0 of frame 0,
the power state code is 0, no interrupt is pending, no commit or reset waits, and nothing has left the device (R422, R444, R458). -/
def Obligations.ResetValues : Prop :=
  (∀ f : Fld, State.reset.rd f = f.reset ∧ State.reset.rdSh f = f.reset) ∧
  State.reset.tick = 0 ∧ State.reset.frame = 0 ∧ State.reset.rd PWR.STATE_STATE = 0 ∧
  (∀ p : Page, State.reset.rd (HDR.IRQ_STAT_IRQ p) = 0 ∧ State.reset.rd (HDR.ERR_CODE_CODE p) = 0 ∧
    State.reset.rd (HDR.SHADOW_SEQ_SEQ p) = 0 ∧ State.reset.rd (HDR.PAGE_ID_BLOCK p) = p.blockCode ∧
    State.reset.rd (HDR.PAGE_ID_INST p) = p.instNo) ∧
  State.reset.pending = [] ∧ State.reset.commits = [] ∧ State.reset.resets = [] ∧ State.reset.out = []

/-- Outside the commands that may store there, no command changes a byte of device memory, and outside those that may program or
erase it, none changes a byte of the configuration flash. Every command leaves every register field outside the areas that
Safety.lean gives it as it is. Only TICK_BOUNDARY, POR and SUPPLY_FAULT move the count of ticks, only the power-off of a
thermal shutdown, POR and SUPPLY_FAULT switch the device as a whole, and what has left the device stays sent. -/
def Obligations.CommandFrame : Prop :=
  (∀ (c : Instr) (s t : State), exec c s = .next t →
    (mayStore c = false → ∀ a, t.ld a = s.ld a) ∧ (mayProgram c = false → ∀ a, t.fld a = s.fld a)) ∧
  (∀ (c : Instr) (f : Fld) (s t : State), exec c s = .next t →
    mayWrite c (area f.key) = false → t.rd f = s.rd f) ∧
  (∀ (c : Instr) (s t : State), exec c s = .next t →
    (mayTick c = false → t.now = s.now) ∧ (maySwitch c = false → t.dark = s.dark) ∧ s.out <+: t.out)

/-- After a thermal shutdown has taken the power domains off, every command but the release of POR, a supply fault, the end of the
flash hold and the commands of the SMBus port leaves the state as it is (R257, R463). A thermal shutdown in its stages: the
outputs go off after the latch, the power domains after the outputs, with PD48 held while a page program runs, and the hold
ends; out of turn each leaves the state as it is (R257, R258, R329). -/
def Obligations.ThermalShutdown : Prop :=
  (∀ (c : Instr) (s : State), s.dark = true →
    (∀ a b d e f, c ≠ .por a b d e f) → (∀ m, c ≠ .supplyFault m) → (∀ x, c ≠ .flashHoldEnd x) →
    (∀ o, c ≠ .smbusSetOffset o) → (∀ n, c ≠ .smbusRead n) → c ≠ .smbusOtherCommand → exec c s = .next s) ∧
  (∀ (program timeout last : Bool) (s : State),
    (s.dark = false → s.hkp.shut ≠ 1 → exec .shutdownOutputsOff s = .next s) ∧
    (s.dark = false → s.hkp.shut = 1 → Completes .shutdownOutputsOff s (fun t =>
      t.hkp.shut = 2 ∧ t.scd.measuring = false ∧ (∀ h : Head, t.rd (EMT.HEAD_STAT_EMITTING h.val) = 0) ∧
      t.rd SAF.EMIT_HS_EN = 0 ∧ t.rd SAF.EMIT_LS_EN = 0 ∧ t.saf.chA = 0 ∧ t.saf.chB = 0 ∧
      t.rd TWN.TOKENS_REQ = 0 ∧ t.rd TWN.TOKENS_GRANT = 0 ∧
      (s.twinEn = true → s.role = 1 → t.rd TWN.CAUSE_CODE = 7 ∧ t.rd TWN.CAUSE_PERMANENT = 1 ∧ t.role = 5))) ∧
    (s.dark = false → s.hkp.shut ≠ 2 → exec (.shutdownPowerOff program) s = .next s) ∧
    (s.dark = false → s.hkp.shut = 2 → Completes (.shutdownPowerOff program) s (fun t =>
      let hold := program && !s.boot.ops.isEmpty
      t.dark = true ∧ t.hkp.shut = 3 ∧ t.commits = [] ∧ t.resets = [] ∧ t.now = s.now ∧
      t.boot.ops = (if hold then s.boot.ops.take 1 else []) ∧ t.on THM.LATCH_INFO_FLASH_HELD = hold ∧
      t.rd PWR.DOM_ON_LO_ON = 1 ∧ t.rd PWR.DOM_ON_HI_ON = (if hold then 2 ^ 16 else 0) ∧
      (hold = true → ∀ a, t.fld a = s.fld a))) ∧
    ((s.dark = false ∨ s.boot.ops = []) → exec (.flashHoldEnd ⟨timeout, last⟩) s = .next s) ∧
    (s.dark = true → s.boot.ops ≠ [] → Completes (.flashHoldEnd ⟨timeout, last⟩) s (fun t =>
      t.boot.ops = [] ∧ t.on THM.LATCH_INFO_HOLD_TIMEOUT = timeout ∧ t.rd PWR.DOM_ON_HI_ON = 0 ∧ t.dark = true ∧
      ∀ a, t.ld a = s.ld a)))

/-- IRQ_FORCE, IRQ_STAT_CLEAR and CTRL_LOCK complete on every page: a forced bit is set as hardware would set it, a bit cleared by
the write stays set where hardware sets it in the same cycle, and the lock is set; nothing else changes (R457, R458).
REGISTER_PARITY_ERROR: a byte restored from the other copy is recorded in PARITY_LOG alone; one in the shadow is recorded, and
a key write of the page then reports PARITY or a lower code; one in both copies resets the page and ERR_CODE reads PARITY
(R460). -/
def Obligations.HeaderWrites : Prop :=
  (∀ (p : Page) (m same : BitVec 32) (s : State), Runs s →
    Completes (.irqForce p m) s (fun t =>
      (∀ i < 32, hasBit (t.rd (HDR.IRQ_STAT_IRQ p)) i = (hasBit (s.rd (HDR.IRQ_STAT_IRQ p)) i || m.getLsbD i)) ∧
      Frame [(HDR.IRQ_STAT_IRQ p).key] s t) ∧
    Completes (.irqStatClear p m same) s (fun t =>
      (∀ i < 32, hasBit (t.rd (HDR.IRQ_STAT_IRQ p)) i =
        (hasBit (s.rd (HDR.IRQ_STAT_IRQ p)) i && !m.getLsbD i || same.getLsbD i)) ∧
      Frame [(HDR.IRQ_STAT_IRQ p).key] s t) ∧
    Completes (.ctrlLock p) s (fun t => t.rd (HDR.CTRL_LOCK p) = 1 ∧ Frame [(HDR.CTRL_LOCK p).key] s t)) ∧
  (∀ (p : Page) (word : Fin 1024) (s : State), Runs s →
    let logged (t : State) : Prop :=
      t.rd (HDR.PARITY_LOG_COUNT p) = min (s.rd (HDR.PARITY_LOG_COUNT p) + 1) (2 ^ (HDR.PARITY_LOG_COUNT p).width - 1) ∧
      t.rd (HDR.PARITY_LOG_WORD p) = word.val ∧ t.rd (HDR.PARITY_LOG_NEW p) = 1 ∧
      Frame [(HDR.PARITY_LOG_COUNT p).key, (HDR.PARITY_LOG_WORD p).key, (HDR.PARITY_LOG_NEW p).key] s t
    Completes (.registerParityError p word 0) s (fun t => logged t ∧ t.shadowBad = s.shadowBad) ∧
    Completes (.registerParityError p word 2) s (fun t =>
      logged t ∧ t.shadow = s.shadow ∧
      1 ≤ (lowestCode (t.commitCodes p)).1 ∧ (lowestCode (t.commitCodes p)).1 ≤ PARITY) ∧
    (p ∈ [Page.scm, .skm, .flt, .ptb, .hkp] → Completes (.registerParityError p word 1) s (fun t =>
      t.rd (HDR.ERR_CODE_CODE p) = PARITY ∧
      ∀ f ∈ p.fields, f.acc.shadowed = true → keptOver .block p f = false → t.rd f = f.reset)))

/-- A key write that breaks a rule reports the code that R9 selects and the word of the field, and changes nothing else: no field,
no staged value, no commit that waits. A write of any other value to COMMIT is ignored (R9, R22, R459). While a commit or a
soft reset of a page waits, a further key write is refused with CFG_BUSY or a lower code (R22, R457). Of several broken rules
R9 reports the lowest code, and of its fields the lowest word (log entry 111 for the word). -/
def Obligations.CommitRejected : Prop :=
  (∀ (p : Page) (key : BitVec 32) (ns : Fin 100000) (s : State), Runs s →
    (key.toNat ≠ p.commitKey → exec (.commit p key ns) s = .next s) ∧
    (key.toNat = p.commitKey → (lowestCode (s.commitCodes p)).1 ≠ 0 → Completes (.commit p key ns) s (fun t =>
      t.rd (HDR.ERR_CODE_CODE p) = (lowestCode (s.commitCodes p)).1 % 256 ∧ t.rd (HDR.STAT_ERROR p) = 1 ∧
      t.shadow = s.shadow ∧ t.commits = s.commits ∧ t.stage = s.stage ∧ Frame (codeKeys p) s t))) ∧
  (∀ (p : Page) (ns : Fin 100000) (s : State), Runs s →
    ((∃ c ∈ s.commits, c.page = p) ∨ ∃ r ∈ s.resets, r.page = p) →
    Completes (.commit p (BitVec.ofNat 32 p.commitKey) ns) s (fun t =>
      1 ≤ (lowestCode (s.commitCodes p)).1 ∧ (lowestCode (s.commitCodes p)).1 ≤ 4 ∧
      t.rd (HDR.ERR_CODE_CODE p) = (lowestCode (s.commitCodes p)).1 ∧ t.commits = s.commits ∧ t.shadow = s.shadow ∧
      Frame (codeKeys p) s t)) ∧
  (∀ l : List (Nat × Nat), l ≠ [] → (∀ x ∈ l, 1 ≤ x.1) →
    lowestCode l ∈ l ∧ ∀ x ∈ l, (lowestCode l).1 < x.1 ∨ (lowestCode l).1 = x.1 ∧ (lowestCode l).2 ≤ x.2)

/-- An accepted key write: where it waits for a boundary, COMMIT_PENDING reads 1 and the commit waits with the values staged;
nothing else of the page changes. Where it waits for none it takes hold at once. A page without shadowed fields accepts its key and changes nothing (R9, R22, R459). -/
def Obligations.CommitAccepted : Prop := ∀ (p : Page) (ns : Fin 100000) (s : State), Runs s →
  (lowestCode (s.commitCodes p)).1 = 0 →
  (pageShadowed p = false → Completes (.commit p (BitVec.ofNat 32 p.commitKey) ns) s (fun t =>
    t.rd (HDR.ERR_CODE_CODE p) = 0 ∧ t.commits = s.commits ∧ t.shadow = s.shadow ∧ Frame (codeKeys p) s t)) ∧
  (pageShadowed p = true → ∀ d, s.commitDue p ns.val = some d →
    Completes (.commit p (BitVec.ofNat 32 p.commitKey) ns) s (fun t =>
      t.rd (HDR.ERR_CODE_CODE p) = 0 ∧ t.rd (HDR.STAT_COMMIT_PENDING p) = 1 ∧
      (∃ c, t.commits = s.commits ++ [c] ∧ c.page = p ∧ c.due = d ∧
        ∀ f ∈ s.changed p, p ≠ .stp → (f.key, s.rdSh f) ∈ c.vals) ∧
      Frame ((HDR.STAT_COMMIT_PENDING p).key :: STP.KEY_STAT_PENDING.key :: codeKeys p) s t)) ∧
  (pageShadowed p = true → s.commitDue p ns.val = none → Completes (.commit p (BitVec.ofNat 32 p.commitKey) ns) s (fun t =>
    t.rd (HDR.ERR_CODE_CODE p) = 0 ∧ t.commits = s.commits ∧ t.rd (HDR.SHADOW_SEQ_SEQ p) = (s.rd (HDR.SHADOW_SEQ_SEQ p) + 1) % 2 ^ 32 ∧
    (p ∈ [Page.scm, .skm, .flt, .ptb, .hkp] → ∀ f ∈ s.changed p, t.rd f = s.rdSh f)))

/-- COMMIT_TAKE_HOLD at the boundary of a commit: the values reach the live fields, COMMIT_PENDING clears, and SHADOW_SEQ
increments modulo 2^32; before that boundary nothing changes. What reaches the fields is stated for the pages whose commits
change their fields alone (R20, R22). -/
def Obligations.CommitTakesHold : Prop := ∀ (p : Page) (c : PendCommit) (n : Nat) (s : State), s.dark = false →
  s.commits.find? (fun d => d.page == p) = some c → c.due = .tick n →
  (s.now < n → exec (.commitTakeHold p) s = .next s) ∧
  (n ≤ s.now → p ≠ .stp → Completes (.commitTakeHold p) s fun t => t.rd (HDR.STAT_COMMIT_PENDING p) = 0) ∧
  (n ≤ s.now → p ∈ [Page.scm, .skm, .flt, .ptb, .hkp] → c.tabs = [] → (c.vals.map Prod.fst).Nodup →
    Completes (.commitTakeHold p) s (fun t =>
      (∀ f ∈ p.fields, f.acc.shadowed = true → ∀ v, (f.key, v) ∈ c.vals → t.rd f = v % 2 ^ f.width) ∧
      (∀ f ∈ p.fields, f.acc.shadowed = true → f.key ∉ c.vals.map Prod.fst → t.rd f = s.rd f) ∧
      t.rd (HDR.STAT_COMMIT_PENDING p) = 0 ∧ t.rd (HDR.SHADOW_SEQ_SEQ p) = (s.rd (HDR.SHADOW_SEQ_SEQ p) + 1) % 2 ^ 32 ∧
      t.commits = s.commits.filter (fun d => d.page != p) ∧
      (∀ f : Fld, f.key / 131072 ≠ p.base / 4096 → t.rd f = s.rd f) ∧
      (∀ a, t.ld a = s.ld a) ∧ ∀ a, t.fld a = s.fld a))

/-- A soft reset of a block that waits for a boundary is reported like a commit and shows RESET_PENDING: EMT, RFE, WFL and CAL
wait for the next coat boundary, PTB for the next frame boundary, HKP and DST for the next tick boundary (R9, R458, and the
chapters of the blocks). A reset of SAF is rejected with SAFETY_LOCK outside CONFIG (R300). -/
def Obligations.SoftResetWaits : Prop := ∀ (p : Page) (ns : Fin 100000) (s : State), Runs s →
  (s.safState ≠ 1 → Completes (.softReset .saf ns) s (fun t =>
    t.rd (HDR.ERR_CODE_CODE .saf) = SAFETY_LOCK ∧ t.resets = s.resets ∧ Frame (codeKeys .saf) s t)) ∧
  (s.resetRefused p = none → Completes (.softReset p ns) s fun t => t.rd (HDR.ERR_CODE_CODE p) = 0) ∧
  ∀ n, ((∃ h, p = .emt h ∨ p = .rfe h ∨ p = .wfl h) ∧ n = s.nextCoat ns.val ∨ p = .cal ∧ n = s.nextCoat ns.val ∨
      p = .ptb ∧ n = s.nextFrame ns.val ∨ (p = .hkp ∨ p = .dst) ∧ n = s.nextTick ns.val) →
    (s.resets.any fun r => r.page == p) = false →
    Completes (.softReset p ns) s (fun t =>
      t.rd (HDR.ERR_CODE_CODE p) = 0 ∧ t.rd (HDR.STAT_RESET_PENDING p) = 1 ∧
      t.resets = s.resets ++ [{ page := p, due := .tick n }] ∧
      Frame ((HDR.STAT_RESET_PENDING p).key :: codeKeys p) s t)

/-- A BLOCK reset returns every field of the page that is not kept over it to its reset value and leaves every other page and
all memory alone: at once for a block without a boundary, at SOFT_RESET_TAKE_HOLD for one that waits, and not before its
boundary (R444, R457, R458). -/
def Obligations.BlockReset : Prop := ∀ (p : Page) (ns : Fin 100000) (s : State), Runs s →
  let done (t : State) : Prop :=
    (∀ f ∈ p.fields, keptOver .block p f = false → f ≠ HDR.STAT_COMMIT_PENDING p → t.rd f = f.reset) ∧
    (∀ f : Fld, f.key / 131072 ≠ p.base / 4096 → t.rd f = s.rd f) ∧ (∀ a, t.ld a = s.ld a) ∧ ∀ a, t.fld a = s.fld a
  (p ∈ [Page.stp, .scm, .skm, .flt, .lth, .mem 0, .mem 1, .mem 2, .mem 3, .sec] → Completes (.softReset p ns) s done) ∧
  ((p ∈ [Page.hkp, .ptb] ∨ ∃ h, p = .rfe h) → ∀ r, s.resets.find? (fun r => r.page == p) = some r → ∀ n, r.due = .tick n →
    (s.now < n → exec (.softResetTakeHold p) s = .next s) ∧
    (n ≤ s.now → Completes (.softResetTakeHold p) s (fun t =>
      done t ∧ t.rd (HDR.STAT_RESET_PENDING p) = 0 ∧ t.resets = s.resets.filter (fun r => r.page != p))))

/-- CLK_UPDATE is refused, and nothing changes, where a held value differs from that of a locked output or of one whose consumer
runs; else the held values wait for the next tick boundary. CLK_UPDATE_APPLY moves every held value to its output at that
boundary, and not before (R436). -/
def Obligations.ClockUpdate : Prop := ∀ (ns : Fin 100000) (s : State), Runs s →
  ((lowestCode s.updateCodes).1 ≠ 0 → Completes (.clkUpdate ns) s (fun t =>
    t.rd (HDR.ERR_CODE_CODE .clk) = (lowestCode s.updateCodes).1 % 256 ∧ t.boot = s.boot ∧ Frame (codeKeys .clk) s t)) ∧
  ((lowestCode s.updateCodes).1 = 0 → Completes (.clkUpdate ns) s (fun t =>
    t.rd (HDR.ERR_CODE_CODE .clk) = 0 ∧ t.rd CLK.UPDATE_PENDING = 1 ∧ t.boot.held = s.boot.held ∧
    t.boot.clkAt = some (s.nextTick ns.val) ∧ Frame (CLK.UPDATE_PENDING.key :: codeKeys .clk) s t)) ∧
  ∀ n, s.boot.clkAt = some n →
    (s.now < n → exec .clkUpdateApply s = .next s) ∧
    (n ≤ s.now → (s.boot.held.map Prod.fst).Nodup → (∀ v ∈ s.boot.held, clkOutKey v.1 = true) →
      Completes .clkUpdateApply s (fun t =>
        (∀ f ∈ Page.clk.fields, ∀ v, (f.key, v) ∈ s.boot.held → t.rd f = v % 2 ^ f.width) ∧
        t.rd CLK.UPDATE_PENDING = 0 ∧ t.boot.held = [] ∧
        Frame (CLK.UPDATE_PENDING.key :: s.boot.held.map Prod.fst) s t))

/-- REGISTER_WRITE: a misaligned write, and any write of the SMBus path, is counted in ACC_ERR with its path and changes nothing
else; in HOLD a page other than CAP, PWR and TWN takes no write, and PWR reports TWIN_ROLE (R316, R441, R452). REFUSED_ACCESS:
an access that is not allowed is counted in ACC_ERR with its path and changes nothing else, and a refused read returns 0 in
every byte (R452). -/
def Obligations.AccessRefused : Prop :=
  (∀ (path : Path) (off : BitVec 24) (v : BitVec 32) (ns : Fin 100000) (s : State),
    s.dark = false →
    (off.toNat % 4 ≠ 0 ∨ path = .smbus → Completes (.registerWrite path off v ns) s (fun t =>
      t.rd CAP.ACC_ERR_COUNT = min (s.rd CAP.ACC_ERR_COUNT + 1) (2 ^ CAP.ACC_ERR_COUNT.width - 1) ∧
      t.rd CAP.ACC_ERR_PATH = pathNo path ∧ t.rd CAP.ACC_ERR_NEW = 1 ∧ hasBit (t.rd (HDR.IRQ_STAT_IRQ .cap)) 0 = true ∧
      Frame accKeys s t)) ∧
    (off.toNat % 4 = 0 → path ≠ .smbus → s.inHold = true → ∀ p : Page, off.toNat / 4096 * 4096 = p.base →
      (p ≠ .cap → p ≠ .pwr → p ≠ .twn → exec (.registerWrite path off v ns) s = .next s) ∧
      (p = .pwr → Completes (.registerWrite path off v ns) s (fun t =>
        t.rd (HDR.ERR_CODE_CODE .pwr) = TWIN_ROLE ∧ Frame (codeKeys .pwr) s t)))) ∧
  (∀ (path : Path) (off : BitVec 24) (len : Fin 65) (write : Bool) (s : State),
    s.dark = false → accessAllowed off.toNat len.val write = false →
    Completes (.refusedAccess path off len write) s (fun t =>
      t.rd CAP.ACC_ERR_COUNT = min (s.rd CAP.ACC_ERR_COUNT + 1) (2 ^ CAP.ACC_ERR_COUNT.width - 1) ∧
      t.rd CAP.ACC_ERR_PATH = pathNo path ∧ t.rd CAP.ACC_ERR_NEW = 1 ∧ hasBit (t.rd (HDR.IRQ_STAT_IRQ .cap)) 0 = true ∧
      (write = false → t.out.getLast? = some (.regRead path off.toNat (List.replicate len.val 0))) ∧ Frame accKeys s t))

/-- REGISTER_WRITE by the access codes: an RW field takes its bits at once, an RWS, RWL or WOS field takes them into its shadow
and keeps its live value, each 1 clears its bit of a W1C field, and an RO field stands; every other field, live and staged,
stands. Stated for the bodies of the pages none of whose registers acts when written (R453). -/
def Obligations.AccessCodes : Prop := ∀ (path : Path) (off : BitVec 24) (v : BitVec 32) (ns : Fin 100000) (p : Page) (s : State),
  Runs s → path ≠ .smbus → off.toNat % 4 = 0 → off.toNat / 4096 * 4096 = p.base → 0x40 ≤ off.toNat % 4096 →
  (p ∈ [Page.hkp, .thm, .stp, .scm, .skm, .ptb, .lth] ∨ (∃ h, p = .rfe h) ∨ ∃ c, p = .mem c) →
  Completes (.registerWrite path off v ns) s (fun t =>
    (∀ f ∈ p.fields, f.key / 32 = off.toNat →
      (f.acc = .rw → t.rd f = v.toNat / 2 ^ (f.key % 32) % 2 ^ f.width) ∧
      (f.acc = .rws ∨ f.acc = .rwl ∨ f.acc = .wos →
        t.rdSh f = v.toNat / 2 ^ (f.key % 32) % 2 ^ f.width ∧ t.rd f = s.rd f) ∧
      (f.acc = .w1c → ∀ i < f.width, hasBit (t.rd f) i = (hasBit (s.rd f) i && !v.getLsbD (f.key % 32 + i))) ∧
      (f.acc = .ro → t.rd f = s.rd f)) ∧
    (∀ f : Fld, f.key / 32 ≠ off.toNat → t.rd f = s.rd f ∧ t.rdSh f = s.rdSh f) ∧
    (∀ a, t.ld a = s.ld a) ∧ ∀ a, t.fld a = s.fld a)

/-- TIME_FRAC_READ captures domain time for its path, and a following read of TIME_SEC returns the seconds of the same instant;
WR_LO_READ captures WR_HI of the stream for its path, and a following read of WR_HI returns it; neither changes a field or a
byte (R112, R405, R456). The SMBus port: a Block Write sets the offset of reads; a Block Read of an aligned offset returns
four bytes, least significant first, and the offset advances by 4; a misaligned offset and every other command answer a byte
count of 0 and are counted with PATH 2. All of it is served in every power state, and no other register and no byte of memory
changes (R463). -/
def Obligations.ReadPorts : Prop :=
  (∀ (path : Path) (k : Fin 4) (ns ns' : Fin 100000) (s : State), Runs s →
    Completes (.timeFracRead path ns) s (fun t =>
      let x := s.timeAt (s.now * tickSmp + smpOfNs ns.val)
      t.out = s.out ++ [.regRead path (TIM.TIME_FRAC_FRAC.key / 32) (leBytes 4 (x % 2 ^ 32))] ∧
      (t.barRead path (TIM.TIME_SEC_SEC.key / 32) ns'.val).2 = x / 2 ^ 32 ∧ Frame [] s t) ∧
    Completes (.wrLoRead path k) s (fun t =>
      t.out = s.out ++ [.regRead path ((DST.WR_LO_IDX k.val).key / 32) (leBytes 4 (s.rd (DST.WR_LO_IDX k.val)))] ∧
      (t.barRead path ((DST.WR_HI_IDX k.val).key / 32) ns'.val).2 = s.rd (DST.WR_HI_IDX k.val) ∧ Frame [] s t)) ∧
  (∀ (off : BitVec 24) (ns : Fin 100000) (s : State),
    let refused (t : State) : Prop :=
      t.out.getLast? = some (.smbus []) ∧ t.host.smbus = s.host.smbus ∧
      t.rd CAP.ACC_ERR_COUNT = min (s.rd CAP.ACC_ERR_COUNT + 1) (2 ^ CAP.ACC_ERR_COUNT.width - 1) ∧
      t.rd CAP.ACC_ERR_PATH = 2 ∧ t.rd CAP.ACC_ERR_NEW = 1 ∧ Frame accKeys s t
    (s.dark = true → s.latched = false → exec (.smbusSetOffset off) s = .next s ∧ exec (.smbusRead ns) s = .next s ∧
      exec .smbusOtherCommand s = .next s) ∧
    (s.dark = false ∨ s.latched = true → Completes (.smbusSetOffset off) s (fun t => t.host.smbus = off.toNat ∧ t.out = s.out ∧ Frame [] s t)) ∧
    (s.dark = false ∨ s.latched = true → s.host.smbus % 4 = 0 → Completes (.smbusRead ns) s (fun t =>
      t.host.smbus = (s.host.smbus + 4) % 2 ^ 24 ∧
      t.out = s.out ++ [.smbus (leBytes 4 (s.barRead .smbus s.host.smbus ns.val).2)] ∧ Frame [] s t)) ∧
    (s.dark = false ∨ s.latched = true → s.host.smbus % 4 ≠ 0 → Completes (.smbusRead ns) s refused) ∧
    (s.dark = false ∨ s.latched = true → Completes .smbusOtherCommand s refused))

/-- The entries of the command ring: READ puts what it reads into the value words in order, changes no register and ends the entry
with STATUS 1; WRITE performs its pairs in order as BAR0 writes of the ring path would, with the RESULT of each the page's ERR_CODE
after a write of COMMIT and 0 otherwise, but less than 3 µs before a tick boundary it waits for it; NOP ends the entry alone (R349, R350). -/
def Obligations.RingEntries : Prop := ∀ (ns : Fin 100000) (b : List Byte) (s : State), s.dark = false → b.length = 64 → u8 b 1 ≤ 6 →
  let read (u : State) (i : Nat) := u.barRead .ring (u32 b (0x10 + 8 * i) % 2 ^ 24) ns.val
  (s.curEntry 2 = some b → Completes (.read ns) s (fun t => ∃ c, t.host.cmd = some c ∧ c.ended = true ∧ u8 c.bytes 3 = 1 ∧
    (∀ i < u8 b 1, u32 c.bytes (0x14 + 8 * i) = (read ((List.range i).foldl (fun u j => (read u j).1) s) i).2 % 2 ^ 32) ∧
    (∀ k < 64, k ≠ 3 → (∀ i < u8 b 1, k < 0x14 + 8 * i ∨ 0x18 + 8 * i ≤ k) → u8 c.bytes k = u8 b k) ∧ Frame [] s t)) ∧
  (s.curEntry 1 = some b → 97000 < ns.val → exec (.write ns) s = .next s) ∧
  (s.curEntry 1 = some b → ns.val ≤ 97000 → Completes (.write ns) s (fun t => ∃ c, t.host.cmd = some c ∧ c.ended = true ∧ u8 c.bytes 3 = 1 ∧
    (∀ k < 64, k ≠ 3 → (∀ i < u8 b 1, k ≠ 0x13 + 8 * i) → u8 c.bytes k = u8 b k) ∧
    ∃ u, pairsWritten ns b c.bytes (List.range (u8 b 1)) s u ∧ t = { u with host.cmd := some c })) ∧
  (s.curEntry 4 = some b → Completes .nop s (fun t =>
    t.host.cmd = some { bytes := overlay b 3 [1], ended := true } ∧ Frame [] s t))

/-- The lease: a renewal returns AGE to 0; at AGE 64 the horizon expires, which sets EXPIRED, raises bit 3 and enters PARK by
expiry at the end of the tick, and before that nothing happens (R53, R54, R441). The return from PARK: LEASE_RESUME after a
renewal, and EXIT of a PARK by command, fix a restart boundary that is the start of a frame at least 64 ticks ahead, and every
present head's mirror starts its ramp; at that boundary MEASUREMENT_RESTART puts the device in RUN and measurement begins.
PARK by command stops measurement at the end of the tick, and EXIT after an expiry is refused with CFG_BUSY (R55, R81, R83,
R441). -/
def Obligations.LeaseAndPark : Prop :=
  (∀ s : State, Runs s →
    Completes .leaseRenew s (fun t => t.rd SCD.LEASE_AGE = 0 ∧ Frame [SCD.LEASE_AGE.key] s t) ∧
    (s.rd SCD.LEASE_AGE < 64 → exec .horizonExpiry s = .next s) ∧
    (64 ≤ s.rd SCD.LEASE_AGE → s.on SCD.LEASE_EXPIRED = false → s.inPark = false → Completes .horizonExpiry s (fun t =>
      t.rd SCD.LEASE_EXPIRED = 1 ∧ t.rd PWR.STATE_STATE = 1 ∧ t.rd PWR.STATE_BY_EXPIRY = 1 ∧
      hasBit (t.rd (HDR.IRQ_STAT_IRQ .scd)) 3 = true ∧ t.scd.stopAt = some (s.now + 1) ∧ t.scd.resumeAt = none ∧
      (s.twinEn = false → Frame [SCD.LEASE_EXPIRED.key, (HDR.IRQ_STAT_IRQ .scd).key, PWR.STATE_STATE.key,
        PWR.STATE_BY_EXPIRY.key] s t)))) ∧
  (∀ (ns : Fin 100000) (s : State), Runs s →
    let away (t : State) : Prop := ∃ n, t.scd.resumeAt = some n ∧ s.now + 64 ≤ n ∧ n ≤ s.now + 576 ∧ s.tickOf n = 0 ∧
      ∀ h : Head, s.present h.val = true → (t.emtOf h).mir = .out s.now (s.rd (EMT.MIR_DAC_CODE h.val)) ∧
        t.rd (EMT.HEAD_STAT_PARKED h.val) = 0
    (s.inPark = false → Completes .parkGo s (fun t =>
      t.rd PWR.STATE_STATE = 1 ∧ t.rd PWR.STATE_BY_EXPIRY = 0 ∧ t.scd.stopAt = some (s.now + 1) ∧
      Frame [PWR.STATE_STATE.key, PWR.STATE_BY_EXPIRY.key] s t)) ∧
    (s.inPark = true → s.on PWR.STATE_BY_EXPIRY = true → Completes (.parkExit ns) s (fun t =>
      t.rd (HDR.ERR_CODE_CODE .pwr) = CFG_BUSY ∧ t.scd = s.scd ∧ t.emt = s.emt ∧ Frame (codeKeys .pwr) s t)) ∧
    (s.inPark = true → s.on PWR.STATE_BY_EXPIRY = false → s.on SCD.LEASE_EXPIRED = false → s.scd.resumeAt = none →
      Completes (.parkExit ns) s away) ∧
    (s.on SCD.LEASE_EXPIRED = true → s.rd SCD.LEASE_AGE < 64 → s.scd.resumeAt = none →
      (s.inPark = true → s.on PWR.STATE_BY_EXPIRY = true) → Completes (.leaseResume ns) s away) ∧
    (s.scd.resumeAt = some s.now → Completes .measurementRestart s (fun t =>
      t.rd SCD.LEASE_EXPIRED = 0 ∧ t.rd PWR.STATE_STATE = 0 ∧ t.rd PWR.STATE_BY_EXPIRY = 0 ∧ t.scd.resumeAt = none ∧
      (s.boot.measured = true → t.scd.measuring = true ∧ t.scd.measureFrom = s.now ∧
        ∀ h : Head, s.present h.val = true → (t.emtOf h).mir = .run ∧ (t.emtOf h).acc = 0))))

/-- Schedule loads: a load while one runs ends at once with CFG_BUSY; else it starts from the address and length given, and its
end clears BUSY, reports the code of the first failing check, raises bit 4, and shows exactly the named partitions loaded or
not. An old slot is released three ticks after its swap and not before (R38, R39, R42). Parity errors of engines and of the
schedule buffer: a unit that fails in an engine with replay is marked for the next tick, and without an error of the same lane
and unit in the tick before no register shows it; with one, the lane is declared faulty with bit 2 where its group has its
spare; engines without replay are left as they are. A slot whose second read fails too makes its partition's slot faulty,
skips the entry and raises bit 1; a good second read leaves every register (R30, R49, R51). -/
def Obligations.ScheduleImages : Prop :=
  (∀ (mask : BitVec 9) (flash : Bool) (flips : List Flip) (p : Fin 9) (s : State), Runs s →
    (s.scd.load.isSome = true ∨ s.on (HDR.STAT_COMMIT_PENDING .scd) = true ∨ mask.toNat &&& s.scd.held ≠ 0 →
      Completes (.schedLoad mask flash) s (fun t =>
      t.rd SCD.LOAD_STAT_CODE = CFG_BUSY ∧ hasBit (t.rd (HDR.IRQ_STAT_IRQ .scd)) 4 = true ∧ t.scd = s.scd ∧
      Frame [SCD.LOAD_STAT_CODE.key, (HDR.IRQ_STAT_IRQ .scd).key] s t)) ∧
    (s.scd.load = none → s.on (HDR.STAT_COMMIT_PENDING .scd) = false → mask.toNat &&& s.scd.held = 0 →
      Completes (.schedLoad mask flash) s (fun t =>
        t.rd SCD.LOAD_STAT_BUSY = 1 ∧ (∃ r, t.scd.load = some r ∧ r.mask = mask.toNat ∧ r.flash = flash ∧
          r.addr = s.rd SCD.IMG_ADDR_HI_ADDR * 2 ^ 32 + s.rd SCD.IMG_ADDR_LO_ADDR * 64 ∧
          (flash = false → r.len = s.rd SCD.IMG_LEN_LEN)) ∧ Frame [SCD.LOAD_STAT_BUSY.key] s t)) ∧
    (∀ r, s.scd.load = some r → Completes (.schedLoadDone flips) s (fun t =>
        t.rd SCD.LOAD_STAT_CODE < 256 ∧ t.rd SCD.LOAD_STAT_BUSY = 0 ∧ t.scd.load = none ∧
        hasBit (t.rd (HDR.IRQ_STAT_IRQ .scd)) 4 = true ∧
        (∀ q < 9, hasBit (t.rd SCD.LOAD_STAT_LOADED) q =
          if hasBit r.mask q then t.rd SCD.LOAD_STAT_CODE == 0 else hasBit (s.rd SCD.LOAD_STAT_LOADED) q) ∧
        (2 ^ 20 < r.len ∧ r.mask ≠ 0 → t.rd SCD.LOAD_STAT_CODE = CFG_RANGE) ∧ (r.mask = 0 → t.rd SCD.LOAD_STAT_CODE ≠ 0) ∧
        (r.flash = true ∨ flips = [] ∧ s.rd LTH.MEM_SIZE_FAILED = 0 → Frame [SCD.LOAD_STAT_CODE.key, SCD.LOAD_STAT_BUSY.key, SCD.LOAD_STAT_LOADED.key,
          (HDR.IRQ_STAT_IRQ .scd).key] s t))) ∧
    (s.scd.swapAt[p] + 3 ≤ s.now → Completes (.oldSlotRelease p) s (fun t =>
      hasBit t.scd.held p.val = false ∧ (∀ q, q ≠ p.val → hasBit t.scd.held q = hasBit s.scd.held q) ∧ Frame [] s t)) ∧
    (s.now < s.scd.swapAt[p] + 3 → exec (.oldSlotRelease p) s = .next s)) ∧
  (∀ (e : Fin 15) (h : Head) (window group : Fin 8) (replay : Bool) (p : Fin 9) (idx : Nat) (s : State), Runs s →
    let u : WorkUnit := { head := h.val, window := window.val, group := group.val, mtick := s.unitTick e.val }
    (e.val < 4 ∨ 9 < e.val → exec (.engineParityError e h window ⟨group, replay⟩) s = .next s) ∧
    (4 ≤ e.val → e.val ≤ 9 → ∀ i x, s.unitEntry e.val u = some (i, x) →
      Completes (.engineParityError e h window ⟨group, false⟩) s (fun t =>
        (∃ r ∈ t.scd.marks, r.wu = u ∧ r.engine ≤ e.val) ∧ (∀ r ∈ s.scd.marks, r.wu ≠ u → r ∈ t.scd.marks) ∧
        t.scd.errs = s.scd.errs ++ [(e.val, x.lane, u)] ∧ t.twn.unclean = true ∧
        ((e.val, x.lane, u) ∉ s.scd.errsPrev → Frame [] s t) ∧
        ∀ g, (e.val, x.lane, u) ∈ s.scd.errsPrev → laneGroup e.val x.lane = some g → s.on (SCD.LANE_MAP_PENDING g) = false →
          s.on (SCD.LANE_MAP_REMAPPED g) = false → s.on (SCD.LANE_MAP_EXHAUSTED g) = false →
          t.rd (SCD.LANE_MAP_PENDING g) = 1 ∧ t.rd (SCD.LANE_MAP_FAULTY g) = x.lane % 2 ^ (SCD.LANE_MAP_FAULTY g).width ∧
          hasBit (t.rd (HDR.IRQ_STAT_IRQ .scd)) 2 = true)) ∧
    Completes (.slotParityError p e idx false) s (fun t => t.twn.unclean = true ∧ t.scd = s.scd ∧ Frame [] s t) ∧
    Completes (.slotParityError p e idx true) s (fun t =>
      hasBit t.scd.badSlots (if s.slotB p.val then 9 + p.val else p.val) = true ∧
      t.scd.skips = s.scd.skips ++ [(p.val, e.val, idx)] ∧ hasBit (t.rd (HDR.IRQ_STAT_IRQ .scd)) 1 = true ∧
      Frame ((HDR.IRQ_STAT_IRQ .scd).key :: eventKeys) s t))

/-- The mirrors: at a mirror step the DAC takes PARK_CODE while parked, the next code of its ramp while one runs (its whole codes as log
entry 139 says), and the servo's next code in measurement; a head that an
accepted swap adds starts its ramp 64 ticks before the boundary; 64 ticks after a park ramp began the head is PARKED at
PARK_CODE and bit 5 is raised; a write of CLR waits for the next coat boundary (R75, R77, R81, R82). -/
def Obligations.Mirrors : Prop := ∀ (h : Head) (ns : Fin 100000) (s : State), Runs s →
  ((s.emtOf h).mir = .parked → Completes (.mirrorStep h) s (fun t =>
    t.rd (EMT.MIR_DAC_CODE h.val) = s.rd (EMT.PARK_CODE_CODE h.val) % 65536 ∧ Frame [(EMT.MIR_DAC_CODE h.val).key] s t)) ∧
  ((s.emtOf h).mir = .run → Completes (.mirrorStep h) s (fun t =>
    t.rd (EMT.MIR_DAC_CODE h.val) = (s.emtOf h).dacNext % 65536 ∧ Frame [(EMT.MIR_DAC_CODE h.val).key] s t)) ∧
  (∀ st c, (s.emtOf h).mir = .out st c → Completes (.mirrorStep h) s (fun t =>
    t.rd (EMT.MIR_DAC_CODE h.val) = rampCode c (s.target h 0) (s.now + 1 - st) % 65536 ∧ Frame [(EMT.MIR_DAC_CODE h.val).key] s t)) ∧
  (∀ st c, (s.emtOf h).mir = .home st c → Completes (.mirrorStep h) s (fun t =>
    t.rd (EMT.MIR_DAC_CODE h.val) = rampCode c (s.rd (EMT.PARK_CODE_CODE h.val)) (s.now + 1 - st) % 65536 ∧
    Frame [(EMT.MIR_DAC_CODE h.val).key] s t)) ∧
  (∀ st c, (s.emtOf h).mir = .home st c →
    (s.now < st + 64 → exec (.mirrorParkDone h) s = .next s) ∧
    (st + 64 ≤ s.now → Completes (.mirrorParkDone h) s (fun t =>
      t.rd (EMT.HEAD_STAT_PARKED h.val) = 1 ∧ t.rd (EMT.MIR_DAC_CODE h.val) = s.rd (EMT.PARK_CODE_CODE h.val) % 65536 ∧
      hasBit (t.rd (HDR.IRQ_STAT_IRQ (.emt h))) 5 = true ∧ (t.emtOf h).mir = .parked ∧
      (∀ g : Head, g ≠ h → t.emtOf g = s.emtOf g) ∧
      Frame [(EMT.HEAD_STAT_PARKED h.val).key, (EMT.MIR_DAC_CODE h.val).key, (HDR.IRQ_STAT_IRQ (.emt h)).key] s t))) ∧
  (∀ mask n, s.pendingSwap = some (mask, n) → hasBit (hdrHeadMask (s.stagedHdr mask)) h.val = true →
    s.present h.val = false → n ≤ s.now + 64 → (s.emtOf h).mir = .parked → Completes (.mirrorRampStart h) s (fun t =>
      (t.emtOf h).mir = .out s.now (s.rd (EMT.MIR_DAC_CODE h.val)) ∧ t.rd (EMT.HEAD_STAT_PARKED h.val) = 0 ∧
      (∀ g : Head, g ≠ h → t.emtOf g = s.emtOf g) ∧ Frame [(EMT.HEAD_STAT_PARKED h.val).key] s t)) ∧
  Completes (.faultClr h ns) s (fun t => (t.emtOf h).clrs = (s.emtOf h).clrs ++ [s.nextCoat ns.val] ∧
    (∀ g : Head, g ≠ h → t.emtOf g = s.emtOf g) ∧ Frame [] s t)

/-- TICK_BOUNDARY: the count of ticks and the tick position advance by one, and tick 511 is followed by tick 0 of the next frame;
in HOLD too, where no engine works. The first tick of a coat ends with the floor's statistics of the coat before shown.
Without its crystal the device has no ticks (R12, R113, R142, R316). COAT_BOUNDARY runs once, in the first tick of a coat: the
heads measured in the coat that ends are kept for its image, and a throttle step of 2 or 3 stops decomposition. FRAME_BOUNDARY
runs once, in tick 0, latches domain time, decides for frames of three coats, and shows the host bursts of the frame that ends
(R12, R14, R112, R168, R235, R254). -/
def Obligations.Boundaries : Prop :=
  (∀ (x : TickIn) (s : State), s.dark = false →
    (s.on TIM.XTAL_STAT_FAIL = true → exec (.tickBoundary x) s = .next s) ∧
    (s.on TIM.XTAL_STAT_FAIL = false → Completes (.tickBoundary x) s (fun t =>
      t.now = s.now + 1 ∧ t.tick = (s.tick + 1) % 512 ∧ (t.frame = if s.tick = 511 then (s.frame + 1) % 2 ^ 15 else s.frame) ∧
      (s.inHold = false → s.step128 = 0 → t.rd SKM.SKM_STAT_SUN_CNT = s.stp.sunCnt % 2 ^ 20 ∧
        t.rd SKM.SKM_STAT_MAX_S = s.stp.maxS % 16)))) ∧
  (∀ (x : CoatIn) (s : State), Runs s →
    ((s.step128 ≠ 0 ∨ s.coatAt = some s.now) → exec (.coatBoundary x) s = .next s) ∧
    (s.step128 = 0 → s.coatAt ≠ some s.now → s.on TIM.XTAL_STAT_FAIL = false → s.twn.stopDue = none →
      Completes (.coatBoundary x) s (fun t => t.coatAt = some s.now ∧ t.ptb.coatMeasPrev = s.ptb.coatMeas ∧ t.ptb.coatMeas = 0 ∧
        t.hkp.plain = decide (2 ≤ s.hkp.bndStep))) ∧
    ((s.tick ≠ 0 ∨ s.frameAt = some s.now) → exec .frameBoundary s = .next s) ∧
    (s.tick = 0 → s.frameAt ≠ some s.now → s.on TIM.XTAL_STAT_FAIL = false → s.role ≠ 3 → Completes .frameBoundary s (fun t =>
      t.frameAt = some s.now ∧
      (s.on TIM.STEP_PENDING = false → t.rd TIM.FRAME_TS_FRAC_FRAC = s.dtime64 % 2 ^ 32 ∧
        t.rd TIM.FRAME_TS_SEC_SEC = s.dtime64 / 2 ^ 32 % 2 ^ 32) ∧
      t.on SCD.RUN_INFO_VARIANT = (s.hkp.bndStep == 3) ∧
      ∀ c : Fin 4, t.rd (MEM.HOSTBW_BURSTS c.val) = s.host.bursts[c] % 2 ^ 32 ∧ t.host.bursts[c] = 0)))

/-- COLUMN_WINDOW_START: for each head that measures the window SUPPLY_OK and TOKEN show the conditions of R71, the head fires
only where both hold, and its measurements open in the column of the mirror step; a head that does not measure the window does
not fire in it, and a window that is open stays as it is (R12, R60, R71, R84). -/
def Obligations.ColumnWindow : Prop :=
  ∀ (window : Fin 8) (hsRb lsRb : Bool) (taps : List (Nat × Nat × List Sample)) (s : State), s.dark = false →
  Completes (.columnWindowStart window hsRb lsRb taps) s (fun t =>
    t.now = s.now ∧
    (∀ w ∈ s.wins, ∃ v ∈ t.wins, v.head = w.head ∧ v.window = w.window ∧ v.mtick = w.mtick ∧ v.col = w.col ∧ v.lit = w.lit) ∧
    ∀ h : Head, s.winAt h.val window.val = none →
      if (s.measured h.val).contains window.val && !s.twn.released then
        t.on (EMT.HEAD_STAT_SUPPLY_OK h.val) = (s.on SAF.EMIT_HS_EN && s.on SAF.EMIT_LS_EN && hsRb && lsRb) ∧
        t.on (EMT.HEAD_STAT_TOKEN h.val) = (!s.on TWN.CFG_TWIN_EN || hasBit (s.rd TWN.TOKENS_GRANT) h.val) ∧
        (t.on (EMT.HEAD_STAT_EMITTING h.val) = true →
          t.on (EMT.HEAD_STAT_SUPPLY_OK h.val) = true ∧ t.on (EMT.HEAD_STAT_TOKEN h.val) = true) ∧
        ∃ w, t.winAt h.val window.val = some w ∧ w.col = 8 * s.step128 + emitterColumn window.val
      else t.on (EMT.HEAD_STAT_EMITTING h.val) = false)

/-- PULSE: nothing comes of it outside an open window; it leaves a measurement on a disabled channel as it is, and without the
crystal every one; else its row's edges follow those that the row has, every other row, head and earlier window stands, and no
field but the counts of saturations and losses and the highest fill changes, beside what Dust Sheet records: what is left of it
at the end of the window goes on in the next (R101). RFE_SETTINGS_SWITCH cuts the last window of a coat at whose end settings of the
head change (R90, R91, R92, R100, R101, R113). -/
def Obligations.Pulses : Prop := ∀ (h : Head) (row : Fin 128) (window : Fin 8) (x : Excursion) (s : State), s.dark = false →
  (s.winAt h.val window.val = none → exec (.pulse h row window x) s = .next s) ∧
  (∀ w, s.winAt h.val window.val = some w →
    (hasBit w.chEn row.val = false → Completes (.pulse h row window x) s fun t => t.winAt h.val window.val = some w) ∧
    (s.on TIM.XTAL_STAT_FAIL = true → Completes (.pulse h row window x) s fun t => t = { s with carry := t.carry }) ∧
    (hasBit w.chEn row.val = true → s.on TIM.XTAL_STAT_FAIL = false → Completes (.pulse h row window x) s (fun t =>
      (∃ v, t.winAt h.val window.val = some v ∧ (w.row row.val).pulses <+: (v.row row.val).pulses ∧
        ∀ r, r ≠ row.val → v.row r = w.row r) ∧
      (∀ v ∈ s.wins, (v.head ≠ h.val ∨ v.window < window.val ∨ v.mtick ≠ s.now) → v ∈ t.wins) ∧
      ∀ f : Fld, area f.key ≠ 9 → area f.key ≠ 10 → t.rd f = s.rd f))) ∧
  (let changes := s.step128 = 127 ∧ ((∃ c ∈ s.commits, c.page = .rfe h ∧ c.due = .tick (s.now + 1)) ∨
      (∃ r ∈ s.resets, r.page = .rfe h ∧ r.due = .tick (s.now + 1)) ∨ ∃ a b c d e, .trim a b c d e ∈ (s.calOf h).take)
   Completes (.rfeSettingsSwitch h) s fun t => Frame [] s t ∧ t.commits = s.commits ∧ t.resets = s.resets ∧
    (∀ w ∈ s.wins, (w.head ≠ h.val ∨ w.window ≠ 7 ∨ w.mtick ≠ s.now) → w ∈ t.wins) ∧
    ∀ w, s.winAt h.val 7 = some w → ∃ v, t.winAt h.val 7 = some v ∧
      (changes → v.cut = min w.cut 15984) ∧ (¬ changes → v.cut = w.cut))

/-- WORK_UNIT_SLOT: an entry of an engine that only reserves its place changes nothing; an entry of Stipple draws the code of the
next window, or none where the book cannot be read; one of Lath brings the contexts of the next tick's unit into the cache; an
entry of a processing engine or of the islands is worked once in its tick, where every engine before it works the unit, and the
Skim slot gives every lit measurement of its unit its average and floor. UNIT_REPLAY works a unit that is marked within the
limits and counts it, and leaves every other unit (R35, R47, R49, R50, R122, R124, R136, R137, R224, R482). -/
def Obligations.Slots : Prop :=
  ∀ (p : Fin 9) (e : Fin 15) (i : Nat) (bookFails : Bool) (flips : List Flip) (fails : List ImageFail) (h : Head)
    (window group : Fin 8) (s : State), s.dark = false →
  (e.val < 3 ∨ e.val = 10 ∨ 11 < e.val → exec (.workUnitSlot p e i bookFails ⟨flips, fails⟩) s = .next s) ∧
  (e.val = 3 → Completes (.workUnitSlot p e i bookFails ⟨flips, fails⟩) s (fun t =>
    t.now = s.now ∧ t.wins = s.wins ∧ t.scd.done = s.scd.done ++ [(p.val, 3, i)] ∧
    ∀ x, s.slotAt p.val 3 i s.now = some x → x.head = h.val → x.window < 7 →
      (s.measured h.val).contains (x.window + 1) = true →
      let n := s.entryFor h s.now (x.window + 1)
      t.codeFor h.val (x.window + 1) = if s.on STP.BOOK_STAT_OK && !bookFails then some (n, codeOffsets (bookGaps n)) else none)) ∧
  (e.val = 9 → Completes (.workUnitSlot p e i bookFails ⟨flips, fails⟩) s (fun t =>
    t.now = s.now ∧ t.wins = s.wins ∧ t.scd.done = s.scd.done ++ [(p.val, 9, i)] ∧
    ∀ x, s.slotAt p.val 9 i (s.now + 1) = some x → s.foresee.measuredNext x.head x.window = true →
      ∃ y ∈ t.lth.cache, y.wu = { head := x.head, window := x.window, group := x.group, mtick := s.now + 1 })) ∧
  (4 ≤ e.val ∧ e.val ≤ 8 ∨ e.val = 11 → ∀ x, s.slotAt p.val e.val i (s.now - 1) = some x →
    ((p.val, e.val, i) ∈ s.scd.done ∨ s.workable e.val (x.unit (s.now - 1)) = false →
      exec (.workUnitSlot p e i bookFails ⟨flips, fails⟩) s = .next s) ∧
    ((p.val, e.val, i) ∉ s.scd.done → s.workable e.val (x.unit (s.now - 1)) = true →
      Completes (.workUnitSlot p e i bookFails ⟨flips, fails⟩) s (fun t =>
      t.now = s.now ∧ t.scd.done = s.scd.done ++ [(p.val, e.val, i)] ∧
      (e.val = 5 → ∀ w, s.winOf (x.unit (s.now - 1)) = some w → hasBit w.dropped x.group = false →
        ∃ v, t.winOf (x.unit (s.now - 1)) = some v ∧ ∀ r < 16, w.worked (16 * x.group + r) = true →
          (v.row (16 * x.group + r)).skim = some (s.skimOf (x.unit (s.now - 1)) w r) ∧
          (v.row (16 * x.group + r)).sun =
            decide (w.rd (SKM.SKCFG_SUN_RATE x.head) < (s.skimOf (x.unit (s.now - 1)) w r).1))))) ∧
  let mine (r : ReplayMark) : Bool := r.wu.head == h.val && r.wu.window == window.val && r.wu.group == group.val && !r.ran
  (s.scd.replays.find? mine = none → exec (.unitReplay h window group fails) s = .next s) ∧
  ∀ r, s.scd.replays.find? mine = some r → Completes (.unitReplay h window group fails) s fun t =>
    t.rd SCD.REPLAY_STAT_REPLAYED = (if s.admitted.contains r then min (s.rd SCD.REPLAY_STAT_REPLAYED + 1)
      (2 ^ SCD.REPLAY_STAT_REPLAYED.width - 1) else s.rd SCD.REPLAY_STAT_REPLAYED) ∧ t.now = s.now ∧
    (∃ x ∈ t.scd.replays, x.wu = r.wu ∧ x.ran = true) ∧ t.scd.marks = s.scd.marks ∧
    (s.admitted.contains r = false → s.rd SCD.REPLAY_STAT_DROPPED < t.rd SCD.REPLAY_STAT_DROPPED ∨
      t.rd SCD.REPLAY_STAT_DROPPED = 2 ^ SCD.REPLAY_STAT_DROPPED.width - 1)

/-- The writes of the point builder: the records of a tick go out once; the image of a coat that measured becomes READY at the
end of tick 1 of the next; the frame header goes out once, at the end of tick 1 of the next frame, with the snapshot boundary.
A device in SHADOW writes no header (R162, R164, R168, R227, R330). -/
def Obligations.PointWrites : Prop := ∀ s : State, Runs s →
  (s.ptb.wroteAt = some s.now → s.ptb.tap = [] → Completes .pointRecordWrite s fun t => Frame [] s t) ∧
  (s.ptb.wroteAt ≠ some s.now → Completes .pointRecordWrite s fun t => t.ptb.wroteAt = some s.now ∧ t.ptb.tap = [] ∧
    t.now = s.now ∧ t.wins.length = s.wins.length) ∧
  (s.step128 = 1 → s.ptb.imageAt ≠ some s.now → s.ptb.coatMeasPrev ≠ 0 → Completes .imageReady s (fun t =>
    t.rd PTB.IMG_STAT_READY = (s.coat + 3) % 4 ∧ t.rd PTB.IMG_SEQ_SEQ = (s.rd PTB.IMG_SEQ_SEQ + 1) % 2 ^ PTB.IMG_SEQ_SEQ.width ∧
    hasBit (t.rd (HDR.IRQ_STAT_IRQ .ptb)) 0 = true ∧ t.ptb.imageAt = some s.now ∧
    Frame [PTB.IMG_STAT_READY.key, PTB.IMG_SEQ_SEQ.key, (HDR.IRQ_STAT_IRQ .ptb).key] s t)) ∧
  ((s.step128 ≠ 1 ∨ s.ptb.imageAt = some s.now ∨ s.ptb.coatMeasPrev = 0) → exec .imageReady s = .next s) ∧
  (s.twn.lateHeader = false → s.tick ≠ 1 ∨ s.ptb.headerAt = some s.now → exec .frameHeaderWrite s = .next s) ∧
  (s.tick = 1 → s.ptb.headerAt ≠ some s.now → s.twn.released = false → s.twn.lateHeader = false →
    Completes .frameHeaderWrite s (fun t =>
      t.ptb.headerAt = some s.now ∧
      (s.ptb.prev.ended = true → t.rd LTH.SNAP_STAT_FRAME = (s.frame + 32767) % 32768 ∧
        t.rd LTH.SNAP_STAT_HALF = (s.frame + 32767) % 2 ∧ t.rd LTH.SNAP_STAT_VALID = 1 ∧
        t.rd LTH.SNAP_SEQ_SEQ = (s.rd LTH.SNAP_SEQ_SEQ + 1) % 2 ^ 32 ∧ hasBit (t.rd (HDR.IRQ_STAT_IRQ .lth)) 1 = true) ∧
      (s.ptb.prev.ended = false → t.rd LTH.SNAP_STAT_FRAME = s.rd LTH.SNAP_STAT_FRAME ∧
        t.rd LTH.SNAP_STAT_VALID = s.rd LTH.SNAP_STAT_VALID ∧ t.rd LTH.SNAP_SEQ_SEQ = s.rd LTH.SNAP_SEQ_SEQ) ∧
      (s.publishes = true → s.ptb.prev.ended = true → hasBit (t.rd (HDR.IRQ_STAT_IRQ .ptb)) 1 = true) ∧
      (s.publishes = false → t.rd PTB.FH_WR_IDX_IDX = s.rd PTB.FH_WR_IDX_IDX ∧ t.ptb.fh = s.ptb.fh)))

/-- Runs of a lane group: WFL_CAL.GO asks for one at the next tick boundary; it starts there, and while the head measures under an
image without CAL_SHARE it waits with CAL_PEND; 16 ticks later it ends, with CAL_DONE, and not before (R195, R196, R266).
SYNC_IN: an edge selects the next tick boundary at least 1 µs away; SYNC_RESET there restarts the held lanes' decimation in
phase 0, counts the edge in every group, restarts the housekeeping round and the dividers of the marked outputs; without a
selected edge it changes nothing (R215, R250, R437). -/
def Obligations.LaneRuns : Prop :=
  (∀ (h : Head) (rs : List LaneResult) (ns : Fin 100000) (n : Nat) (s : State), Runs s →
    ((s.wflOf h).run ≠ none → exec (.wflCalGo h ns) s = .next s) ∧
    ((s.wflOf h).run = none → Completes (.wflCalGo h ns) s (fun t =>
      (t.wflOf h).pend = some ((s.wflOf h).pend.getD (s.nextTick ns.val)) ∧ (∀ g : Head, g ≠ h → t.wflOf g = s.wflOf g) ∧ Frame [] s t)) ∧
    ((s.wflOf h).run = none → (s.wflOf h).pend = some n → s.on CAL.FAULT_STAT_HALTED = false →
      (s.now < n → exec (.wflCalStart h) s = .next s) ∧
      (n ≤ s.now → s.headMeasures h && s.rd SCD.RUN_INFO_CAL_SHARE == 0 → Completes (.wflCalStart h) s (fun t =>
        t.rd (WFL.GSTAT_CAL_PEND h.val) = 1 ∧ t.wflOf h = s.wflOf h ∧ Frame [(WFL.GSTAT_CAL_PEND h.val).key] s t)) ∧
      (n ≤ s.now → (s.headMeasures h && s.rd SCD.RUN_INFO_CAL_SHARE == 0) = false → Completes (.wflCalStart h) s (fun t =>
        (t.wflOf h).run = some s.now ∧ (t.wflOf h).pend = none ∧
        t.rd (WFL.GSTAT_CAL_BUSY h.val) = 1 ∧ t.rd (WFL.GSTAT_CAL_PEND h.val) = 0 ∧
        hasBit (t.rd CAL.BUSY_KINDS) (4 * h.val + 2) = true ∧ hasBit (t.rd CAL.PEND_KINDS) (4 * h.val + 2) = false ∧
        Frame [(WFL.GSTAT_CAL_BUSY h.val).key, (WFL.GSTAT_CAL_PEND h.val).key, CAL.BUSY_KINDS.key, CAL.PEND_KINDS.key] s t))) ∧
    ((s.wflOf h).run = some n →
      (s.now < n + 16 → exec (.wflCalEnd h rs ns) s = .next s) ∧
      (n + 16 ≤ s.now → Completes (.wflCalEnd h rs ns) s (fun t =>
        (t.wflOf h).run = none ∧ t.rd (WFL.GSTAT_CAL_BUSY h.val) = 0 ∧ hasBit (t.rd (HDR.IRQ_STAT_IRQ (.wfl h))) 0 = true ∧
        hasBit (t.rd CAL.BUSY_KINDS) (4 * h.val + 2) = false ∧ t.rd (CAL.HSTAT_LAST_KIND h.val) = 2)))) ∧
  (∀ (ns : Fin 100000) (s : State), Runs s →
    Completes (.syncInEdge ns) s (fun t => t.tim.syncAt = s.tim.syncAt ++ [s.nextTick ns.val] ∧ Frame [] s t) ∧
    ((∀ n ∈ s.tim.syncAt, s.now < n) → exec .syncReset s = .next s) ∧
    ((∃ n ∈ s.tim.syncAt, n ≤ s.now) → Completes .syncReset s (fun t =>
      (∀ h : Head, (t.wflOf h).heldCnt = 0 ∧ (t.wflOf h).heldFrom = s.now * tickSmp ∧ t.rd (WFL.GSTAT_SYNC_CNT h.val) =
        (s.rd (WFL.GSTAT_SYNC_CNT h.val) + (s.tim.syncAt.filter fun n => decide (n ≤ s.now)).length) % 256) ∧
      t.rd HKP.HSTAT_ROUND_POS = 0 ∧ (∀ n ∈ t.tim.syncAt, s.now < n) ∧
      ∀ o ∈ s.syncOutputs, Sparse.get t.boot.divStart o (s.now + 1) = s.now)))

/-- CAPTURE_PLAN: once before a tick; of the requests of a head that is absent every one is discarded and counted unserved; else
no window gets more injections than INJ_MAX, and no lane two of them (R204 to R207). HREQ: a request is taken with its row,
column and count where none is busy; a count of 0 answers CFG_ZERO and a second request, which is counted and lost, CFG_BUSY
with bit 3. LANE_PARITY_ERROR spoils the lane's capture in the window from its sample on, counts, and raises bit 4; one in the
sequencer twice running has the lane of the group declared faulty. LANE_POWER_UP powers a lane of a group that captures (R201,
R204, R205, R213, R217). -/
def Obligations.CaptureRequests : Prop :=
  (∀ (h : Head) (s : State), s.dark = false →
    ((s.wflOf h).planned = some (s.now + 1) → exec (.capturePlan h) s = .next s) ∧
    ((s.wflOf h).planned ≠ some (s.now + 1) → s.present h.val = false → hasBit (s.joinsAt (s.now + 1)) h.val = false →
      Completes (.capturePlan h) s (fun t =>
        (t.wflOf h).dst = [] ∧ (t.wflOf h).host = none ∧ (t.wflOf h).ambig = [] ∧ t.rd (WFL.HREQ_BUSY h.val) = 0 ∧
        t.rd (WFL.INJ_UNSERVED_COUNT h.val) = min (s.rd (WFL.INJ_UNSERVED_COUNT h.val) + ((s.wflOf h).dst.length +
          (match (s.wflOf h).host with | some r => r.2 | none => 0) + (s.wflOf h).ambig.length)) (2 ^ 32 - 1) ∧
        Frame [(WFL.HREQ_BUSY h.val).key, (WFL.INJ_UNSERVED_COUNT h.val).key] s t)) ∧
    ((s.wflOf h).planned ≠ some (s.now + 1) → ((s.wflOf h).plan.all fun e => decide (e.tick ≤ s.now)) →
      Completes (.capturePlan h) s (fun t =>
        (t.wflOf h).planned = some (s.now + 1) ∧ (∀ g : Head, g ≠ h → t.wflOf g = s.wflOf g) ∧
        ∀ j : Fin 8, let inj := (t.wflOf h).plan.filter fun e => e.tick == s.now + 1 && e.window == j.val && e.inj
          inj.length ≤ s.rd (WFL.GCFG_INJ_MAX h.val) ∧ (inj.map PlanEnt.lane).Nodup))) ∧
  (∀ (h : Head) (row : Fin 128) (col : Fin 1024) (any : Bool) (count : Fin 256) (ns : Fin 100000) (lane window : Fin 8) (sample : Nat)
      (sequencer : Bool) (s : State), Runs s →
    let regs := [(WFL.HREQ_ROW h.val).key, (WFL.HREQ_COL h.val).key, (WFL.HREQ_ANYCOL h.val).key, (WFL.HREQ_COUNT h.val).key]
    Completes (.hreq h row col any count ns) s (fun t =>
      t.rd (WFL.HREQ_ROW h.val) = row.val ∧ t.rd (WFL.HREQ_COL h.val) = col.val ∧ t.on (WFL.HREQ_ANYCOL h.val) = any ∧
      t.rd (WFL.HREQ_COUNT h.val) = count.val ∧
      (count.val = 0 → t.rd (HDR.ERR_CODE_CODE (.wfl h)) = CFG_ZERO ∧ t.wfl = s.wfl ∧
        Frame (regs ++ codeKeys (.wfl h)) s t) ∧
      (count.val ≠ 0 → s.on (WFL.HREQ_BUSY h.val) = true → t.rd (HDR.ERR_CODE_CODE (.wfl h)) = CFG_BUSY ∧ t.wfl = s.wfl ∧
        t.rd (WFL.URG_CNT0_HOST h.val) = min (s.rd (WFL.URG_CNT0_HOST h.val) + 1) (2 ^ (WFL.URG_CNT0_HOST h.val).width - 1) ∧
        t.rd (WFL.INJ_UNSERVED_COUNT h.val) = min (s.rd (WFL.INJ_UNSERVED_COUNT h.val) + 1) (2 ^ 32 - 1) ∧
        hasBit (t.rd (HDR.IRQ_STAT_IRQ (.wfl h))) 3 = true ∧
        Frame (regs ++ [(WFL.URG_CNT0_HOST h.val).key, (WFL.INJ_UNSERVED_COUNT h.val).key, (HDR.IRQ_STAT_IRQ (.wfl h)).key] ++
          codeKeys (.wfl h)) s t) ∧
      (count.val ≠ 0 → s.on (WFL.HREQ_BUSY h.val) = false → t.rd (WFL.HREQ_BUSY h.val) = 1 ∧
        (t.wflOf h).host = some ({ row := row.val, col := if any then none else some col.val, tick := s.now, ns := ns.val }, count.val) ∧
        Frame (regs ++ [(WFL.HREQ_BUSY h.val).key, (WFL.URG_CNT0_HOST h.val).key]) s t)) ∧
    Completes (.laneParityError h lane window sample sequencer) s (fun t =>
      t.rd (WFL.PAR_CNT_COUNT h.val) = min (s.rd (WFL.PAR_CNT_COUNT h.val) + 1) (2 ^ 16 - 1) ∧
      hasBit (t.rd (HDR.IRQ_STAT_IRQ (.wfl h))) 4 = true ∧
      (∀ w, s.winAt h.val window.val = some w → ∃ v, t.winAt h.val window.val = some v ∧ ∀ r, (v.row r).capts =
        (w.row r).capts.map fun c => if c.lane = lane.val then { c with spoil := some (min sample (c.spoil.getD sample)) } else c) ∧
      (sequencer = false → t.scd = s.scd) ∧ (sequencer = true → ∃ u, t.scd.errs = s.scd.errs ++ [(2, h.val, u)]) ∧
      (sequencer = false ∨ (∀ x ∈ s.scd.errsPrev, x.1 = 2 → x.2.1 ≠ h.val) →
        Frame [(WFL.PAR_CNT_COUNT h.val).key, (HDR.IRQ_STAT_IRQ (.wfl h)).key] s t) ∧
      (sequencer = true → (∃ x ∈ s.scd.errsPrev, x.1 = 2 ∧ x.2.1 = h.val) → s.on (SCD.LANE_MAP_PENDING 2) = false →
        s.on (SCD.LANE_MAP_REMAPPED 2) = false → s.on (SCD.LANE_MAP_EXHAUSTED 2) = false →
        t.rd (SCD.LANE_MAP_PENDING 2) = 1 ∧ t.rd (SCD.LANE_MAP_FAULTY 2) = h.val ∧ hasBit (t.rd (HDR.IRQ_STAT_IRQ .scd)) 2 = true)) ∧
    ((s.groupOn h && s.laneUsable h lane.val) = false → exec (.lanePowerUp h lane) s = .next s) ∧
    ((s.groupOn h && s.laneUsable h lane.val) = true → Completes (.lanePowerUp h lane) s (fun t =>
      (∀ k, hasBit (t.wflOf h).power k = (hasBit (s.wflOf h).power k || k == lane.val)) ∧
      (∀ g : Head, g ≠ h → t.wflOf g = s.wflOf g) ∧ Frame [] s t)))

/-- DDR channels: after training every channel shows its DIMMs and the grade, SYN3 runs at it, and a channel that trained is
TRAINED; a channel that fails shows FAILED for good, with bit 0 and its bit of MEM_SIZE.FAILED; each poll shows the hottest DIMM,
doubles the refresh above 85 °C and raises bit 2 above 95 °C (R229, R230, R233, R236). -/
def Obligations.MemoryChannels : Prop :=
  ∀ (pop : List DimmInfo) (withStored inFull : BitVec 4) (c : Fin 4) (temps : List (List Int)) (s : State), Runs s →
  (s.boot.train = false → exec (.ddrTrainingDone pop withStored inFull) s = .next s) ∧
  (s.boot.train = true → (∀ k < 4, s.on (MEM.STAT_FAILED k) = false) → Completes (.ddrTrainingDone pop withStored inFull) s (fun t =>
    t.boot.train = false ∧
    t.rd LTH.MEM_SIZE_MIB = ((List.range 4).map fun k => (dimmsOf pop k).dimms * (dimmsOf pop k).gib).sum * 1024 % 2 ^ 20 ∧
    t.rd (CLK.SYN_STAT_SLOT 3) = s.grade pop % 16 ∧ t.rd (CLK.SYN_STAT_LOCK 3) = 1 ∧
    t.rd (MEM.STAT_DIMMS c.val) = (dimmsOf pop c.val).dimms % 4 ∧ t.rd (MEM.STAT_SPEED c.val) = s.grade pop % 4 ∧
    (t.on (MEM.STAT_TRAINED c.val) = true → populated pop c.val = true ∧ t.on (MEM.STAT_FAILED c.val) = false) ∧
    (populated pop c.val = true → inFull.getLsbD c.val = true → t.on (MEM.STAT_TRAINED c.val) = true) ∧
    (populated pop c.val = false → t.on (MEM.STAT_FAILED c.val) = true ∧ hasBit (t.rd LTH.MEM_SIZE_FAILED) c.val = true))) ∧
  (s.on (MEM.STAT_FAILED c.val) = true → exec (.channelFail c) s = .next s) ∧
  (s.on (MEM.STAT_FAILED c.val) = false → Completes (.channelFail c) s (fun t =>
    t.rd (MEM.STAT_FAILED c.val) = 1 ∧ t.rd (MEM.STAT_TRAINED c.val) = 0 ∧
    hasBit (t.rd LTH.MEM_SIZE_FAILED) c.val = true ∧ hasBit (t.rd (HDR.IRQ_STAT_IRQ (.mem c))) 0 = true ∧
    t.boot.memFail = true ∧ t.twn.unclean = true ∧
    Frame ([(MEM.STAT_FAILED c.val).key, (MEM.STAT_TRAINED c.val).key, LTH.MEM_SIZE_FAILED.key, CLK.PHY_LOCK_DDR.key,
      PWR.DOM_ON_LO_ON.key, PWR.DOM_ON_HI_ON.key, (HDR.IRQ_STAT_IRQ (.mem c)).key] ++ eventKeys) s t)) ∧
  Completes (.dimmTempPoll temps) s (fun t =>
    (hottest (temps.getD c.val []) = none → t.rd (MEM.DTEMP_TEMP c.val) = s.rd (MEM.DTEMP_TEMP c.val)) ∧
    (∀ x, hottest (temps.getD c.val []) = some x →
      t.rd (MEM.DTEMP_TEMP c.val) = unsgn 8 x ∧ t.on (MEM.DTEMP_REF2X c.val) = decide (85 < x) ∧
      (95 < x → hasBit (t.rd (HDR.IRQ_STAT_IRQ (.mem c))) 2 = true)) ∧
    ∀ f : Fld, area f.key ∉ [14, 15] → t.rd f = s.rd f)

/-- The host's lines of device memory: while the link or CXL.mem is down, or where no decoder answers, nothing happens; in HOLD,
on a failed channel, on a burst that fails its check or beyond the installed memory a read answers poison, counted; outside every
region it answers zeros, counted in REG_VIOL; else it brings what the burst reads, of the snapshot window from the image shown. A
line of RENDER or HOST that is written reads back as written, and no other byte changes; a write elsewhere is discarded and counted
in REG_VIOL, as is every write of the snapshot window (R228, R231, R234, R236, R340, R341; log entry 60 for HOLD). -/
def Obligations.HostMemory : Prop := ∀ (hpa : Nat) (copy : Bool) (flips : List Flip) (b : List Byte) (s : State), s.dark = false →
  let poisoned (t : State) : Prop :=
    .memRead (hpa / 64 * 64) none false ∈ t.out ∧
    t.rd CXL0.ERR_CNT_POISON = min (s.rd CXL0.ERR_CNT_POISON + 1) (2 ^ 16 - 1) ∧ hasBit (t.rd (HDR.IRQ_STAT_IRQ .cxl0)) 3 = true
  let counts : List Nat := [CXL0.ERR_CNT_POISON.key, (HDR.IRQ_STAT_IRQ .cxl0).key]
  let refused (t : State) : Prop :=
    t.rd LTH.REG_VIOL_COUNT = min (s.rd LTH.REG_VIOL_COUNT + 1) (2 ^ 16 - 1) ∧ t.rd LTH.REG_VIOL_ENGINE = 15 ∧
    hasBit (t.rd (HDR.IRQ_STAT_IRQ .lth)) 2 = true ∧
    Frame ([LTH.REG_VIOL_COUNT.key, LTH.REG_VIOL_REGION.key, LTH.REG_VIOL_ENGINE.key, (HDR.IRQ_STAT_IRQ .lth).key] ++ eventKeys) s t
  ((s.on CXL0.LINK_STAT_MEM_EN = false ∨ s.linkUp = false ∨ s.decode (hpa / 64 * 64) = none) →
    exec (.hostMemRead hpa copy flips) s = .next s ∧ exec (.hostMemWrite hpa b) s = .next s) ∧
  (s.on CXL0.LINK_STAT_MEM_EN = true → s.linkUp = true → ∀ d, s.decode (hpa / 64 * 64) = some d →
    let p := if windowBase ≤ d then s.windowAddr (d - windowBase) else d
    (s.inHold = true → Completes (.hostMemRead hpa copy flips) s (fun t => poisoned t ∧ Frame counts s t) ∧
      exec (.hostMemWrite hpa b) s = .next s) ∧
    (s.inHold = false → d < windowBase → s.memSize ≤ d →
      Completes (.hostMemRead hpa copy flips) s fun t => poisoned t ∧ Frame counts s t) ∧
    (s.inHold = false → d < windowBase → d < s.memSize → s.regionOf d = none →
      Completes (.hostMemRead hpa copy flips) s fun t => .memRead (hpa / 64 * 64) (some (List.replicate 64 0)) false ∈ t.out ∧ refused t) ∧
    (s.inHold = false → windowBase ≤ d ∨ d < s.memSize ∧ s.regionOf d ≠ none →
      ((s.readBursts flips p 1).any BurstRead.bad = true → Completes (.hostMemRead hpa copy flips) s fun t =>
        poisoned t ∧ (∀ f : Fld, area f.key ∉ [3, 4, 13, 14, 15] → t.rd f = s.rd f) ∧ (∀ a, t.ld a = s.ld a) ∧
        ∀ a, t.fld a = s.fld a) ∧
      ((s.readBursts flips p 1).any BurstRead.bad = false → Completes (.hostMemRead hpa copy flips) s fun t =>
        (∃ g : Bool, .memRead (hpa / 64 * 64) (some (burstBytes (s.readBursts flips p 1))) g ∈ t.out ∧
          (g = true → copy = true ∧ s.host.biEn = true ∧ d < windowBase)) ∧ Frame [CXL0.BI_STAT_EVICT.key] s t) ∧
      (flips = [] → s.chanFailed (channelOf p) = false → Completes (.hostMemRead hpa copy flips) s fun t =>
        ∃ g : Bool, .memRead (hpa / 64 * 64) (some (s.ldN p 64)) g ∈ t.out)) ∧
    (s.inHold = false → d < windowBase → (s.inRegion 2 d 64 || s.inRegion 5 d 64) = true → s.chanFailed (channelOf d) = false →
      Completes (.hostMemWrite hpa b) s fun t =>
        (∀ i < 64, t.ld (d + i) = b.getD i 0) ∧ (∀ a, a < d ∨ d + 64 ≤ a → t.ld a = s.ld a) ∧
        (∀ f : Fld, t.rd f = s.rd f) ∧ ∀ a, t.fld a = s.fld a) ∧
    (s.inHold = false → (windowBase ≤ d ∨ (s.inRegion 2 d 64 || s.inRegion 5 d 64) = false) →
      Completes (.hostMemWrite hpa b) s refused))

/-- Housekeeping results and the thermal manager: a tripped monitor ends its pulse with an OPEN result; an evaluation happens once
where it is due, and a level it takes is at most 4, raised with bit 0 and fresh counters; a change of step takes hold as far as
the boundary that began the tick allows, with the step that stood there (R242, R247, R251, R253, R254). -/
def Obligations.Thermal : Prop := ∀ (ns : Fin 100000) (s : State), Runs s →
  (s.hkp.pulse = none → exec .rtdOpenLead s = .next s) ∧
  (∀ n b, s.hkp.pulse = some (n, b) → Completes .rtdOpenLead s (fun t =>
    t.rd (HKP.RES_RESULT (16 + n.val)) % 65536 = 32767 ∧ hasBit (t.rd (HKP.RES_RESULT (16 + n.val))) 16 = true ∧
    hasBit (t.rd (HKP.RES_RESULT (16 + n.val))) 17 = true ∧
    t.rd (HKP.RES_RESULT (16 + n.val)) / 2 ^ 20 = (s.rd (HKP.RES_RESULT (16 + n.val)) / 2 ^ 20 + 1) % 4096 ∧
    t.rd (HKP.RTD_T_VALID n.val) = 0 ∧ hasBit (t.rd (HDR.IRQ_STAT_IRQ .hkp)) 0 = true ∧ t.hkp.pulse = none ∧
    t.rd HKP.HSTAT_OPEN_CNT = min (s.rd HKP.HSTAT_OPEN_CNT + 1) (2 ^ 16 - 1) ∧
    Frame [(HKP.RES_RESULT (16 + n.val)).key, (HKP.RTD_T_VALID n.val).key, HKP.HSTAT_OPEN_CNT.key, (HDR.IRQ_STAT_IRQ .hkp).key] s t)) ∧
  (s.hkp.evalDue = false → exec (.thermalEvaluation ns) s = .next s) ∧
  (s.hkp.evalDue = true → Completes (.thermalEvaluation ns) s (fun t =>
    t.hkp.evalDue = false ∧ (s.rd THM.TSTAT_LEVEL ≤ 4 → t.rd THM.TSTAT_LEVEL ≤ 4) ∧
    (t.rd THM.TSTAT_LEVEL ≠ s.rd THM.TSTAT_LEVEL →
      t.rd THM.TSTAT_UP = 0 ∧ t.rd THM.TSTAT_DN = 0 ∧ hasBit (t.rd (HDR.IRQ_STAT_IRQ .thm)) 0 = true) ∧
    ∀ i < 16, t.on (THM.SENS_VALID i) = t.sensorOk i)) ∧
  Completes .throttleStepChange s (fun t =>
    t.hkp.slow = decide (1 ≤ s.hkp.bndStep) ∧
    t.hkp.plain = (if s.step128 = 0 then decide (2 ≤ s.hkp.bndStep) else s.hkp.plain) ∧
    t.scd.variant = (if s.tick = 0 then s.hkp.bndStep == 3 else s.scd.variant) ∧
    (s.tick = 0 → t.on SCD.RUN_INFO_VARIANT = (s.hkp.bndStep == 3)) ∧
    Frame (if s.tick = 0 then [SCD.RUN_INFO_VARIANT.key] else []) s t)

/-- CAL_CMD makes the kinds pending for the heads it names, and none for a head or a kind it does not name; an empty one answers
CFG_ZERO. STORE asks the flash for the AON copy, which starts no operation once the thermal latch is set, or answers CFG_BUSY
(R258, R265, R276, R278). CAL_PARITY_ERROR: each is counted and raises bit 4; it ends the runs of the heads concerned, whose
kinds become pending again, and a second one in the next tick halts the manager (R274). -/
def Obligations.CalibrationCommands : Prop :=
  (∀ (heads : Fin 256) (kinds : Fin 16) (ns : Fin 100000) (s : State), Runs s →
    (heads.val = 0 ∨ kinds.val = 0 → Completes (.calCmd heads kinds ns) s (fun t =>
      t.rd (HDR.ERR_CODE_CODE .cal) = CFG_ZERO ∧ t.wfl = s.wfl ∧ Frame (codeKeys .cal) s t)) ∧
    (heads.val ≠ 0 → kinds.val ≠ 0 → Completes (.calCmd heads kinds ns) s (fun t =>
      (∀ h : Head, ∀ k : Fin 4, hasBit (t.rd CAL.PEND_KINDS) (4 * h.val + k.val) =
        (hasBit (s.rd CAL.PEND_KINDS) (4 * h.val + k.val) || (hasBit heads.val h.val && hasBit kinds.val k.val))) ∧
      Frame [CAL.PEND_KINDS.key] s t)) ∧
    (s.on CAL.STORE_BUSY = true → Completes .store s (fun t =>
      t.rd (HDR.ERR_CODE_CODE .cal) = CFG_BUSY ∧ t.boot.ops = s.boot.ops ∧ Frame (codeKeys .cal) s t)) ∧
    (s.on CAL.STORE_BUSY = false → Completes .store s (fun t =>
      t.rd CAL.STORE_BUSY = 1 ∧ t.boot.ops = (if s.latched then s.boot.ops else s.boot.ops ++ [{ src := .cal, area := 7, body := s.calStore }]) ∧
      Frame [CAL.STORE_BUSY.key] s t))) ∧
  (∀ (heads : Fin 256) (s : State), s.dark = false →
    Completes (.calParityError heads) s (fun t =>
      t.rd CAL.FAULT_STAT_PARITY = min (s.rd CAL.FAULT_STAT_PARITY + 1) (2 ^ 16 - 1) ∧
      hasBit (t.rd (HDR.IRQ_STAT_IRQ .cal)) 4 = true ∧ t.cal.errAt = some s.now ∧
      t.on CAL.FAULT_STAT_HALTED = (s.on CAL.FAULT_STAT_HALTED || (s.cal.errAt == some (s.now - 1) && decide (0 < s.now))) ∧
      ∀ h : Head, hasBit heads.val h.val = true → ∀ k : Fin 4,
        hasBit (t.rd CAL.BUSY_KINDS) (4 * h.val + k.val) = false ∧
        (hasBit (s.rd CAL.BUSY_KINDS) (4 * h.val + k.val) = true → hasBit (t.rd CAL.PEND_KINDS) (4 * h.val + k.val) = true)))

/-- Calibration runs end: a trim or skew run of a head hands its results to the check after 16 counted coats, in REPEAT mode
after twice 16, and not before; the check empties what waited for it; the end of Primer sets every head's reference temperature
(R263 to R268, R275). -/
def Obligations.CalibrationRuns : Prop := ∀ (h : Head) (ns : Fin 100000) (rs : List PrimerResult) (s : State), s.dark = false →
  ((hasBit (s.calBusy h.val) 1 = false ∨ (s.calOf h).rfe < 16 ∨ (s.calOf h).rfe = 33) → exec (.rfeRunEnd h) s = .next s) ∧
  (hasBit (s.calBusy h.val) 1 = true → 16 ≤ (s.calOf h).rfe → (s.calOf h).rfe ≠ 33 →
    ((s.calOf h).twice = true → (s.calOf h).rfe < 32 → Completes (.rfeRunEnd h) s (fun t => (t.calOf h).rfe1 ≠ none ∧
      (t.calOf h).rfe = (s.calOf h).rfe ∧ (t.calOf h).res = (s.calOf h).res ∧ t.cal.rfe = s.cal.rfe ∧
      (∀ g : Head, g ≠ h → t.calOf g = s.calOf g) ∧ Frame [] s t)) ∧
    ((s.calOf h).twice = false ∨ 32 ≤ (s.calOf h).rfe → Completes (.rfeRunEnd h) s (fun t =>
      (t.calOf h).rfe = 33 ∧ (t.calOf h).rfe1 = none ∧ (s.calOf h).res <+: (t.calOf h).res ∧ (∀ e ∈ t.cal.rfe, e.1 / 128 ≠ h.val) ∧
      (∀ g : Head, g ≠ h → t.calOf g = s.calOf g) ∧ Frame [] s t))) ∧
  ((hasBit (s.calBusy h.val) 3 = false ∨ (s.calOf h).skew < 16 ∨ (s.calOf h).skew = 33 ∨ s.now ≤ (s.calOf h).skewAt.getLastD 0) → exec (.skewRunEnd h) s = .next s) ∧
  (hasBit (s.calBusy h.val) 3 = true → 16 ≤ (s.calOf h).skew → (s.calOf h).skew ≠ 33 → (s.calOf h).skewAt.getLastD 0 < s.now →
    ((s.calOf h).twice = true → (s.calOf h).skew < 32 → Completes (.skewRunEnd h) s (fun t => (t.calOf h).skew1 ≠ none ∧
      (t.calOf h).skew = (s.calOf h).skew ∧ (t.calOf h).res = (s.calOf h).res ∧ t.cal.skew = s.cal.skew ∧
      (∀ g : Head, g ≠ h → t.calOf g = s.calOf g) ∧ Frame [] s t)) ∧
    ((s.calOf h).twice = false ∨ 32 ≤ (s.calOf h).skew → Completes (.skewRunEnd h) s (fun t =>
      (t.calOf h).skew = 33 ∧ (t.calOf h).skew1 = none ∧ (s.calOf h).res <+: (t.calOf h).res ∧ (∀ e ∈ t.cal.skew, e.1 / 128 ≠ h.val) ∧
      (∀ g : Head, g ≠ h → t.calOf g = s.calOf g) ∧ Frame [] s t))) ∧
  Completes (.calCheck h ns) s (fun t => (t.calOf h).res = [] ∧ ∀ k < 4, k ≠ 2 →
    hasBit (t.calBusy h.val) k = true → hasBit (s.calBusy h.val) k = true) ∧
  (s.cal.primer = none → exec (.primerEnd rs) s = .next s) ∧
  (s.cal.primer ≠ none → s.rd CAL.BUSY_KINDS = 0 → s.rd CAL.PEND_KINDS &&& 0x55555555 = 0 → Completes (.primerEnd rs) s (fun t =>
    t.cal.primer = none ∧ (∀ g : Head, (t.calOf g).tref = some (t.blockTemp g.val)) ∧
    ∀ g : Head, hasBit s.cal.stored g.val = false → hasBit (t.rd CAL.PEND_KINDS) (4 * g.val + 3) = true))

/-- OSSD channels stay off outside RUN, and the emitter enables outside CONFIG and RUN, whatever command is worked; so it is after
reset (R293, R295, R297, R299). -/
def Obligations.OutputsStayOff : Prop :=
  OutputsOff State.reset ∧ ∀ s t : State, OutputsOff s → step s = .next t → OutputsOff t

/-- FLOAD is taken in CONFIG alone, one load at a time; its end shows a code, and an image is in force exactly where it is 0.
CONFIRM leaves CONFIG for RUN exactly where the value equals the identity computed and the configuration may be confirmed; ENTER_CONFIG
waits for the next strobe, except in FAULT_W; a store asks the flash for what was confirmed (R282, R297). -/
def Obligations.SafetyConfiguration : Prop := ∀ (flash : Bool) (flips : List Flip) (v : BitVec 32) (s : State), Runs s →
  (s.safState ≠ 1 → Completes (.fload flash) s (fun t =>
    t.rd SAF.FLOAD_CODE = SAFETY_LOCK ∧ t.saf = s.saf ∧ Frame [SAF.FLOAD_CODE.key] s t)) ∧
  (s.safState = 1 → s.on SAF.FLOAD_BUSY = true → Completes (.fload flash) s (fun t =>
    t.rd SAF.FLOAD_CODE = CFG_BUSY ∧ t.saf = s.saf ∧ Frame [SAF.FLOAD_CODE.key] s t)) ∧
  (s.safState = 1 → s.on SAF.FLOAD_BUSY = false → Completes (.fload flash) s (fun t =>
    t.rd SAF.FLOAD_BUSY = 1 ∧ t.on SAF.FLOAD_FLASH = flash ∧ Frame [SAF.FLOAD_FLASH.key, SAF.FLOAD_BUSY.key] s t)) ∧
  (s.on SAF.FLOAD_BUSY = false → exec (.floadDone flips) s = .next s) ∧
  (s.on SAF.FLOAD_BUSY = true → Completes (.floadDone flips) s (fun t =>
    t.rd SAF.FLOAD_BUSY = 0 ∧ (t.rd SAF.FLOAD_CODE = 0 ↔ t.saf.img ≠ none) ∧
    (s.on SAF.FLOAD_FLASH = false → s.memSize < s.rd SAF.FL_ADDR_ADDR * 4096 + fieldLen → t.rd SAF.FLOAD_CODE = CFG_RANGE) ∧
    t.rd SAF.SCID_A_SCID = t.scid % 2 ^ 32 ∧ t.rd SAF.SCID_B_SCID = t.scid % 2 ^ 32)) ∧
  Completes .enterConfig s (fun t => Frame [] s t ∧ t.saf = { s.saf with toConfig := s.saf.toConfig || s.safState != 3 }) ∧
  (s.safState ≠ 1 → Completes (.confirm v) s (fun t =>
    t.rd (HDR.ERR_CODE_CODE .saf) = SAFETY_LOCK ∧ t.saf = s.saf ∧ Frame (codeKeys .saf) s t)) ∧
  (s.safState = 1 → s.on SAF.FLOAD_BUSY = true → Completes (.confirm v) s (fun t =>
    t.rd (HDR.ERR_CODE_CODE .saf) = CFG_BUSY ∧ t.saf = s.saf ∧ Frame (codeKeys .saf) s t)) ∧
  (s.safState = 1 → s.on SAF.FLOAD_BUSY = false → Completes (.confirm v) s (fun t =>
    if s.confirmable = true ∧ v.toNat = s.scid % 2 ^ 32 then
      t.rd (HDR.ERR_CODE_CODE .saf) = 0 ∧ t.safState = 2 ∧ t.saf.confirmed = some v.toNat ∧ t.rd SAF.STAT_PF_DEM = 1 ∧
      t.rd SAF.STAT_WF_DEM = 1 ∧ t.saf.set = none
    else t.rd (HDR.ERR_CODE_CODE .saf) = CFG_RANGE ∧ t.safState = 1 ∧ t.saf = s.saf)) ∧
  (s.on SAF.MODE_STORE_BUSY = true → Completes .safetyStore s (fun t =>
    t.rd (HDR.ERR_CODE_CODE .saf) = CFG_BUSY ∧ t.boot = s.boot ∧ Frame (codeKeys .saf) s t)) ∧
  (s.on SAF.MODE_STORE_BUSY = false → (s.saf.confImg = none ∨ s.saf.confirmed = none) → Completes .safetyStore s (fun t =>
    t.rd SAF.MODE_STORE_CODE = CFG_RANGE ∧ t.boot = s.boot ∧ Frame [SAF.MODE_STORE_CODE.key] s t)) ∧
  (s.on SAF.MODE_STORE_BUSY = false → s.saf.confImg ≠ none → s.saf.confirmed ≠ none → Completes .safetyStore s (fun t =>
    t.rd SAF.MODE_STORE_BUSY = 1 ∧ (∃ o, t.boot.ops = (if s.latched then s.boot.ops else s.boot.ops ++ [o]) ∧ o.src = .saf ∧ o.area = 8) ∧
    Frame [SAF.MODE_STORE_BUSY.key] s t))

/-- START ends in FAULT_W where the self-test failed, else in RUN or CONFIG, and in RUN only with the identity that was confirmed;
a fault of the clock or of an island's state latches, and puts the islands in FAULT_W with every output and enable off (R297,
R298, R299). The emitter enables: a new request holds both off; the check asserts them only where both readbacks read low
before, and keeps them only where both read high after; a readback that differs from its enable latches EMIT and opens both
(R295, R296). -/
def Obligations.IslandFaults : Prop :=
  (∀ (ok : Bool) (s : State), Runs s →
    let down (f : Fld) (t : State) : Prop :=
      hasBit (t.rd f) 0 = true ∧ t.safState = 3 ∧ t.rd SAF.EMIT_HS_EN = 0 ∧ t.rd SAF.EMIT_LS_EN = 0 ∧
      t.saf.chA = 0 ∧ t.saf.chB = 0 ∧ hasBit (t.rd (HDR.IRQ_STAT_IRQ .saf)) 0 = true
    (s.safState ≠ 0 ∨ s.rd CTL.BOOT_STAT_STAGE = 7 → exec (.islandStartEnd ok) s = .next s) ∧
    (s.safState = 0 → s.rd CTL.BOOT_STAT_STAGE ≠ 7 → hasBit (s.rd SAF.FAULT_SELFTEST) 0 = false →
      Completes (.islandStartEnd false) s (down SAF.FAULT_SELFTEST)) ∧
    (s.safState = 0 → s.rd CTL.BOOT_STAT_STAGE ≠ 7 → Completes (.islandStartEnd true) s fun t =>
      (t.safState = 1 ∨ t.safState = 2) ∧ hasBit (t.rd (HDR.IRQ_STAT_IRQ .saf)) 2 = true ∧
      (t.safState = 2 → t.saf.img ≠ none ∧ t.saf.confirmed ≠ none)) ∧
    (hasBit (s.rd SAF.FAULT_CLOCK) 0 = true → exec .clockFault s = .next s) ∧
    (hasBit (s.rd SAF.FAULT_CLOCK) 0 = false → Completes .clockFault s (down SAF.FAULT_CLOCK)) ∧
    (hasBit (s.rd SAF.FAULT_SELFTEST) 0 = true → exec .islandParityError s = .next s) ∧
    (hasBit (s.rd SAF.FAULT_SELFTEST) 0 = false → Completes .islandParityError s (down SAF.FAULT_SELFTEST))) ∧
  (∀ (offHs offLs onHs onLs : Bool) (s : State), Runs s →
    (s.on SAF.EMIT_REQ = true → exec .emitReq s = .next s) ∧
    (s.on SAF.EMIT_REQ = false → Completes .emitReq s (fun t =>
      t.rd SAF.EMIT_REQ = 1 ∧ t.rd SAF.EMIT_HS_EN = 0 ∧ t.rd SAF.EMIT_LS_EN = 0 ∧ t.saf.emitOk = false ∧
      Frame [SAF.EMIT_REQ.key, SAF.EMIT_HS_EN.key, SAF.EMIT_LS_EN.key] s t)) ∧
    (s.saf.emitOk = true ∨ s.emitAllowed = false → exec (.emitCheck offHs offLs onHs onLs) s = .next s) ∧
    (s.saf.emitOk = false → s.emitAllowed = true → hasBit (s.rd SAF.FAULT_EMIT) 0 = false →
      Completes (.emitCheck offHs offLs onHs onLs) s (fun t =>
        if offHs = false ∧ offLs = false ∧ onHs = true ∧ onLs = true then
          t.rd SAF.EMIT_HS_EN = 1 ∧ t.rd SAF.EMIT_LS_EN = 1 ∧ t.saf.emitOk = true ∧ t.rd SAF.EMIT_HS_RB = 1 ∧ t.rd SAF.EMIT_LS_RB = 1
        else
          t.rd SAF.EMIT_HS_EN = 0 ∧ t.rd SAF.EMIT_LS_EN = 0 ∧ t.saf.emitOk = false ∧ hasBit (t.rd SAF.FAULT_EMIT) 0 = true ∧
          hasBit (t.rd (HDR.IRQ_STAT_IRQ .saf)) 0 = true)) ∧
    Completes (.emitFault onHs onLs) s (fun t =>
      t.on SAF.EMIT_HS_RB = onHs ∧ t.on SAF.EMIT_LS_RB = onLs ∧
      (onHs = s.on SAF.EMIT_HS_EN → onLs = s.on SAF.EMIT_LS_EN → Frame [SAF.EMIT_HS_RB.key, SAF.EMIT_LS_RB.key] s t) ∧
      ((onHs ≠ s.on SAF.EMIT_HS_EN ∨ onLs ≠ s.on SAF.EMIT_LS_EN) → hasBit (s.rd SAF.FAULT_EMIT) 0 = false →
        hasBit (t.rd SAF.FAULT_EMIT) 0 = true ∧ t.rd SAF.EMIT_HS_EN = 0 ∧ t.rd SAF.EMIT_LS_EN = 0)))

/-- The inputs, the OSSD tests and the conclusion of a coat: a pair that fails its test latches OSSD for it, and both its channels go
off, and a channel that passes it stands; a sample moves no filtered state of an unused input, shows where the channels of a used one
differ, and turns no channel on; the conclusion comes once, in tick 1 of the coat after, counts the coat,
and shows the verdicts with every head whose cells no unit covered (R286, R287, R290, R294). -/
def Obligations.SafetyEvaluation : Prop := ∀ (a b : Fin 16) (pair : Fin 2) (chB : Bool) (lows : List (Nat × Nat)) (s : State), Runs s →
  Completes (.safetyInputSample a b) s (fun t =>
    (∀ n < 4, s.rd (SAF.INCFG_FUNC n) = 0 → ∀ k < 4, hasBit (t.rd SAF.INSTAT_STATE) (4 * n + k) =
      hasBit (s.rd SAF.INSTAT_STATE % 2 ^ 16) (4 * n + k)) ∧
    (∀ n < 4, s.rd (SAF.INCFG_FUNC n) ≠ 0 → hasBit (t.rd SAF.INSTAT_STATE) (4 * n + 3) =
      (hasBit (t.rd SAF.INSTAT_STATE) (4 * n) != hasBit (t.rd SAF.INSTAT_STATE) (4 * n + 1))) ∧
    (∀ p < 2, (hasBit t.saf.chA p = true → hasBit s.saf.chA p = true) ∧ (hasBit t.saf.chB p = true → hasBit s.saf.chB p = true))) ∧
  (s.readbackGood pair.val chB lows = true → Completes (.ossdTestPulse pair chB lows) s (fun t => t.saf.chA = s.saf.chA ∧ t.saf.chB = s.saf.chB ∧ Frame [] s t)) ∧
  (s.readbackGood pair.val chB lows = false → Completes (.ossdTestPulse pair chB lows) s (fun t =>
    hasBit (t.rd SAF.FAULT_OSSD) pair.val = true ∧ hasBit t.saf.chA pair.val = false ∧ hasBit t.saf.chB pair.val = false)) ∧
  (s.safState ≠ 2 ∨ s.saf.concluded = true ∨ s.step128 ≠ 1 → exec .coatConclusion s = .next s) ∧
  (s.safState = 2 → s.saf.concluded = false → s.step128 = 1 → Completes .coatConclusion s (fun t =>
    t.saf.concluded = true ∧ ∀ set f, s.saf.prev.set = some set → s.saf.img = some f → s.saf.prev.empty = false →
      t.rd SAF.STAT_COATS = (s.rd SAF.STAT_COATS + 1) % 2 ^ SAF.STAT_COATS.width ∧
      t.rd SAF.VERDICT_PF_A = (f.heads s.saf.prev false set ColEval.pf ||| s.saf.prev.scrubA) % 256 ∧
      t.rd SAF.VERDICT_PF_B = (f.heads s.saf.prev true set ColEval.pf ||| s.saf.prev.scrubB) % 256 ∧
      t.rd SAF.VERDICT_WF_A = (f.heads s.saf.prev false set ColEval.wf ||| s.saf.prev.scrubA) % 256))

/-- Safety telegrams: one through the mailbox that names no connection is counted; one whose
check fails is counted as BAD and acts no further; a status telegram goes out only where one is due, and the next sequence number
follows; a connection that heard nothing for WDOG ms goes to FAULT and counts LATE (R304, R306, R338). -/
def Obligations.SafetyTelegrams : Prop := ∀ (port : Option (Fin 4)) (m : List Byte) (c : Fin 16) (s : State), Runs s →
  (s.connFor (port.map Fin.val) (subBytes m 0 32) = none →
    (port.isSome = true → exec (.telegramReceive port m) s = .next s) ∧
    (port = none → Completes (.telegramReceive port m) s (fun t =>
      t.rd CXL0.DOE_STAT_DISC = min (s.rd CXL0.DOE_STAT_DISC + 1) (2 ^ CXL0.DOE_STAT_DISC.width - 1) ∧ t.saf = s.saf ∧
      Frame [CXL0.DOE_STAT_DISC.key] s t))) ∧
  (s.connFor (port.map Fin.val) (subBytes m 0 32) = some c → s.rd (SAF.CONN_STAT_STATE c.val) ≠ 0 →
    u32 (subBytes m 0 32) 0x1C ≠ crc32c ((subBytes m 0 32).take 28) → Completes (.telegramReceive port m) s (fun t =>
      t.rd (SAF.CONN_STAT_BAD c.val) = min (s.rd (SAF.CONN_STAT_BAD c.val) + 1) (2 ^ (SAF.CONN_STAT_BAD c.val).width - 1) ∧
      t.saf.conns = s.saf.conns ∧ ∀ d < 16, t.rd (SAF.CONN_STAT_STATE d) = s.rd (SAF.CONN_STAT_STATE d))) ∧
  (s.on (SAF.CONN_CFG_EN c.val) = false ∨ s.rd (SAF.CONN_CFG_ROLE c.val) % 2 = 0 →
    exec (.statusTelegramSend c) s = .next s) ∧
  (s.on (SAF.CONN_CFG_EN c.val) = true → s.rd (SAF.CONN_CFG_ROLE c.val) % 2 = 1 →
    s.saf.conns[c].txAt = none → Completes (.statusTelegramSend c) s (fun t =>
      t.saf.conns[c].txSeq = (s.saf.conns[c].txSeq + 1) % 65536 ∧ t.saf.conns[c].txAt = some s.now ∧
      (s.on (SAF.CONN_CFG_TRANSPORT c.val) = true →
        t.out = s.out ++ [.telegram (s.rd (SAF.CONN_CFG_PORT c.val)) (s.statusTelegram c.val s.saf.conns[c].txSeq)]) ∧
      (s.on (SAF.CONN_CFG_TRANSPORT c.val) = false → t.out = s.out ∧
        (c.val, s.statusTelegram c.val s.saf.conns[c].txSeq) ∈ t.saf.doeQ) ∧ Frame [] s t)) ∧
  ((s.rd (SAF.CONN_STAT_STATE c.val) = 1 ∨ s.rd (SAF.CONN_STAT_STATE c.val) = 2) → s.saf.conns[c].last ≠ none →
    (s.now < s.saf.conns[c].accAt + 10 * s.rd (SAF.CONN_TIM_WDOG c.val) → exec (.telegramWatchdog c) s = .next s) ∧
    (s.saf.conns[c].accAt + 10 * s.rd (SAF.CONN_TIM_WDOG c.val) ≤ s.now → Completes (.telegramWatchdog c) s (fun t =>
      t.rd (SAF.CONN_STAT_STATE c.val) = 3 ∧ hasBit (t.rd (HDR.IRQ_STAT_IRQ .saf)) 3 = true ∧
      t.rd (SAF.CONN_STAT_LATE c.val) = min (s.rd (SAF.CONN_STAT_LATE c.val) + 1) (2 ^ (SAF.CONN_STAT_LATE c.val).width - 1) ∧
      (s.rd (SAF.CONN_CFG_REACT c.val) = 0 → t.saf.conns[c].stop = true) ∧
      (s.rd (SAF.CONN_CFG_REACT c.val) ≤ 1 → hasBit (t.rd SAF.FAULT_CONN) 0 = true))))

/-- The twin's signs: a message that is not valid changes nothing, a valid one is kept and shows the link and the partner, and a
RELINQUISH is noted by an UNDERCOAT; an ALIVE edge of a present head renews its path; a silent port is shown, and makes the
retention store of an UNDERCOAT stale; the store goes out again where the partner's is stale (R317 to R319, R322).
Checkpoints: a complete one shows its frame and ends BUSY, and stores in the checkpoint region alone; an abandoned one counts
in FAILS; with none in progress neither changes anything (R320, R234). -/
def Obligations.TwinSigns : Prop :=
  (∀ (b : List Byte) (item : Option CfgItem) (align : Option Int) (h : Head) (s : State), s.dark = false →
    (s.twinEn = false ∨ twinValid b = false → exec (.twinMessageReceive b item align) s = .next s) ∧
    (s.twinEn = true → twinValid b = true → Completes (.twinMessageReceive b item align) s (fun t =>
      t.twn.msg = some (partnerMsg b) ∧ t.twn.msgAt = some s.now ∧ t.rd TWN.STAT_LINK = 1 ∧ t.rd TWN.STAT_PARTNER = 1 ∧
      (u8 b 0 = 3 → s.role = 2 → t.twn.relinq = true))) ∧
    (s.twinEn = false ∨ s.role = 1 → exec (.aliveEdge h) s = .next s) ∧
    (s.twinEn = true → s.role ≠ 1 → hasBit (if s.role = 2 then hdrHeadMask s.twn.ret.hdr else s.headMask) h.val = true →
      Completes (.aliveEdge h) s (fun t => t.twn.aliveAt = some s.now ∧ t.rd TWN.STAT_ALIVE = 1 ∧ t.twn.msgAt = s.twn.msgAt ∧
        ∀ f : Fld, area f.key ≠ 7 → area f.key ≠ 15 → t.rd f = s.rd f)) ∧
    (s.twinEn = true → (s.role = 1 ∨ s.role = 2 ∨ s.role = 3) → s.portPresent = false → s.on TWN.STAT_LINK = true →
      Completes .pathSilence s (fun t => t.rd TWN.STAT_LINK = 0 ∧ t.rd TWN.STAT_PARTNER = 0 ∧ t.role = s.role ∧
        (s.role ≠ 1 → t.rd TWN.STAT_CFG_STALE = 1))) ∧
    (s.twinEn = true → s.portPresent = true → s.alivePresent = true → Completes .pathSilence s (Frame [] s)) ∧
    (s.portPresent = false ∨ (s.twn.msg.any fun m => hasBit m.flags 2) = false → exec .cfgStoreResend s = .next s) ∧
    (s.portPresent = true → (s.twn.msg.any fun m => hasBit m.flags 2) = true → s.twinEn = true → s.role = 1 →
      Completes .cfgStoreResend s (fun t => t.twn.cfgSeq = (s.twn.cfgSeq + 1) % 2 ^ 32 ∧
        (∃ i, t.out.getLast? = some (.twinCfg i)) ∧ Frame [] s t))) ∧
  (∀ s : State, s.dark = false →
    (s.on TWN.CKPT_STAT_BUSY = false → exec .checkpointComplete s = .next s ∧ exec .checkpointAbandon s = .next s) ∧
    (s.on TWN.CKPT_STAT_BUSY = true →
      Completes .checkpointComplete s (fun t =>
        t.rd TWN.CKPT_STAT_FRAME = s.twn.ckptFrame % 2 ^ 15 ∧ t.rd TWN.CKPT_STAT_BUSY = 0 ∧ t.twn.ckptOk = true ∧
        t.twn.ckptCnt = (s.twn.ckptCnt + 1) % 2 ^ 32 ∧ ∀ a, s.inRegion 4 a 1 = false → t.ld a = s.ld a) ∧
      Completes .checkpointAbandon s (fun t =>
        t.rd TWN.CKPT_STAT_FAILS = min (s.rd TWN.CKPT_STAT_FAILS + 1) 255 ∧ t.rd TWN.CKPT_STAT_BUSY = 0 ∧ t.twn.ckptOk = false ∧
        Frame [TWN.CKPT_STAT_FAILS.key, TWN.CKPT_STAT_BUSY.key] s t)))

/-- A takeover: only a decided one does anything; granted by every latch the device leaves HOLD as TAKING with every token of its
heads, and refused it is UNDERCOAT in HOLD again with its retention store; once memory is ready it is TOPCOAT, measures from the
next tick, and counts the takeover; a failed step ends as FAILED in HOLD with tokens and outputs off (R322 to R326). -/
def Obligations.Takeover : Prop := ∀ (ns : Fin 100000) (grants : BitVec 8) (pull : Pull) (step : Fin 4) (s : State), s.dark = false →
  (s.takeoverDue = false ∨ s.latched = true → exec (.takeover ns grants pull) s = .next s) ∧
  let heads := hdrHeadMask s.twn.ret.hdr % 256
  (s.takeoverDue = true → s.latched = false → grants.toNat &&& heads = heads → Completes (.takeover ns grants pull) s (fun t =>
    t.role = 4 ∧ t.inHold = false ∧ t.rd PWR.RESET_CAUSE_TAKEOVER = 1 ∧ t.rd TWN.TOKENS_REQ = t.headMask ∧
    t.rd TWN.TOKENS_GRANT = t.headMask ∧ t.twn.takeAt = some (s.now * 100000 + ns.val))) ∧
  (s.takeoverDue = true → s.latched = false → grants.toNat &&& heads ≠ heads → Completes (.takeover ns grants pull) s (fun t =>
    t.role = 2 ∧ t.inHold = true ∧ t.rd TWN.EVENTS_DENIED = 1 ∧ t.rd TWN.TOKENS_REQ = 0 ∧ t.twn.ret = s.twn.ret ∧
    t.twn.takeAt = none)) ∧
  (s.twn.takeAt = none ∨ s.role ≠ 4 ∨ s.boot.train = true → exec .takeoverResume s = .next s) ∧
  (∀ d, s.twn.takeAt = some d → s.role = 4 → s.boot.train = false → (∃ c < 4, s.on (MEM.STAT_TRAINED c) = true) →
    Completes .takeoverResume s (fun t =>
      t.role = 1 ∧ t.scd.measuring = true ∧ t.scd.measureFrom = s.now + 1 ∧ t.twn.takeAt = none ∧
      t.rd TWN.TAKE_INFO_TICK = s.tickOf (s.now + 1) ∧ t.rd TWN.TAKE_INFO_FRAME = s.frameOf (s.now + 1) ∧
      t.rd TWN.COUNT_TAKEOVERS = min (s.rd TWN.COUNT_TAKEOVERS + 1) 255 ∧ t.rd CTL.BOOT_STAT_STAGE = 3 ∧
      (d + 6400000 < (s.now + 1) * 100000 → t.rd TWN.EVENTS_LATE = 1))) ∧
  (s.role ≠ 4 → exec (.takeFail step) s = .next s) ∧
  (s.role = 4 → Completes (.takeFail step) s (fun t =>
    t.role = 5 ∧ t.inHold = true ∧ t.rd TWN.CAUSE_FAIL_STEP = step.val + 1 ∧ t.rd TWN.EVENTS_TAKE_FAIL = 1 ∧
    t.rd TWN.TOKENS_REQ = 0 ∧ t.rd TWN.TOKENS_GRANT = 0 ∧ t.rd SAF.EMIT_HS_EN = 0 ∧ t.rd SAF.EMIT_LS_EN = 0 ∧
    t.saf.chA = 0 ∧ t.saf.chB = 0 ∧ t.twn.takeAt = none))

/-- Roles at start-up: a device that is not ready, or has chosen, changes nothing; beside a Topcoat it is UNDERCOAT in HOLD, or
SHADOW after a transient stop of its own; with every token granted it is TOPCOAT where no partner is and START_ROLE is 0, and UNDERCOAT in HOLD where a latch refuses or START_ROLE is 1; the timeout of START_ROLE makes it
TOPCOAT once it has heard nothing for 1 s (R315, R323). -/
def Obligations.RoleAtStart : Prop := ∀ (grants : BitVec 8) (s : State), s.dark = false →
  (s.twinEn = false ∨ s.twn.chosen = true ∨ s.latched = true ∨ s.readyToMeasure = false → exec (.roleChoice grants) s = .next s) ∧
  (s.twinEn = true → s.twn.chosen = false → s.latched = false → s.readyToMeasure = true → s.role ≠ 2 →
      (s.portPresent && s.twn.msg.any fun m => m.role == 1) = false →
    (s.on TWN.CFG_START_ROLE = false → s.barred = false → (grants.toNat &&& s.headMask) = s.headMask →
      Completes (.roleChoice grants) s (fun t => t.role = 1 ∧ t.rd TWN.TOKENS_REQ = s.headMask ∧
        t.rd TWN.TOKENS_GRANT = s.headMask ∧ t.twn.chosen = true ∧ t.twn.readyAt = some s.now ∧
        Frame [TWN.TOKENS_REQ.key, TWN.TOKENS_GRANT.key, TWN.STAT_ROLE.key] s t)) ∧
    (s.on TWN.CFG_START_ROLE = true ∨ s.barred = true ∨ (grants.toNat &&& s.headMask) ≠ s.headMask →
      Completes (.roleChoice grants) s (fun t => t.role = 2 ∧ t.inHold = true ∧ t.twn.chosen = true ∧
        t.rd TWN.TOKENS_REQ = 0 ∧ t.rd TWN.TOKENS_GRANT = 0))) ∧
  (s.twinEn = true → s.twn.chosen = false → s.latched = false → s.readyToMeasure = true → s.role ≠ 2 →
    (s.portPresent && s.twn.msg.any fun m => m.role == 1) = true → Completes (.roleChoice grants) s (fun t =>
      t.twn.chosen = true ∧ (if s.rd TWN.CAUSE_CODE ≠ 0 ∧ s.rd TWN.CAUSE_CODE ≠ 8 ∧ s.on TWN.CAUSE_PERMANENT = false
        then t.role = 3 ∧ Frame [TWN.STAT_ROLE.key] s t else t.role = 2 ∧ t.inHold = true))) ∧
  (s.twn.readyAt = none → exec (.startRoleTimeout grants) s = .next s) ∧
  (∀ r, s.twn.readyAt = some r → (s.role ≠ 2 ∨ s.now < r + 10000) → exec (.startRoleTimeout grants) s = .next s) ∧
  (∀ r, s.twn.readyAt = some r → r + 10000 ≤ s.now → s.twinEn = true → s.role = 2 → s.inHold = true →
    s.latched = false → s.on TWN.CFG_START_ROLE = true → (∀ n, s.twn.msgAt = some n → n < r) →
    (∀ n, s.twn.aliveAt = some n → n < r) → s.barred = false → Completes (.startRoleTimeout grants) s (fun t =>
      t.twn.readyAt = none ∧
      (grants = 255 → t.role = 1 ∧ t.inHold = false ∧ t.rd TWN.TOKENS_REQ = t.headMask ∧ t.rd TWN.TOKENS_GRANT = t.headMask) ∧
      (t.role = 1 ∧ t.inHold = false ∧ t.rd TWN.TOKENS_GRANT = t.headMask ∨ t = { s with twn.readyAt := none })))

/-- Giving up the role: a TOPCOAT relinquishes for a cause that stands, at the next coat boundary for code 5, with its tokens low and
RELINQUISH sent otherwise. A handover moves the tokens at the granted tick, counts on both devices, and a swap asked of an
UNDERCOAT leaves HOLD as SHADOW; AUTO_WARM is a WARM 10 ms after a transient stop (R329, R331, R332). -/
def Obligations.Handover : Prop := ∀ (code : Nat) (grants : BitVec 8) (program flashReady slow bookOk : Bool) (s : State),
  s.dark = false →
  (s.twinEn = false ∨ s.role ≠ 1 ∨ s.causeStands code = false → exec (.relinquish code) s = .next s) ∧
  (s.twinEn = true → s.role = 1 → s.causeStands code = true →
    (code = 5 → Completes (.relinquish code) s (fun t => t.twn.stopDue = some (s.now + (128 - s.step128)) ∧ Frame [] s t)) ∧
    (code ≠ 5 → Completes (.relinquish code) s (fun t => t.role = 5 ∧ t.rd TWN.CAUSE_CODE = code ∧
      t.on TWN.CAUSE_PERMANENT = (code != 3) ∧ t.rd TWN.TOKENS_REQ = 0 ∧ t.rd TWN.TOKENS_GRANT = 0 ∧
      (s.twinSend 3 []).out <+: t.out))) ∧
  (s.twn.grant = none → exec .handoverTokenRelease s = .next s ∧ exec (.handoverTokenRaise grants) s = .next s ∧
    exec .handoverOldStop s = .next s) ∧
  (∀ n x, s.twn.grant = some (n, x) →
    (s.role = 1 → n = s.now → Completes .handoverTokenRelease s (fun t => t.rd TWN.TOKENS_REQ = 0 ∧ t.rd TWN.TOKENS_GRANT = 0 ∧
      t.twn.released = true ∧ t.ptb.cur.twin = true ∧ Frame [TWN.TOKENS_REQ.key, TWN.TOKENS_GRANT.key] s t)) ∧
    (s.role = 3 → n = s.now → s.barred = false → (grants.toNat &&& s.headMask) = s.headMask →
      Completes (.handoverTokenRaise grants) s (fun t => t.role = 1 ∧ t.rd TWN.TOKENS_REQ = s.headMask ∧
        t.rd TWN.TOKENS_GRANT = s.headMask ∧ t.rd TWN.COUNT_HANDOVERS = min (s.rd TWN.COUNT_HANDOVERS + 1) 255 ∧
        t.twn.grant = none ∧ t.twn.quietAt = none ∧ t.rd TWN.STAT_SHADOW_FRAMES = 0)) ∧
    (s.role = 1 → s.twn.released = true → n + 3 ≤ s.now → s.twn.quietAt = none → Completes .handoverOldStop s (fun t =>
      t.rd TWN.CAUSE_CODE = 8 ∧ t.twn.quietAt = some s.now ∧ t.rd TWN.COUNT_HANDOVERS = min (s.rd TWN.COUNT_HANDOVERS + 1) 255 ∧
      t.safState = 0 ∧ t.saf.chA = 0 ∧ t.saf.chB = 0 ∧ t.rd TWN.EVENTS_HANDOVER = 1))) ∧
  (s.latched = true → exec .roleSwap s = .next s) ∧
  (s.latched = false → ¬ (s.role = 2 ∧ s.inHold = true) → Completes .roleSwap s (fun t =>
    t.rd (HDR.ERR_CODE_CODE .twn) = TWIN_ROLE ∧ Frame (codeKeys .twn) s t)) ∧
  (s.latched = false → s.role = 2 → s.inHold = true → Completes .roleSwap s (fun t =>
    t.role = 3 ∧ t.inHold = false ∧ t.twn.swap = true ∧ t.boot.train = true)) ∧
  let warms := s.twinEn && s.role == 5 && s.on TWN.CTRL_AUTO_WARM && !s.on TWN.CAUSE_PERMANENT &&
    (s.twn.quietAt.any fun t => decide (t + 100 ≤ s.now))
  (warms = false → exec (.autoWarm program flashReady slow bookOk) s = .next s) ∧
  (warms = true → Completes (.autoWarm program flashReady slow bookOk) s fun t =>
    exec (.warm program flashReady slow bookOk) s = .next t ∧ t.rd PWR.RESET_CAUSE_WARM = 1 ∧ t.now = s.now ∧ t.scd.measuring = false)

/-- The host link: a legal training shows its speed, width and flits, and CXL.cache and CXL.mem only with CXL; Recovery and L1 are
entered and left, and Recovery is counted; a training that no port can reach changes nothing (R335, R336, R357). -/
def Obligations.HostLink : Prop :=
  ∀ (speed width : Nat) (flit256 lopt cxl cache mem enter : Bool) (s : State), s.dark = false →
  (linkLegal speed width flit256 lopt cxl = false → exec (.linkTraining speed width flit256 lopt cxl cache mem) s = .next s) ∧
  (linkLegal speed width flit256 lopt cxl = true → Completes (.linkTraining speed width flit256 lopt cxl cache mem) s (fun t =>
    t.rd CXL0.LINK_STAT_SPEED = speed ∧ t.rd CXL0.LINK_STAT_WIDTH = width ∧ t.on CXL0.LINK_STAT_FLIT256 = flit256 ∧
    t.on CXL0.LINK_STAT_LOPT = lopt ∧ t.on CXL0.LINK_STAT_CXL = cxl ∧ t.on CXL0.LINK_STAT_CACHE_EN = (cxl && cache) ∧
    t.on CXL0.LINK_STAT_MEM_EN = (cxl && mem) ∧ t.rd CXL0.LINK_STAT_STATE = (if s.inHold then 1 else 0) ∧
    t.rd CLK.PHY_LOCK_CXL = 1 ∧ hasBit (t.rd (HDR.IRQ_STAT_IRQ .cxl0)) 0 = true ∧
    Frame ((HDR.IRQ_STAT_IRQ .cxl0).key :: linkFields.map Fld.key) s t)) ∧
  Completes (.linkRecovery enter) s (fun t =>
    t.rd CXL0.LINK_STAT_STATE = (if enter then if s.linkUp then 3 else s.rd CXL0.LINK_STAT_STATE
      else if s.rd CXL0.LINK_STAT_STATE = 3 then 0 else s.rd CXL0.LINK_STAT_STATE) ∧
    t.rd CXL0.LINK_CNT_RECOV = (if enter && s.linkUp && s.rd CXL0.LINK_STAT_STATE != 3 then
      min (s.rd CXL0.LINK_CNT_RECOV + 1) (2 ^ CXL0.LINK_CNT_RECOV.width - 1) else s.rd CXL0.LINK_CNT_RECOV) ∧
    Frame [CXL0.LINK_STAT_STATE.key, CXL0.LINK_CNT_RECOV.key, (HDR.IRQ_STAT_IRQ .cxl0).key] s t) ∧
  Completes (.aspmL1 enter) s (fun t =>
    t.rd CXL0.LINK_STAT_STATE = (if enter && s.rd CXL0.LINK_STAT_STATE == 0 then 1
      else if !enter && s.rd CXL0.LINK_STAT_STATE == 1 then 0 else s.rd CXL0.LINK_STAT_STATE) ∧
    Frame [CXL0.LINK_STAT_STATE.key, (HDR.IRQ_STAT_IRQ .cxl0).key] s t)

/-- HOST, FLR and a link loss: fields that the reset does not keep return to their reset values, kept ones stand, and ranging, the
safety function and all memory go on; the decoders, the snoop filter, interrupt routing and sessions end. HOST takes the link down, and
a link loss is a HOST reset (R354, R357, R444). -/
def Obligations.HostResets : Prop := ∀ s : State, s.dark = false →
  let ended (k : ResetKind) (t : State) : Prop :=
    (∀ p : Page, p ∉ [Page.cap, .cxl0, .cxl1, .clk, .pwr, .twn, .ptb, .gsl] → ∀ f ∈ p.fields, f ≠ HDR.STAT_COMMIT_PENDING p →
      f.key ∉ eventKeys → t.rd f = if keptOver k p f then s.rd f else f.reset) ∧
    (∀ a, t.ld a = s.ld a) ∧ (∀ a, t.fld a = s.fld a) ∧ t.now = s.now ∧ t.wins = s.wins ∧ t.scd = s.scd ∧ t.safState = s.safState ∧
    t.saf = { s.saf with doeQ := [] } ∧ t.host.biEn = false ∧ t.host.tracked = [] ∧ t.host.msix = [] ∧ t.host.cmd = none ∧
    t.host.spdm.sessions = [] ∧ (∀ i : Fin 2, t.host.decs[i] = none) ∧ t.host.evq = s.host.evq
  Completes .hostReset s (fun t => ended .host t ∧ t.rd PWR.RESET_CAUSE_HOST = 1 ∧
    (∀ f ∈ linkFields, t.rd f = f.reset) ∧ hasBit (t.rd (HDR.IRQ_STAT_IRQ .cxl0)) 0 = true) ∧
  Completes .linkDown s (fun t => exec .hostReset s = .next t ∧ ended .host t ∧ t.rd CXL0.LINK_STAT_STATE = CXL0.LINK_STAT_STATE.reset) ∧
  Completes .flr s (fun t => ended .flr t ∧ t.rd PWR.RESET_CAUSE_FLR = 1 ∧ ∀ f ∈ linkFields, t.rd f = s.rd f)

/-- The device on CXL: a snoop is answered as a miss; a recall without an answer is counted and stays tracked until the answer,
which ends it; an access to host memory that fails, and an IDE failure, are counted with their interrupts; a decoder takes
effect only where its commit keeps the rules, and the BI decoder's enable as written (R335, R339, R340, R342, R357). DOE:
while the link is down nothing is answered; else a safety request brings the oldest status telegram that waits, after the
command telegram it may carry is worked; discovery brings the object type at its index with the next index, and CDAT the two
memories at 300 ns, each with vector 11 after it (R338). -/
def Obligations.HostTraffic : Prop :=
  (∀ (line : Nat) (i : Fin 2) (hpa size dpa ways : Nat) (bi : Bool) (s : State), s.dark = false →
    Completes (.hostSnoop line) s (fun t => t.out = (if s.cacheUp then s.out ++ [.snoopMiss line] else s.out) ∧ Frame [] s t) ∧
    (s.host.biOut.contains line = false → exec (.biTimeout line) s = .next s ∧ exec (.biResponse line) s = .next s) ∧
    (s.host.biOut.contains line = true →
      Completes (.biTimeout line) s (fun t =>
        t.rd CXL0.BI_STAT_TIMEOUT = min (s.rd CXL0.BI_STAT_TIMEOUT + 1) (2 ^ CXL0.BI_STAT_TIMEOUT.width - 1) ∧
        hasBit (t.rd (HDR.IRQ_STAT_IRQ .cxl0)) 2 = true ∧ t.host.biOut = s.host.biOut ∧ t.host.tracked = s.host.tracked ∧
        Frame [CXL0.BI_STAT_TIMEOUT.key, (HDR.IRQ_STAT_IRQ .cxl0).key] s t) ∧
      Completes (.biResponse line) s (fun t => t.host.biOut = s.host.biOut.erase line ∧ t.host.tracked = s.host.tracked.erase line ∧
        Frame [] s t)) ∧
    Completes .hostMemoryError s (fun t =>
      t.rd CXL0.ERR_CNT_HM = min (s.rd CXL0.ERR_CNT_HM + 1) (2 ^ CXL0.ERR_CNT_HM.width - 1) ∧
      hasBit (t.rd (HDR.IRQ_STAT_IRQ .cxl0)) 4 = true ∧ Frame [CXL0.ERR_CNT_HM.key, (HDR.IRQ_STAT_IRQ .cxl0).key] s t) ∧
    Completes .ideIntegrityFailure s (fun t =>
      t.rd CXL0.IDE_STAT_ERR = min (s.rd CXL0.IDE_STAT_ERR + 1) (2 ^ CXL0.IDE_STAT_ERR.width - 1) ∧
      hasBit (t.rd (HDR.IRQ_STAT_IRQ .cxl0)) 1 = true ∧ Frame [CXL0.IDE_STAT_ERR.key, (HDR.IRQ_STAT_IRQ .cxl0).key] s t) ∧
    Completes (.hdmDecoderCommit i hpa size dpa ways bi) s (fun t =>
      t.out = s.out ++ [.decoder i.val (s.decoderGood i.val dpa size ways)] ∧ t.host.biEn = bi ∧
      t.host.decs[i] = (if s.decoderGood i.val dpa size ways then some { hpa := hpa, size := size, dpa := dpa } else s.host.decs[i]) ∧
      (∀ j : Fin 2, j ≠ i → t.host.decs[j] = s.host.decs[j]) ∧ Frame [] s t)) ∧
  (∀ (inst : Fin 2) (index : Nat) (m : List Byte) (s : State), s.dark = false →
    (s.linkUp = false → exec (.doeSafetyRequest m) s = .next s ∧ exec (.doeDiscovery inst index) s = .next s ∧ exec .cdatRead s = .next s) ∧
    (s.linkUp = true →
      (∀ e q, s.saf.doeQ = e :: q → Completes (.doeSafetyRequest []) s (fun t =>
        (s.out ++ [.doe 1 e.2]) <+: t.out ∧ t.saf = { s.saf with doeQ := q } ∧ Frame [] s t)) ∧
      (s.saf.doeQ = [] → Completes (.doeSafetyRequest []) s (fun t => (s.out ++ [.doe 1 []]) <+: t.out ∧ t.saf = s.saf ∧ Frame [] s t)) ∧
      (m ≠ [] → ∃ u, exec (.telegramReceive none m) s = .next u ∧
        (∀ e q, u.saf.doeQ = e :: q → Completes (.doeSafetyRequest m) s (fun t =>
          (u.out ++ [.doe 1 e.2]) <+: t.out ∧ t.saf = { u.saf with doeQ := q } ∧ Frame [] u t)) ∧
        (u.saf.doeQ = [] → Completes (.doeSafetyRequest m) s (fun t => (u.out ++ [.doe 1 []]) <+: t.out ∧ t.saf = u.saf ∧ Frame [] u t))) ∧
      ((doeTypes inst.val)[index]? = none → Completes (.doeDiscovery inst index) s (fun t => t.out = (s.signal 11).out ∧ Frame [] s t)) ∧
      (∀ k, (doeTypes inst.val)[index]? = some k → Completes (.doeDiscovery inst index) s (fun t =>
        (s.out ++ [.doeType inst.val k (if index + 1 < (doeTypes inst.val).length then index + 1 else 0)]) <+: t.out ∧ Frame [] s t)) ∧
      Completes .cdatRead s (fun t =>
        (s.out ++ [.cdat [(0, s.memSize), (0x8000000000, windowSize)] 300 (s.rd CXL0.LINK_STAT_SPEED) (s.rd CXL0.LINK_STAT_WIDTH)]) <+: t.out ∧
        Frame [] s t)))

/-- Event records: one enters the queue with the next SEQ, or is lost and counted with bit 2 where 256 wait, and one that names sets of
cells takes as many records as sets; the ring takes the oldest
records in order, at most 16 in a tick and as many as it has room for, and EVT_WR advances by as many; a device of a pair that is
not TOPCOAT writes none (R314, R347). -/
def Obligations.Events : Prop := ∀ (p : Page) (bit qual : Nat) (cells : List (Nat × Nat × Nat × Nat)) (args : List Nat) (s : State), Runs s →
  (s.host.evq.length < 256 → Completes (.eventRecord p bit qual [] args) s (fun t =>
    (∃ e, t.host.evq = s.host.evq ++ [e] ∧ e.seq = s.host.evSeq ∧ e.block = p.blockCode ∧ e.inst = p.instNo ∧ e.bit = bit ∧
      e.qual = qual ∧ e.args = args.take 4 ∧ e.epoch = s.rd GSL.EPOCH_CUR) ∧
    t.host.evSeq = (s.host.evSeq + 1) % 2 ^ 32 ∧ Frame [] s t)) ∧
  (256 ≤ s.host.evq.length → Completes (.eventRecord p bit qual [] args) s (fun t =>
    t.host.evq = s.host.evq ∧ t.host.evSeq = (s.host.evSeq + 1) % 2 ^ 32 ∧
    t.rd CXL1.EVT_LOST_COUNT = min (s.rd CXL1.EVT_LOST_COUNT + 1) (2 ^ CXL1.EVT_LOST_COUNT.width - 1) ∧
    hasBit (t.rd (HDR.IRQ_STAT_IRQ .cxl1)) 2 = true ∧ Frame eventKeys s t)) ∧
  (cells ≠ [] → s.host.evq.length + cells.length ≤ 256 → Completes (.eventRecord p bit qual cells args) s (fun t =>
    (∃ l, t.host.evq = s.host.evq ++ l ∧ l.length = cells.length) ∧
    t.host.evSeq = (s.host.evSeq + cells.length) % 2 ^ 32 ∧ Frame [] s t)) ∧
  Completes .eventRingWrite s (fun t => ∃ n, n ≤ 16 ∧ n ≤ s.host.evq.length ∧ t.host.evq = s.host.evq.drop n ∧
    t.rd CXL1.EVT_WR_IDX = (if n = 0 then s.rd CXL1.EVT_WR_IDX else (s.rd CXL1.EVT_WR_IDX + n) % 2 ^ 32) ∧
    (n = 0 ↔ s.cacheUp = false ∨ s.publishes = false ∨ s.host.evq = [] ∨ (s.host.evTick = s.now ∧ 16 ≤ s.host.evCnt) ∨
      s.evtCap ≤ (s.rd CXL1.EVT_WR_IDX + 2 ^ 32 - s.host.rds[9].full % 2 ^ 32) % 2 ^ 32) ∧
    Frame [CXL1.EVT_WR_IDX.key] s t)

/-- The command ring: a doorbell beyond the capacity sets OVF with bit 1 and is ignored; an entry is fetched where one waits, and an
invalid one ends with STATUS 2; WAIT holds the ring until its tick; an ended entry is written back, CMD_RD advances, and BUSY clears
(R349, R350). -/
def Obligations.CommandRing : Prop := ∀ (v : BitVec 32) (m : List Byte) (e : CmdEnt) (s : State), Runs s →
  (s.cmdCap < (v.toNat + 2 ^ 32 - s.rd CXL1.CMD_RD_IDX) % 2 ^ 32 → Completes (.cmdDoorbell v) s (fun t =>
    t.rd CXL1.CMD_STAT_OVF = 1 ∧ hasBit (t.rd (HDR.IRQ_STAT_IRQ .cxl1)) 1 = true ∧
    Frame [CXL1.CMD_STAT_OVF.key, (HDR.IRQ_STAT_IRQ .cxl1).key] s t)) ∧
  ((v.toNat + 2 ^ 32 - s.rd CXL1.CMD_RD_IDX) % 2 ^ 32 ≤ s.cmdCap → Completes (.cmdDoorbell v) s (fun t =>
    t.rd CXL1.CMD_WR_IDX = v.toNat ∧ t.rd CXL1.CMD_STAT_OVF = 0 ∧ Frame [CXL1.CMD_WR_IDX.key, CXL1.CMD_STAT_OVF.key] s t)) ∧
  (s.cacheUp = false ∨ s.host.cmd ≠ none ∨ s.rd CXL1.CMD_WR_IDX = s.rd CXL1.CMD_RD_IDX ∨ s.cmdCap = 0 →
    exec (.cmdFetch m) s = .next s) ∧
  (s.cacheUp = true → s.host.cmd = none → s.rd CXL1.CMD_WR_IDX ≠ s.rd CXL1.CMD_RD_IDX → s.cmdCap ≠ 0 →
    Completes (.cmdFetch m) s (fun t => t.rd CXL1.CMD_STAT_BUSY = 1 ∧ Frame [CXL1.CMD_STAT_BUSY.key] s t ∧
      ∃ c, t.host.cmd = some c ∧ c.ended = (!entValid (subBytes m 0 64)) ∧
        (c.ended = false → c.bytes = subBytes m 0 64) ∧ (c.ended = true → u8 c.bytes 3 = 2))) ∧
  (s.host.cmd = some e → e.ended = false → u8 e.bytes 0 = 3 → e.bytes.length = 64 →
    (s.waitOver (u32 e.bytes 8) = false → Completes .wait s (fun t => t.rd CXL1.CMD_STAT_WAITING = 1 ∧ t.host.cmd = s.host.cmd ∧
      Frame [CXL1.CMD_STAT_WAITING.key] s t) ∧ exec .waitEnd s = .next s) ∧
    (s.waitOver (u32 e.bytes 8) = true → Completes .wait s (fun t =>
      (∃ c, t.host.cmd = some c ∧ c.ended = true ∧ u8 c.bytes 3 = 1) ∧ Frame [] s t)) ∧
    (s.waitOver (u32 e.bytes 8) = true → s.on CXL1.CMD_STAT_WAITING = true → Completes .waitEnd s (fun t =>
      (∃ c, t.host.cmd = some c ∧ c.ended = true ∧ u8 c.bytes 3 = 1) ∧ t.rd CXL1.CMD_STAT_WAITING = 0 ∧
      Frame [CXL1.CMD_STAT_WAITING.key] s t))) ∧
  ((s.host.cmd.all fun c => !c.ended) = true → exec .cmdCompletion s = .next s) ∧
  (s.host.cmd = some e → e.ended = true → Completes .cmdCompletion s (fun t =>
    t.host.cmd = none ∧ t.rd CXL1.CMD_RD_IDX = (s.rd CXL1.CMD_RD_IDX + 1) % 2 ^ 32 ∧ t.rd CXL1.CMD_STAT_BUSY = 0 ∧
    s.out <+: t.out ∧ Frame [CXL1.CMD_RD_IDX.key, CXL1.CMD_STAT_BUSY.key] s t))

/-- The SPDM responder: a request that comes in its order is answered by what it asks for, one out of order by an error that
changes nothing else, and none is answered while the link is down; a request for measurement 6 waits while a swap has made it
stale, and its new value answers it (R352, R353; the order and the error are the model's, log entry 62). IDE_KM: inside an
established session a stream's keys are programmed, the stream made secure once they are, and stopped; IDE_STAT shows it, for
CXL.io and CXL.cachemem alike (R335, R352, R357; the answers are the model's, log entry 62). -/
def Obligations.Attestation : Prop :=
  (∀ (slot off len n index : Nat) (offered good signed : Bool) (s : State), s.dark = false → s.inHold = false →
    let answered (r : SpdmRsp) (t : State) : Prop := (s.out ++ [.spdm r]) <+: t.out ∧ t.regs = s.regs
    let refused (t : State) : Prop := (s.out ++ [.spdm .error]) <+: t.out ∧ t.regs = s.regs ∧ t.host.spdm = s.host.spdm
    (s.linkUp = false → exec .getVersion s = .next s ∧ exec .getCapabilities s = .next s ∧
      exec (.negotiateAlgorithms offered) s = .next s ∧ exec .getDigests s = .next s ∧ exec (.getCertificate slot off len) s = .next s ∧
      exec (.challenge slot) s = .next s ∧ exec (.getMeasurements index signed) s = .next s ∧ exec .keyExchange s = .next s ∧
      exec (.finish n good) s = .next s ∧ exec (.heartbeat n) s = .next s ∧ exec (.keyUpdate n) s = .next s ∧
      exec (.endSession n) s = .next s) ∧
    (s.linkUp = true →
      Completes .getVersion s (fun t => answered (.version 1 2) t ∧ t.host.spdm.stage = 1 ∧ t.host.spdm.sessions = []) ∧
      (s.host.spdm.stage = 1 → Completes .getCapabilities s fun t => answered .capabilities t ∧ t.host.spdm.stage = 2) ∧
      (s.host.spdm.stage ≠ 1 → Completes .getCapabilities s refused) ∧
      (s.host.spdm.stage = 2 → offered = true → Completes (.negotiateAlgorithms offered) s fun t =>
        answered .algorithms t ∧ t.host.spdm.stage = 3) ∧
      (s.host.spdm.stage ≠ 2 ∨ offered = false → Completes (.negotiateAlgorithms offered) s refused) ∧
      (s.host.spdm.stage = 3 →
        Completes .getDigests s (fun t => answered (.digests [(0, sha384 certChain)]) t ∧ t.host.spdm = s.host.spdm) ∧
        (slot = 0 → Completes (.getCertificate slot off len) s fun t =>
          answered (.certificate ((certChain.drop off).take len) (certChain.length - off - len)) t ∧ t.host.spdm = s.host.spdm) ∧
        (slot = 0 → Completes (.challenge slot) s fun t => answered (.challengeAuth (sha384 certChain) (s.freeBytes 96)) t) ∧
        (s.host.spdm.sessions.length < 4 → Completes .keyExchange s fun t =>
          answered (.keyExchange s.host.spdm.next ((s.freeBytes 192).take 96) ((s.freeBytes 192).drop 96)) t ∧
          t.host.spdm.sessions = s.host.spdm.sessions ++ [(s.host.spdm.next, false)]) ∧
        (index = 0xFF ∨ index ∈ blockIndices →
          (s.host.spdm.stale = true → index = 6 ∨ index = 0xFF → Completes (.getMeasurements index signed) s fun t =>
            t.host.spdm.held = s.host.spdm.held ++ [(index, signed)] ∧ t.out = s.out ∧ t.regs = s.regs) ∧
          (s.host.spdm.stale = false ∨ index ≠ 6 ∧ index ≠ 0xFF → Completes (.getMeasurements index signed) s fun t =>
            answered (.measurements ((if index = 0xFF then blockIndices else [index]).filterMap s.block)
              (if signed then some (s.freeBytes 96) else none)) t)) ∧
        (index ≠ 0xFF → index ∉ blockIndices → Completes (.getMeasurements index signed) s refused)) ∧
      (s.host.spdm.stage ≠ 3 → Completes .getDigests s refused ∧ Completes .keyExchange s refused ∧
        Completes (.getMeasurements index signed) s refused) ∧
      (s.host.spdm.stage ≠ 3 ∨ slot ≠ 0 → Completes (.getCertificate slot off len) s refused ∧ Completes (.challenge slot) s refused) ∧
      (4 ≤ s.host.spdm.sessions.length → Completes .keyExchange s refused) ∧
      (good = true → (n, false) ∈ s.host.spdm.sessions → Completes (.finish n good) s fun t =>
        answered (.finished n) t ∧ (n, true) ∈ t.host.spdm.sessions) ∧
      (good = false ∨ (n, false) ∉ s.host.spdm.sessions → Completes (.finish n good) s refused) ∧
      (s.session n = true → Completes (.heartbeat n) s (answered (.heartbeatAck n)) ∧
        Completes (.keyUpdate n) s (answered (.keyUpdateAck n)) ∧
        Completes (.endSession n) s fun t => answered (.sessionEnded n) t ∧ t.session n = false) ∧
      (s.session n = false → Completes (.heartbeat n) s refused ∧ Completes (.keyUpdate n) s refused ∧
        Completes (.endSession n) s refused)) ∧
    (s.host.spdm.stale = false → exec .mr6Recomputed s = .next s) ∧
    (s.host.spdm.stale = true → Completes .mr6Recomputed s fun t =>
      t.host.spdm.stale = false ∧ t.host.spdm.mr6 = s.mr6Value ∧ t.host.spdm.held = [] ∧ t.regs = s.regs ∧ s.out <+: t.out)) ∧
  (∀ (n : Nat) (stream : Fin 2) (op : Fin 3) (s : State), s.dark = false → s.inHold = false →
    (s.linkUp = false → exec (.ideKm n stream op) s = .next s) ∧ (s.linkUp = true →
    let f := if stream.val = 0 then CXL0.IDE_STAT_IO else CXL0.IDE_STAT_CM
    (s.session n = true →
      Completes (.ideKm n stream 0) s (fun t => hasBit t.host.spdm.ide stream.val = true ∧
        (s.out ++ [.spdm (.ideKmAck n stream.val)]) <+: t.out ∧ Frame [] s t) ∧
      (hasBit s.host.spdm.ide stream.val = true → Completes (.ideKm n stream 1) s (fun t => t.rd f = 1 ∧
        (s.out ++ [.spdm (.ideKmAck n stream.val)]) <+: t.out ∧ Frame [f.key] s t)) ∧
      (hasBit s.host.spdm.ide stream.val = false → Completes (.ideKm n stream 1) s (fun t =>
        (s.out ++ [.spdm .error]) <+: t.out ∧ Frame [] s t)) ∧
      Completes (.ideKm n stream 2) s (fun t => t.rd f = 0 ∧ hasBit t.host.spdm.ide stream.val = false ∧
        (s.out ++ [.spdm (.ideKmAck n stream.val)]) <+: t.out ∧ Frame [f.key] s t)) ∧
    (s.session n = false → Completes (.ideKm n stream op) s (fun t =>
      (s.out ++ [.spdm .error]) <+: t.out ∧ t.host.spdm = s.host.spdm ∧ Frame [] s t))))

/-- Gosia ports: a parcel that fails its check counts in CRC and is answered by a NAK; a LINK parcel acknowledges alone; one in order advances the expected number, one
ahead of it is answered by a NAK and not taken; a port in far-end loopback sends what it receives; a replay sends every parcel not acknowledged again, in order, and the eighth of one
parcel takes the port down to train; a training shows the width its lanes allow; a lane that drops narrows the port; a scan of the eye
is shown (R360, R364, R366, R368, R370). -/
def Obligations.FabricPorts : Prop :=
  ∀ (p lane cause : Fin 4) (b : List Byte) (timeout : Bool) (lanes : BitVec 4) (hgt wid : BitVec 8) (s : State), Runs s →
  let bad := b.length < 16 ∨ u32 b (b.length - 4) ≠ crc32c (b.take (b.length - 4)) ∨ u16 b 8 + 16 ≠ b.length
  let ahead := (u16 b 6 % 4096 + 4096 - (s.port p).rxSeq) % 4096
  let again := (s.port p).buf.drop ((s.port p).buf.length - (s.port p).unacked)
  let eighth := (s.port p).replayOf = some ((again.head?.map Prod.fst).getD 0) ∧ 8 ≤ (s.port p).replays + 1
  let trained (t : State) : Prop :=
    let w := trainWidth (if s.twinPort p then lanes.toNat % 2 else lanes.toNat) (s.port p).maxWidth
    t.rd (GSL.PORT_STAT_WIDTH p.val) = w ∧ t.on (GSL.PORT_STAT_UP p.val) = (w != 0) ∧
    hasBit (t.rd CLK.PHY_LOCK_GOSIA) p.val = (w != 0) ∧ (w ≠ 0 → (t.port p).want = false ∧ (t.port p).downAt = none) ∧
    ∀ q : Fin 4, q ≠ p → t.port q = s.port q
  (s.linked p = false → (s.portOn p && s.on (GSL.PORT_CFG_PRBS p.val)) = false → s.farEnd p = false →
    exec (.parcelReceive p b) s = .next s) ∧
  (s.farEnd p = true → s.on (GSL.PORT_CFG_PRBS p.val) = false → Completes (.parcelReceive p b) s (fun t =>
    t.out = s.out ++ [.parcel p.val b] ∧ t.gsl = s.gsl ∧ Frame [] s t)) ∧
  (s.linked p = false → (s.portOn p && s.on (GSL.PORT_CFG_PRBS p.val)) = true → Completes (.parcelReceive p b) s (fun t =>
    t.rd (GSL.LINK_ERR_CRC p.val) = min (s.rd (GSL.LINK_ERR_CRC p.val) + 1) (2 ^ (GSL.LINK_ERR_CRC p.val).width - 1) ∧
    t.out = s.out ∧ t.gsl = s.gsl ∧ Frame [(GSL.LINK_ERR_CRC p.val).key] s t)) ∧
  (s.linked p = true → ¬ bad → u8 b 0 = 6 → Completes (.parcelReceive p b) s (fun t =>
    (t.port p).rxSeq = (s.port p).rxSeq ∧ (t.port p).unacked ≤ (s.port p).unacked ∧
    (t.port p).nak = ((s.port p).nak || hasBit (u16 b 10) 15) ∧ t.out = s.out ∧ Frame [] s t)) ∧
  (s.linked p = true → bad → Completes (.parcelReceive p b) s (fun t =>
    t.rd (GSL.LINK_ERR_CRC p.val) = min (s.rd (GSL.LINK_ERR_CRC p.val) + 1) (2 ^ (GSL.LINK_ERR_CRC p.val).width - 1) ∧
    t.out.length = s.out.length + 1 ∧ t.gsl = s.gsl ∧ Frame [(GSL.LINK_ERR_CRC p.val).key] s t)) ∧
  (s.linked p = true → ¬ bad → u8 b 0 ≠ 6 →
    (ahead = 0 → Completes (.parcelReceive p b) s (fun t => (t.port p).rxSeq = ((s.port p).rxSeq + 1) % 4096 ∧
      s.out.length < t.out.length ∧ Frame [] s t)) ∧
    (0 < ahead → Completes (.parcelReceive p b) s (fun t => (t.port p).rxSeq = (s.port p).rxSeq ∧
      t.out.length = s.out.length + (if ahead < 2048 then 1 else 0) ∧ Frame [] s t))) ∧
  (s.linked p = false ∨ (s.port p).unacked = 0 ∨ ((s.port p).nak || timeout) = false →
    exec (.parcelReplay p timeout) s = .next s) ∧
  (s.linked p = true → (s.port p).unacked ≠ 0 → ((s.port p).nak || timeout) = true → Completes (.parcelReplay p timeout) s (fun t =>
    t.out = s.out ++ again.map (fun e => .parcel p.val e.2) ∧ (t.port p).nak = false ∧ (t.port p).buf = (s.port p).buf ∧
    t.rd (GSL.LINK_ERR_REPLAY p.val) =
      min (s.rd (GSL.LINK_ERR_REPLAY p.val) + 1) (2 ^ (GSL.LINK_ERR_REPLAY p.val).width - 1) ∧
    (eighth → t.on (GSL.PORT_STAT_UP p.val) = false ∧ (t.port p).want = true) ∧
    (¬ eighth → t.rd (GSL.PORT_STAT_UP p.val) = s.rd (GSL.PORT_STAT_UP p.val)))) ∧
  (s.portOn p = false ∨ (s.port p).want = false → exec (.portRetrain p lanes) s = .next s) ∧
  (s.portOn p = true → (s.port p).want = true → Completes (.portRetrain p lanes) s trained) ∧
  (∀ n, (s.port p).downAt = some n → s.portOn p = true → n + 1000 ≤ s.now → Completes (.portDownRetry p lanes) s trained) ∧
  ((s.port p).downAt = none → exec (.portDownRetry p lanes) s = .next s) ∧
  (s.portOn p = true → Completes (.laneDrop p lane cause) s (fun t =>
    (cause = 2 → hasBit (t.rd (GSL.PORT_STAT_LOS p.val)) lane.val = true) ∧
    (cause = 3 → hasBit (t.rd (GSL.PORT_STAT_LOL p.val)) lane.val = true) ∧
    (lane.val < s.rd (GSL.PORT_STAT_WIDTH p.val) → t.rd (GSL.PORT_STAT_UP p.val) = 0 ∧ (t.port p).want = true ∧
      (t.port p).maxWidth = if s.rd (GSL.PORT_STAT_WIDTH p.val) = 4 then 2 else 1) ∧
    Frame [(GSL.PORT_STAT_LOS p.val).key, (GSL.PORT_STAT_LOL p.val).key, (GSL.PORT_STAT_UP p.val).key] s t)) ∧
  (s.linked p = true → s.on (GSL.PORT_STAT_TRUNK p.val) = false → lane.val < s.rd (GSL.PORT_STAT_WIDTH p.val) →
    Completes (.eyeScan p lane hgt wid) s (fun t =>
      (t.port p).eyes[lane] = some (hgt.toNat, wid.toNat) ∧ t.rd (GSL.EYE_VALID p.val) = 1 ∧
      t.rd (GSL.EYE_HEIGHT p.val) ≤ hgt.toNat ∧
      (t.rd (GSL.EYE_HEIGHT p.val) < s.rd GSL.EYE_MIN_HEIGHT → hasBit (t.rd (HDR.IRQ_STAT_IRQ .gsl)) 3 = true))) ∧
  ((s.linked p = false ∨ s.on (GSL.PORT_STAT_TRUNK p.val) = true ∨ s.rd (GSL.PORT_STAT_WIDTH p.val) ≤ lane.val) →
    exec (.eyeScan p lane hgt wid) s = .next s)

/-- The domain: a beacon of another device keeps it live and counts it in LIVE, one with the own ID shows DUP_ID with bit 4; a device
with no beacon for 20 ms is lost; own beacons carry a bump for one frame; a TRIGGER parcel seen before changes nothing, and a new one
of another device is counted where it is untrusted, and decides a trigger of source 1 where its line is taken (R371, R372, R383, R384,
R396). -/
def Obligations.FabricDomain : Prop :=
  ∀ (p : Fin 4) (src : BitVec 14) (hops : Fin 64) (b : List Byte) (ns : Fin 100000) (s : State), Runs s →
  (s.fabricPort p = false ∨ s.fabricRole = false → exec (.beaconReceive p src hops b) s = .next s ∧
    exec (.triggerReceive p src hops b ns) s = .next s) ∧
  (s.fabricPort p = true → s.fabricRole = true →
    (src.toNat = s.domainId → Completes (.beaconReceive p src hops b) s (fun t =>
      t.rd GSL.IDENT_DUP_ID = 1 ∧ hasBit (t.rd (HDR.IRQ_STAT_IRQ .gsl)) 4 = true ∧ t.gsl = s.gsl ∧
      Frame [GSL.IDENT_DUP_ID.key, (HDR.IRQ_STAT_IRQ .gsl).key] s t)) ∧
    (src.toNat ≠ s.domainId → Completes (.beaconReceive p src hops b) s (fun t =>
      (∃ d, t.dev src.toNat = some d ∧ d.seen = s.now ∧ d.epoch = u16 b 0) ∧
      (∀ id, id ≠ src.toNat → t.dev id = s.dev id ∨ s.dev id = none) ∧
      t.rd GSL.MEMB_LIVE = (t.gsl.devs.length + 1) % 2 ^ GSL.MEMB_LIVE.width ∧
      t.on GSL.MEMB_QUORUM = decide (s.rd GSL.CLUSTER_SIZE < 2 * (t.gsl.devs.length + 1)))) ∧
    (s.gsl.trigs.contains (src.toNat, u16 b 0) = true → exec (.triggerReceive p src hops b ns) s = .next s) ∧
    (s.gsl.trigs.contains (src.toNat, u16 b 0) = false → src.toNat ≠ s.domainId → Completes (.triggerReceive p src hops b ns) s (fun t =>
      (src.toNat, u16 b 0) ∈ t.gsl.trigs ∧
      t.rd GSL.TRIG_STAT_UNTRUSTED = (if hasBit (u8 b 2) 7 || s.untrusted then
        min (s.rd GSL.TRIG_STAT_UNTRUSTED + 1) (2 ^ GSL.TRIG_STAT_UNTRUSTED.width - 1) else s.rd GSL.TRIG_STAT_UNTRUSTED) ∧
      t.dst.decided.length = s.dst.decided.length +
        b2n (hasBit (s.rd DST.TRIG_EN_BUS_MASK) (u8 b 2 % 16) && hasBit (s.rd DST.TRIG_EN_SRC_EN) 1) ∧
      Frame [GSL.TRIG_STAT_LATE.key, GSL.TRIG_STAT_UNTRUSTED.key] s t))) ∧
  (s.dev src.toNat = none → exec (.deviceLost src) s = .next s) ∧
  (∀ d, s.dev src.toNat = some d → (s.now < d.seen + 200 → exec (.deviceLost src) s = .next s) ∧
    (d.seen + 200 ≤ s.now → Completes (.deviceLost src) s (fun t => t.dev src.toNat = none ∧
      t.rd GSL.MEMB_LIVE = (t.gsl.devs.length + 1) % 2 ^ GSL.MEMB_LIVE.width))) ∧
  Completes .epochBump s (fun t => t.gsl = { s.gsl with bumpUntil := s.now + 512 } ∧ Frame [] s t)

/-- Domain time: a SYNC shows the delay of its link, and on the upstream port of a follower it is a reference event; an edge of PPS_IN
is counted once, as taken or rejected, and a taken one applies TOD where it is armed; without a reference the time state goes to
HOLDOVER; a time step is taken while UNALIGNED alone; a crystal failure stops the tick (R113, R376, R378 to R380). -/
def Obligations.DomainTime : Prop :=
  ∀ (p : Fin 4) (t1 t2 t3 t4 : Nat) (asymA : Int) (rising : Bool) (off : Fin 1048576000) (s : State), Runs s →
  (s.fabricPort p = false ∨ s.fabricRole = false → exec (.syncReceive p t1 t2 t3 t4 asymA) s = .next s) ∧
  (s.fabricPort p = true → s.fabricRole = true → Completes (.syncReceive p t1 t2 t3 t4 asymA) s (fun t =>
    t.rd (GSL.LINK_DLY_PS p.val) =
      (clampI 0 16777215 (divNearI ((((t2 : Int) - t1) + ((t4 : Int) - t3)) * 25000) (2 * 262144))).toNat ∧
    (if s.on GSL.MEMB_MASTER_VALID && !s.on GSL.MEMB_IS_MASTER && s.rd GSL.MEMB_UP_PORT == p.val then
      t.tim.syncSeen = some s.now ∧ t.tim.eventAt = some s.now ∧ t.rd TIM.DSTAT_HOLD_S = 0
    else t.tim = s.tim ∧ Frame [(GSL.LINK_DLY_PS p.val).key] s t))) ∧
  ((!s.on GSL.MEMB_IS_MASTER || !s.on TIM.DISC_PPS_EN || rising == s.on TIM.DISC_PPS_FALL) = true →
    exec (.ppsEdge rising off) s = .next s) ∧
  ((!s.on GSL.MEMB_IS_MASTER || !s.on TIM.DISC_PPS_EN || rising == s.on TIM.DISC_PPS_FALL) = false →
    Completes (.ppsEdge rising off) s (fun t =>
      t.rd TIM.PPS_STAT_TAKEN = s.rd TIM.PPS_STAT_TAKEN ∧ t.tim = s.tim ∧
        t.rd TIM.PPS_STAT_REJECTED = min (s.rd TIM.PPS_STAT_REJECTED + 1) (2 ^ TIM.PPS_STAT_REJECTED.width - 1) ∧
        Frame [TIM.PPS_STAT_REJECTED.key] s t ∨
      t.rd TIM.PPS_STAT_REJECTED = s.rd TIM.PPS_STAT_REJECTED ∧ t.tim.eventAt = some s.now ∧
        t.rd TIM.PPS_STAT_TAKEN = min (s.rd TIM.PPS_STAT_TAKEN + 1) (2 ^ TIM.PPS_STAT_TAKEN.width - 1) ∧
        t.on TIM.TOD_ARM_ARMED = false)) ∧
  Completes .todArm s (fun t => t.rd TIM.TOD_ARM_ARMED = 1 ∧ Frame [TIM.TOD_ARM_ARMED.key] s t) ∧
  (2 ≤ s.rd TIM.DSTAT_STATE ∨ s.referenceGone = false → exec .holdoverEntry s = .next s) ∧
  (s.rd TIM.DSTAT_STATE ≤ 1 → s.referenceGone = true → Completes .holdoverEntry s (fun t =>
    t.rd TIM.DSTAT_STATE = 2 ∧ t.rd TIM.DSTAT_TRUSTED = 1 ∧ t.tim.sigma = 0 ∧
    Frame [TIM.DSTAT_STATE.key, TIM.DSTAT_TRUSTED.key] s t)) ∧
  Completes .timeStep s (fun t =>
    if s.rd TIM.DSTAT_STATE = 4 then t.rd TIM.STEP_PENDING = 1 ∧ t.rd (HDR.ERR_CODE_CODE .tim) = 0 ∧
      Frame (TIM.STEP_PENDING.key :: codeKeys .tim) s t
    else t.rd (HDR.ERR_CODE_CODE .tim) = CFG_BUSY ∧ Frame (codeKeys .tim) s t) ∧
  (s.on TIM.XTAL_STAT_FAIL = true → exec .xtalFail s = .next s) ∧
  (s.on TIM.XTAL_STAT_FAIL = false → Completes .xtalFail s (fun t =>
    t.rd TIM.XTAL_STAT_FAIL = 1 ∧ t.rd TIM.XTAL_STAT_RUN = 0 ∧ (∀ k < 6, t.rd (CLK.SYN_STAT_LOCK k) = 0) ∧
    t.scd.measuring = false ∧ hasBit (t.rd (HDR.IRQ_STAT_IRQ .clk)) 0 = true ∧
    (s.twinEn = true → s.role = 1 → t.role = 5 ∧ t.rd TWN.CAUSE_CODE = 6)))

/-- Dust Sheet: a command trigger decides where its source is enabled, one on the bus takes the next number and goes out on every port;
ARM arms at the next tick boundary, and disarming ends the open record; the end of a record writes one descriptor, and then the machine
arms, holds off until its hold-off is over, or stops where it was SINGLE; a CAPTURE parcel is told with bit 3 (R382, R396, R399, R401 to R403). -/
def Obligations.DustSheet : Prop :=
  ∀ (line : BitVec 4) (ns : Fin 100000) (src : BitVec 14) (b : List Byte) (s : State), Runs s →
  let isOver := s.dst.events == 0 && decide (s.dst.after ≤ s.now * tickSmp + smpOfNs ns.val)
  (hasBit (s.rd DST.TRIG_EN_SRC_EN) 2 = false → exec (.trigCmdGo ns) s = .next s) ∧
  (hasBit (s.rd DST.TRIG_EN_SRC_EN) 2 = true → Completes (.trigCmdGo ns) s (fun t =>
    (∃ x, t.dst.decided = s.dst.decided ++ [x] ∧ x.src = 2 ∧ x.pos = s.now * tickSmp + smpOfNs ns.val) ∧ Frame [] s t)) ∧
  Completes (.trigCmdBus line ns) s (fun t =>
    t.gsl.trigSeq = (s.gsl.trigSeq + 1) % 65536 ∧ (s.domainId, s.gsl.trigSeq) ∈ t.gsl.trigs ∧
    t.out.length = s.out.length + (if s.fabricRole then s.fabricPorts.length else 0) ∧
    t.dst.decided.length = s.dst.decided.length +
      b2n (hasBit (s.rd DST.TRIG_EN_BUS_MASK) line.toNat && hasBit (s.rd DST.TRIG_EN_SRC_EN) 1) ∧ Frame [] s t) ∧
  Completes (.armGo ns) s (fun t => t.dst = { s.dst with armAt := some (s.nextTick ns.val) } ∧ Frame [] s t) ∧
  Completes .armStop s (fun t => t.rd DST.DSTAT_ARMED = 0 ∧ t.rd DST.DSTAT_HOLD = 0 ∧ t.dst.armAt = none ∧ t.dst.events = 0 ∧
    (∀ r, t.dst.opn = some r → r.halted = true ∧ ∀ k : Fin 4, ∀ o, r.streams[k] = some o → o.ended = true) ∧
    Frame [DST.DSTAT_ARMED.key, DST.DSTAT_HOLD.key] s t) ∧
  (s.dst.opn = none → exec .dstRecordEnd s = .next s) ∧
  (∀ r, s.dst.opn = some r → (∃ k : Fin 4, ∃ o, r.streams[k] = some o ∧ o.ended = false) → exec .dstRecordEnd s = .next s) ∧
  (∀ r, s.dst.opn = some r → (∀ k : Fin 4, ∀ o, r.streams[k] = some o → o.ended = true) → Completes .dstRecordEnd s (fun t =>
    t.dst.opn = none ∧ t.rd DST.DSTAT_OPEN = 0 ∧ t.rd DST.DESC_WR_IDX = (s.rd DST.DESC_WR_IDX + 1) % 2 ^ DST.DESC_WR_IDX.width ∧
    hasBit (t.rd (HDR.IRQ_STAT_IRQ .dst)) 0 = true ∧ (r.single = true → t.rd DST.DSTAT_STOPPED = 1) ∧
    t.on DST.DSTAT_HOLD = (!r.halted && s.rd DST.HOLDOFF_VALUE != 0) ∧
    (r.single = false → r.halted = false → s.rd DST.HOLDOFF_VALUE = 0 → t.rd DST.DSTAT_ARMED = 1))) ∧
  (s.on DST.DSTAT_HOLD = false ∨ isOver = false → exec (.holdoffEnd ns) s = .next s) ∧
  (s.on DST.DSTAT_HOLD = true → isOver = true → Completes (.holdoffEnd ns) s (fun t =>
    t.rd DST.DSTAT_HOLD = 0 ∧ t.dst = s.dst ∧
    t.rd DST.DSTAT_ARMED = (if s.on DST.DSTAT_STOPPED then s.rd DST.DSTAT_ARMED else 1) ∧
    Frame [DST.DSTAT_HOLD.key, DST.DSTAT_ARMED.key] s t)) ∧
  Completes (.captureParcel src b) s (fun t => hasBit (t.rd (HDR.IRQ_STAT_IRQ .dst)) 3 = true ∧ t.dst = s.dst ∧
    Frame ((HDR.IRQ_STAT_IRQ .dst).key :: eventKeys) s t)

/-- The display link: bring-up starts when the sink shows and OUT.EN is set, ends in the first setting tried that trains, or in FAIL
with bit 0, and is tried again 1 s later; a sink that goes takes the link down; an AUX transaction takes its operands and answers
CFG_BUSY while one runs, waits for a training to end, and ends with its code and bit 5 (R408; log entry 80 for CFG_BUSY). -/
def Obligations.DisplayLink : Prop :=
  ∀ (sinkRate : Fin 3) (sinkLanes : Nat) (ok : List (Nat × Nat)) (lost : Bool) (addr : BitVec 20) (len : Fin 16) (code : Fin 4)
    (b : List Byte) (s : State), Runs s →
  let start := if s.on RND.LINK_STAT_HPD then 1 else 4
  let asked (op : Nat) (t : State) : Prop :=
    t.rd RND.AUX_CMD_ADDR = addr.toNat ∧ t.rd RND.AUX_CMD_LEN = len.val ∧ t.rd RND.AUX_CMD_OP = op ∧
    Frame ([RND.AUX_CMD_ADDR.key, RND.AUX_CMD_LEN.key, RND.AUX_CMD_OP.key, RND.AUX_CMD_BUSY.key] ++ codeKeys .rnd) s t
  let busy (t : State) : Prop := t.rd (HDR.ERR_CODE_CODE .rnd) = CFG_BUSY ∧ t.rnd = s.rnd ∧ t.out = s.out
  let begun (t : State) : Prop := t.rd RND.AUX_CMD_BUSY = 1 ∧ t.rnd.auxWait = s.training ∧
    (s.training = true → t.out = s.out) ∧ (s.training = false → t.out.length = s.out.length + 1)
  (s.on RND.AUX_CMD_BUSY = true → Completes (.auxNativeRead addr len) s fun t => asked 0 t ∧ busy t) ∧
  (s.on RND.AUX_CMD_BUSY = false → Completes (.auxNativeRead addr len) s fun t => asked 0 t ∧ begun t) ∧
  (s.on RND.AUX_CMD_BUSY = true → Completes (.auxNativeWrite addr len) s fun t => asked 1 t ∧ busy t) ∧
  (s.on RND.AUX_CMD_BUSY = false → Completes (.auxNativeWrite addr len) s fun t => asked 1 t ∧ begun t) ∧
  (s.on RND.AUX_CMD_BUSY = true → Completes (.auxI2cRead addr len) s fun t => asked 2 t ∧ busy t) ∧
  (s.on RND.AUX_CMD_BUSY = false → Completes (.auxI2cRead addr len) s fun t => asked 2 t ∧ begun t) ∧
  (s.on RND.AUX_CMD_BUSY = true → Completes (.auxI2cWrite addr len) s fun t => asked 3 t ∧ busy t) ∧
  (s.on RND.AUX_CMD_BUSY = false → Completes (.auxI2cWrite addr len) s fun t => asked 3 t ∧ begun t) ∧
  (s.on RND.AUX_CMD_BUSY = false ∨ s.rnd.auxWait = true → exec (.auxComplete code b) s = .next s) ∧
  (s.on RND.AUX_CMD_BUSY = true → s.rnd.auxWait = false → Completes (.auxComplete code b) s (fun t =>
    t.rd RND.AUX_CMD_CODE = code.val ∧ t.rd RND.AUX_CMD_BUSY = 0 ∧ hasBit (t.rd (HDR.IRQ_STAT_IRQ .rnd)) 5 = true ∧
    (code ≠ 0 ∨ s.rd RND.AUX_CMD_OP % 2 = 1 → ∀ k < 4, t.rd (RND.AUX_DATA_DATA k) = s.rd (RND.AUX_DATA_DATA k)) ∧
    (code = 0 → s.rd RND.AUX_CMD_OP = 0 → s.rd RND.AUX_CMD_LEN = 15 → ∀ k < 4, t.rd (RND.AUX_DATA_DATA k) = u32 (subBytes b 0 16) (4 * k)))) ∧
  (s.training = false → exec (.dpTrainingEnd sinkRate sinkLanes ok) s = .next s) ∧
  (s.training = true → Completes (.dpTrainingEnd sinkRate sinkLanes ok) s (fun t =>
    (∀ x, (s.linkTries sinkRate.val sinkLanes).find? (fun x => ok.contains x) = some x →
      t.rd RND.LINK_STAT_STATE = 2 ∧ t.rd RND.LINK_STAT_RATE = x.1 ∧ t.rd RND.LINK_STAT_LANES = x.2 ∧ t.rd CLK.PHY_LOCK_DP = 1) ∧
    ((s.linkTries sinkRate.val sinkLanes).find? (fun x => ok.contains x) = none →
      t.rd RND.LINK_STAT_STATE = 3 ∧ t.rd RND.LINK_STAT_LANES = 0 ∧ t.rnd.failAt = some s.now ∧ t.rd CLK.PHY_LOCK_DP = 0 ∧
      hasBit (t.rd (HDR.IRQ_STAT_IRQ .rnd)) 0 = true) ∧
    t.rnd.auxWait = false ∧ t.out.length = s.out.length + b2n s.rnd.auxWait)) ∧
  (s.rd RND.LINK_STAT_STATE ≠ 3 ∨ s.rnd.failAt = none → exec .linkTrainRetry s = .next s) ∧
  (∀ n, s.rd RND.LINK_STAT_STATE = 3 → s.rnd.failAt = some n → n + 10000 ≤ s.now → s.on RND.OUT_EN = true →
    Completes .linkTrainRetry s (fun t => t.rd RND.LINK_STAT_STATE = start ∧ Frame [RND.LINK_STAT_STATE.key] s t)) ∧
  Completes (.irqHpd lost) s (fun t => hasBit (t.rd (HDR.IRQ_STAT_IRQ .rnd)) 1 = true ∧
    t.rd RND.LINK_STAT_STATE = (if lost && s.rd RND.LINK_STAT_STATE == 2 && s.on RND.OUT_EN then start else s.rd RND.LINK_STAT_STATE) ∧
    Frame [(HDR.IRQ_STAT_IRQ .rnd).key, RND.LINK_STAT_STATE.key] s t) ∧
  Completes .hpdLoss s (fun t => t.rd RND.LINK_STAT_HPD = 0 ∧ hasBit (t.rd (HDR.IRQ_STAT_IRQ .rnd)) 1 = true ∧
    (s.on RND.OUT_EN = true → t.rd RND.LINK_STAT_STATE = 4 ∧ t.rd RND.LINK_STAT_RATE = 0 ∧ t.rd RND.LINK_STAT_LANES = 0 ∧
      t.rd CLK.PHY_LOCK_DP = 0)) ∧
  (s.on RND.LINK_STAT_HPD = true → exec .hpdReturn s = .next s) ∧
  (s.on RND.LINK_STAT_HPD = false → Completes .hpdReturn s (fun t => t.rd RND.LINK_STAT_HPD = 1 ∧
    hasBit (t.rd (HDR.IRQ_STAT_IRQ .rnd)) 1 = true ∧ (s.on RND.OUT_EN = true → t.rd RND.LINK_STAT_STATE = 1)))

/-- A refresh: at its latch the waiting commit takes hold unless it came late, and the latch chooses the images that are shown; its end
counts it and shows its signatures; a stall and its end show in FREEZE; genlock takes an edge that is near enough to the last; an active
line goes out while the link is up (R410 to R412, R417, R418). -/
def Obligations.DisplayRefresh : Prop :=
  ∀ (late falling within : Bool) (ns : Fin 100000) (line : Nat) (f : LineFetch) (s : State), Runs s →
  Completes (.refreshLatch late) s (fun t =>
    t.rnd.coats = t.ptb.imgCoat ∧ t.rnd.imgSeq = t.rd PTB.IMG_SEQ_SEQ ∧ t.rnd.sigs = s.signatures ∧
    (late = true ∨ (s.commits.any fun c => c.page == .rnd && c.due == .refresh) = false → t.commits = s.commits ∧ Frame [] s t) ∧
    (late = false → (s.commits.any fun c => c.page == .rnd && c.due == .refresh) = true →
      (t.commits.any fun c => c.page == .rnd) = false ∧ t.rd (HDR.STAT_COMMIT_PENDING .rnd) = 0 ∧
      t.rd (HDR.SHADOW_SEQ_SEQ .rnd) = (s.rd (HDR.SHADOW_SEQ_SEQ .rnd) + 1) % 2 ^ 32)) ∧
  (s.on RND.OUT_EN = false → exec .refreshEnd s = .next s) ∧
  (s.on RND.OUT_EN = true → Completes .refreshEnd s (fun t =>
    t.rd RND.REFRESH_COUNT = (s.rd RND.REFRESH_COUNT + 1) % 2 ^ RND.REFRESH_COUNT.width ∧ t.rnd.prev = s.rnd.sigs ∧ t.rnd.sigs = [] ∧
    t.rnd.lastEnd = some s.now ∧ t.on RND.FRZ_STAT_STALL = false ∧
    ((s.rnd.sigs.map Prod.fst).Nodup → ∀ e ∈ s.rnd.sigs, t.rd (RND.SIG_CRC e.1.val) = e.2.2 % 2 ^ 32))) ∧
  (s.on RND.OUT_EN = false ∨ s.rnd.lastEnd = none → exec .freezeStall s = .next s) ∧
  (∀ n, s.on RND.OUT_EN = true → s.rnd.lastEnd = some n → n * 100000 + 4 * s.refreshNs ≤ s.nsAt 0 → Completes .freezeStall s (fun t =>
    t.on RND.FRZ_STAT_STALL = true ∧ t.on RND.FRZ_STAT_FREEZE = true ∧
    (s.on RND.FRZ_STAT_FREEZE = false → hasBit (t.rd (HDR.IRQ_STAT_IRQ .rnd)) 3 = true) ∧
    Frame [RND.FRZ_STAT_REGIONS.key, RND.FRZ_STAT_STALL.key, RND.FRZ_STAT_FREEZE.key, (HDR.IRQ_STAT_IRQ .rnd).key] s t)) ∧
  ((!s.on RND.OUT_EN || !s.on RND.GL_CFG_EN || falling != s.on RND.GL_CFG_FALL) = true → exec (.vsyncInEdge falling within ns) s = .next s) ∧
  ((!s.on RND.OUT_EN || !s.on RND.GL_CFG_EN || falling != s.on RND.GL_CFG_FALL) = false → s.rnd.glEdge = none →
    Completes (.vsyncInEdge falling within ns) s (fun t =>
      t.rnd.glEdge = some (s.nsAt ns.val) ∧ t.rnd.glRun = true ∧ t.rnd.glBad = 0 ∧
      t.rnd.glGood = (if within ∧ s.rnd.glRun then s.rnd.glGood + 1 else 0) ∧ (8 ≤ t.rnd.glGood → t.rd RND.GL_STAT_LOCKED = 1) ∧
      Frame [RND.GL_STAT_LOCKED.key] s t)) ∧
  (s.on RND.OUT_EN = false ∨ s.rd RND.VTIM0_VACT ≤ line → exec (.displayLineStart line f) s = .next s) ∧
  (s.on RND.OUT_EN = true → line < s.rd RND.VTIM0_VACT → Completes (.displayLineStart line f) s (fun t =>
    let lacks := f.late.any fun x => s.lineNeeds line x.1 x.2.1 x.2.2
    t.out.length = s.out.length + (if s.rd RND.LINK_STAT_STATE = 2 then 1 else 0) ∧
    (lacks = true → t.rd RND.STAT_UNDERRUN = min (s.rd RND.STAT_UNDERRUN + 1) (2 ^ RND.STAT_UNDERRUN.width - 1) ∧
      hasBit (t.rd (HDR.IRQ_STAT_IRQ .rnd)) 2 = true) ∧
    (lacks = false → t.rd RND.STAT_UNDERRUN = s.rd RND.STAT_UNDERRUN) ∧
    (∀ f : Fld, area f.key ≠ 19 → area f.key ∉ [3, 4, 13, 14, 15] → t.rd f = s.rd f) ∧ (∀ a, t.ld a = s.ld a) ∧
    ∀ a, t.fld a = s.fld a))

/-- Start-up and the control complex: firmware's release ends in STAGE 2, the first measurement in STAGE 3 with measurement
running; a confirmed boot clears BOOT_TRY; a flash command is taken one at a time; a lock-step mismatch restarts the cores and
counts, and the third within 10 s holds the complex instead (log entry 170) (R424, R430, R431, R432, R443). Locks and keys: a
synthesiser locks with its stored band code or stores the code a search found, once per boot in the flash; a loss of lock
shows and raises bit 0, and one of a DDR5 PHY fails its channel; the maker test modes open with a whole certificate that
holds, and then every output is off, any other counts in FAILS; locking draws a new nonce, whose value is free (R236, R435,
R445, R448). -/
def Obligations.ControlComplex : Prop :=
  (∀ (pull : Pull) (area : Fin 8) (reload : Bool) (s : State), Runs s →
    (s.rd CTL.BOOT_STAT_STAGE ≠ 0 ∨ s.boot.log = [] → exec .firmwareRelease s = .next s) ∧
    (s.rd CTL.BOOT_STAT_STAGE = 0 → s.boot.log ≠ [] → Completes .firmwareRelease s (fun t => t.rd CTL.BOOT_STAT_STAGE = 2 ∧
      t.now = s.now ∧ t.boot.log = s.boot.log)) ∧
    (s.readyToMeasure = false ∨ s.twinEn = true ∧ s.role ≠ 1 ∧ s.role ≠ 3 → exec (.firstMeasurement pull) s = .next s) ∧
    (s.readyToMeasure = true → s.twinEn = false ∨ s.role = 1 ∨ s.role = 3 → Completes (.firstMeasurement pull) s (fun t =>
      t.rd CTL.BOOT_STAT_STAGE = 3 ∧ t.boot.measured = true ∧ t.scd.measuring = true ∧ t.scd.measureFrom = s.now)) ∧
    Completes .bootOk s (fun t => t.rd CTL.BOOT_STAT_BOOT_TRY = 0 ∧ Frame [CTL.BOOT_STAT_BOOT_TRY.key] s t) ∧
    Completes (.flashCmd area) s (fun t =>
      if area.val = 0 then t.rd (HDR.ERR_CODE_CODE .ctl) = CFG_ZERO ∧ t.boot = s.boot ∧ Frame (codeKeys .ctl) s t
      else if 5 < area.val then t.rd (HDR.ERR_CODE_CODE .ctl) = CFG_RANGE ∧ t.boot = s.boot ∧ Frame (codeKeys .ctl) s t
      else if s.rd CTL.FL_LEN_LEN = 0 then t.rd (HDR.ERR_CODE_CODE .ctl) = CFG_ZERO ∧ t.boot = s.boot ∧ Frame (codeKeys .ctl) s t
      else if (flashBase area.val).2 < s.rd CTL.FL_LEN_LEN then
        t.rd (HDR.ERR_CODE_CODE .ctl) = CFG_RANGE ∧ t.boot = s.boot ∧ Frame (codeKeys .ctl) s t
      else if (1 ≤ s.rd CTL.BOOT_STAT_STAGE ∧ area.val = 2 + s.rd CTL.BOOT_STAT_FW_SLOT) ∨
          (area.val = 4 ∧ s.scd.load.any LoadReq.flash = true) ∨ s.flashBusy .ctl = true then
        t.rd (HDR.ERR_CODE_CODE .ctl) = CFG_BUSY ∧ t.boot = s.boot ∧ Frame (codeKeys .ctl) s t
      else if s.rangeFailed (s.rd CTL.FL_SRC_HI_ADDR * 2 ^ 32 + s.rd CTL.FL_SRC_LO_ADDR * 64) (s.rd CTL.FL_LEN_LEN) = true then
        t.rd CTL.FLASH_STAT_CODE = PARITY ∧ t.boot = s.boot ∧ Frame [CTL.FLASH_STAT_CODE.key] s t
      else t.rd CTL.FLASH_STAT_BUSY = 1 ∧ (∃ o, t.boot.ops = (if s.latched then s.boot.ops else s.boot.ops ++ [o]) ∧ o.src = .ctl ∧ o.area = area.val) ∧
        Frame [CTL.FLASH_STAT_BUSY.key] s t) ∧
    (s.boot.ops = [] → exec .flashOperationDone s = .next s) ∧
    (∀ o rest, s.boot.ops = o :: rest → Completes .flashOperationDone s (fun t => t.boot.ops = rest ∧
      hasBit (t.rd (HDR.IRQ_STAT_IRQ .ctl)) 0 = true ∧ (∀ a, t.ld a = s.ld a) ∧
      (o.src = .ctl → t.rd CTL.FLASH_STAT_BUSY = 0 ∧ t.rd CTL.FLASH_STAT_CODE = 0) ∧
      (o.src = .cal → t.rd CAL.STORE_BUSY = 0 ∧ t.rd CAL.STORE_CODE = 0 ∧ hasBit (t.rd (HDR.IRQ_STAT_IRQ .cal)) 3 = true) ∧
      (o.src = .saf → t.rd SAF.MODE_STORE_BUSY = 0 ∧ t.rd SAF.MODE_STORE_CODE = 0))) ∧
    (s.on CTL.LOCKSTEP_HELD = true → exec (.lockstepMismatch reload) s = .next s) ∧
    (s.on CTL.LOCKSTEP_HELD = false → Completes (.lockstepMismatch reload) s (fun t =>
      (t.on CTL.LOCKSTEP_HELD = false → t.rd CTL.LOCKSTEP_RESTARTS =
        min (s.rd CTL.LOCKSTEP_RESTARTS + 1) (2 ^ CTL.LOCKSTEP_RESTARTS.width - 1)) ∧
      (t.on CTL.LOCKSTEP_HELD = true → t.rd CTL.LOCKSTEP_RESTARTS = s.rd CTL.LOCKSTEP_RESTARTS) ∧
      t.on CTL.LOCKSTEP_HELD = decide (2 ≤ (s.boot.mism.filter fun n => decide (s.now < n + 100000)).length) ∧
      (reload = false → t.on CTL.LOCKSTEP_HELD = false → t.rd SCD.LEASE_AGE = 0) ∧
      hasBit (t.rd (HDR.IRQ_STAT_IRQ .ctl)) 1 = true))) ∧
  (∀ (y : Fin 6) (stored : Bool) (code : BitVec 8) (k : Fin 16) (w : BitVec 32) (s : State), Runs s →
    (s.on TIM.XTAL_STAT_FAIL = true → exec (.synthLock y stored code) s = .next s) ∧
    (s.on TIM.XTAL_STAT_FAIL = false →
      (∀ c, s.bandCode y.val = some c → Completes (.synthLock y true code) s (fun t =>
        t.rd (CLK.SYN_STAT_LOCK y.val) = 1 ∧ t.rd (CLK.SYN_STAT_STORED y.val) = 1 ∧ t.rd (CLK.SYN_STAT_BAND y.val) = c % 256 ∧ t.boot = s.boot ∧
        Frame [(CLK.SYN_STAT_LOCK y.val).key, (CLK.SYN_STAT_STORED y.val).key, (CLK.SYN_STAT_BAND y.val).key] s t)) ∧
      Completes (.synthLock y false code) s (fun t =>
        t.rd (CLK.SYN_STAT_LOCK y.val) = 1 ∧ t.rd (CLK.SYN_STAT_STORED y.val) = 0 ∧ t.rd (CLK.SYN_STAT_BAND y.val) = code.toNat ∧
        Sparse.get t.boot.bands (16 * y.val + s.rd (CLK.SYN_STAT_SLOT y.val)) 256 = code.toNat ∧ t.boot.bandWritten = true ∧
        (s.boot.bandWritten = true → t.boot.ops = s.boot.ops) ∧
        (s.boot.bandWritten = false → ∃ o, t.boot.ops = (if s.latched then s.boot.ops else s.boot.ops ++ [o]) ∧ o.src = .band ∧ o.area = 0) ∧
        Frame [(CLK.SYN_STAT_LOCK y.val).key, (CLK.SYN_STAT_STORED y.val).key, (CLK.SYN_STAT_BAND y.val).key] s t)) ∧
    Completes (.synthLockLoss k) s (fun t => hasBit (t.rd (HDR.IRQ_STAT_IRQ .clk)) 0 = true ∧
      (k.val < 6 → t.rd (CLK.SYN_STAT_LOCK k.val) = 0) ∧ (∀ c : Fin 4, k.val = 6 + c.val → hasBit (t.rd CLK.PHY_LOCK_DDR) c.val = false ∧ t.rd (MEM.STAT_FAILED c.val) ≠ 0) ∧
      (k.val = 10 → t.rd CLK.PHY_LOCK_CXL = 0) ∧ (11 ≤ k.val → k.val < 15 → hasBit (t.rd CLK.PHY_LOCK_GOSIA) (k.val - 11) = false) ∧
      (k.val = 15 → t.rd CLK.PHY_LOCK_DP = 0) ∧
      (k.val < 6 ∨ 10 ≤ k.val → Frame [(CLK.SYN_STAT_LOCK k.val).key, CLK.PHY_LOCK_CXL.key, CLK.PHY_LOCK_GOSIA.key,
        CLK.PHY_LOCK_DP.key, (HDR.IRQ_STAT_IRQ .clk).key] s t)) ∧
    (s.boot.cert.length + 1 < Config.unlockWords → Completes (.mtPort w) s (fun t => t.boot.cert = s.boot.cert ++ [w.toNat] ∧ Frame [] s t)) ∧
    (Config.unlockWords ≤ s.boot.cert.length + 1 → Completes (.mtPort w) s (fun t => t.boot.cert = [] ∧
      if (s.unlockable && Config.unlocks (s.rd SEC.MT_NONCE_LO_NONCE + 2 ^ 32 * s.rd SEC.MT_NONCE_HI_NONCE) (s.boot.cert ++ [w.toNat])) = true then
        t.rd SEC.MT_STAT_UNLOCKED = 1 ∧ t.rd SAF.EMIT_HS_EN = 0 ∧ t.rd SAF.EMIT_LS_EN = 0 ∧ t.saf.chA = 0 ∧ t.saf.chB = 0
      else t.rd SEC.MT_STAT_FAILS = min (s.rd SEC.MT_STAT_FAILS + 1) (2 ^ SEC.MT_STAT_FAILS.width - 1) ∧ Frame [SEC.MT_STAT_FAILS.key] s t)) ∧
    Completes .mtLock s (fun t => t.rd SEC.MT_STAT_UNLOCKED = 0 ∧ t.boot.cert = [] ∧ t.free = s.free + 2 ∧
      Frame [SEC.MT_STAT_UNLOCKED.key, SEC.MT_NONCE_LO_NONCE.key, SEC.MT_NONCE_HI_NONCE.key, PWR.DOM_ON_LO_ON.key, PWR.DOM_ON_HI_ON.key] s t))

/-- Power-on and warm reset: POR and a supply fault begin anew at tick 0 with memory empty, nothing waiting and the straps shown, and a
supply fault leaves the device dark until POR; a flash that is not ready ends in STAGE 7 and PARK; WARM keeps time, ends measurement, and
puts the islands in START with every output off, but does nothing while the thermal latch is set or after a crystal failure (R422, R425,
R432, R442, R444, R466, R467). -/
def Obligations.PowerOnAndWarm : Prop := ∀ (twnpos : Bool) (boardVar : Fin 16) (ready slow bookOk main program : Bool) (s : State),
  let fresh (t : State) : Prop := t.now = 0 ∧ (∀ a, t.ld a = 0) ∧ t.commits = [] ∧ t.pending = s.pending ∧ s.out <+: t.out ∧
    t.scd.measuring = false ∧ t.safState = 0 ∧ t.saf.chA = 0 ∧ t.saf.chB = 0 ∧ t.tick = 0 ∧ t.frame = 0
  Completes (.por twnpos boardVar ready slow bookOk) s (fun t => fresh t ∧ t.dark = false ∧ t.on TWN.STAT_POS = twnpos ∧
    t.rd GSL.IDENT_BOARD_VAR = boardVar.val ∧ t.rd TIM.XTAL_STAT_RUN = 1 ∧
    (ready = false → t.rd CTL.BOOT_STAT_STAGE = 7 ∧ t.rd PWR.STATE_STATE = 1) ∧
    (ready = true → t.boot.train = true ∧ t.cal.primer = some 0 ∧ t.on STP.BOOK_STAT_OK = bookOk)) ∧
  ((s.latched && !main) = true → exec (.supplyFault main) s = .next s) ∧
  ((s.latched && !main) = false → Completes (.supplyFault main) s (fun t => fresh t ∧ t.dark = true)) ∧
  (s.dark = false → s.latched = true ∨ s.on TIM.XTAL_STAT_FAIL = true → exec (.warm program ready slow bookOk) s = .next s) ∧
  (s.dark = false → s.latched = false → s.on TIM.XTAL_STAT_FAIL = false → Completes (.warm program ready slow bookOk) s (fun t =>
    t.now = s.now ∧ t.tick = s.tick % 512 ∧ t.frame = s.frame % 2 ^ 15 ∧ t.rd PWR.RESET_CAUSE_WARM = 1 ∧ t.scd.measuring = false ∧
    t.safState = 0 ∧ t.rd SAF.EMIT_HS_EN = 0 ∧ t.rd SAF.EMIT_LS_EN = 0 ∧ t.saf.chA = 0 ∧ t.saf.chB = 0 ∧
    (∀ a, t.ld a = 0) ∧ (ready = false → t.rd CTL.BOOT_STAT_STAGE = 7)))

/-- An accepted commit waits for one boundary for all that it changes: the latest of the one that COMMIT_AT requests and those of
the changed fields and table entries, in the order immediate, tick, coat, frame. It is the first boundary of its kind that lies
1 µs or more after the key write; COMMIT_TAKE_HOLD does nothing before it and ends the wait at it (R19, R20). The code key of
STP, a swap, and the refresh fields of Render have rules of their own. -/
def Obligations.CommitBoundary : Prop := ∀ (p : Page) (ns : Fin 100000) (rank : Nat) (s : State), Runs s → s.tick < 512 →
  (lowestCode (s.commitCodes p)).1 = 0 → pageShadowed p = true → p ≠ .stp → (p = .scd → s.rdSh SCD.SWAP_PART_MASK = 0) →
  (∀ f ∈ s.changed p, f.bnd ≠ .refresh ∧ f.bnd.rank ≤ rank) →
  (∀ e ∈ s.stagedTabs p, e.1 ≠ .pal ∧ (tabBnd e.1).rank ≤ rank) → s.rd (HDR.COMMIT_AT_AT p) ≤ rank →
  (s.rd (HDR.COMMIT_AT_AT p) = rank ∨ (∃ f ∈ s.changed p, f.bnd.rank = rank) ∨ ∃ e ∈ s.stagedTabs p, (tabBnd e.1).rank = rank) →
  1 ≤ rank → rank ≤ 3 →
  let boundary (n : Nat) : Prop := s.now < n ∧ ns.val + 1000 ≤ (n - s.now) * 100000 ∧
    (s.tick + (n - s.now)) % (if rank = 1 then 1 else if rank = 2 then 128 else 512) = 0
  Completes (.commit p (BitVec.ofNat 32 p.commitKey) ns) s (fun t => ∃ c n, t.commits = s.commits ++ [c] ∧ c.page = p ∧
    c.due = .tick n ∧ (∀ f ∈ s.changed p, (f.key, s.rdSh f) ∈ c.vals) ∧ c.tabs = s.stagedTabs p ∧
    boundary n ∧ (∀ m, boundary m → n ≤ m) ∧
    ∀ u : State, u.dark = false → u.commits.find? (fun d => d.page == p) = some c →
      (u.now < n → exec (.commitTakeHold p) u = .next u) ∧
      (n ≤ u.now → Completes (.commitTakeHold p) u fun v => ∀ d ∈ v.commits, d.page ≠ p))

/-- Scrim passes at most 4 candidates, in ascending bin order: of more than 4 those with the highest counts, and of equal counts
the lower bins. A unit's search leaves them in the measurement with its threshold T_eff and its BLIND and OVERFLOW marks, and
OVF_CNT counts an overflow, stopping at its largest value. Stated of the unit for one worked row (R131, R134). -/
def Obligations.CandidatePeaks : Prop :=
  (∀ (vs : List Vote) (t thresh : Nat) (lo : Int),
    let all := candidates vs t thresh lo
    let kept := bestFour all
    kept.length = min 4 all.length ∧ kept.Pairwise (fun a b => a.bin < b.bin) ∧ (∀ p ∈ kept, p ∈ all) ∧
    ∀ q ∈ all, q ∉ kept → ∀ p ∈ kept, q.count < p.count ∨ q.count = p.count ∧ p.bin < q.bin) ∧
  (∀ (u : WorkUnit) (w : Win) (i : Fin 16) (s : State), s.winOf u = some w → u.head < 8 → u.group < 8 →
    (∀ j < 16, w.worked (16 * u.group + j) = (j == i.val)) →
    let row := 16 * u.group + i.val
    let sf := (s.skimOf u w i.val).2
    let eff := min 8 (max (w.rd (SCM.CAND_THRESH w.head)) (sf + w.rd (SCM.CAND_MARGIN w.head)))
    let all := candidates (allVotes (w.row row).pulses (w.offs.getD []) (row / 4)) eff (w.rd (SCM.CAND_THRESH u.head))
      (bMin (s.stopWin u.head u.mtick 0 (row / 4)).1 (row / 4))
    (∃ v, (s.scrimUnit u).winOf u = some v ∧ (v.row row).scrim = some (bestFour all) ∧ (v.row row).tEff = eff ∧
      (v.row row).overflow = decide (4 < all.length) ∧
      (v.row row).blind = decide (8 < sf + w.rd (SCM.CAND_MARGIN u.head))) ∧
    (s.scrimUnit u).rd SCM.OVF_CNT_COUNT = if 4 < all.length
      then min (s.rd SCM.OVF_CNT_COUNT + 1) (2 ^ SCM.OVF_CNT_COUNT.width - 1) else s.rd SCM.OVF_CNT_COUNT)

/-- The 16 bytes of every point record sum to 0x5A modulo 256, their last byte is computed from the other 15, and an all-zero
record does not sum to it; every record that a measurement yields is such a record (R159). -/
def Obligations.RecordCheck : Prop :=
  let checks (b : List Byte) : Prop := b.length = 16 ∧ (b.map BitVec.toNat).sum % 256 = 0x5A
  (∀ cell ret nret cls range intens width conf flags skim tick frame : Nat,
    let r := pointRecord cell ret nret cls range intens width conf flags skim tick frame
    checks r ∧ ∃ a, r = a ++ [chkByte a]) ∧
  (∀ a : List Byte, a.length = 15 → ((chkByte a).toNat + (a.map BitVec.toNat).sum) % 256 = 0x5A) ∧
  ¬ checks (List.replicate 16 0) ∧
  ∀ (w : Win) (row : Nat) (replay : Bool) (s : State), ∀ r ∈ (s.measRecords w row replay).recs, checks r

/-- Masking's levels: after classification CONF falls by SUN_CONF for a transient return under SUN, then by 64 for an
unconfirmed class 3 return, never below 0, and is 0 for a class with policy MARK; the cell's dirt level moves by the difference
of 16 times WIN_TOT and the old level, shifted right arithmetically by DIRT_ALPHA, and a cell at or above DIRT_CELL counts as
dirty (R182, R184). -/
def Obligations.MaskingLevels : Prop := ∀ (c : MaskCfg) (i : MaskIn) (rs : List Ret) (k : MskSt) (cell : Nat) (m : MeasRow),
  let o := maskMeas c i rs
  let unconfirmed := (o.rets.any fun r => r.cls == 3 && r.wfm) = false ∧ c.canAge ≤ min 15 (i.canA + 1)
  (o.d : Int) = i.dOld + ((16 * (i.winTot : Int) - i.dOld) >>> c.alpha) ∧
  (k.count cell m).dirty = k.dirty + (if cell ≤ m.dirt then 1 else 0) ∧
  o.rets.length = rs.length ∧ ∀ p ∈ rs.zip o.rets,
    (policyOf c.policy p.2.cls = 1 → p.2.conf = 0) ∧
    (policyOf c.policy p.2.cls ≠ 1 →
      ((¬ unconfirmed ∨ p.2.cls ≠ 3) → (i.sun = true → i.fresh = false → p.2.pc < c.persMin → p.2.conf = p.1.conf - c.sunConf) ∧
        ((i.sun = false ∨ i.fresh = true ∨ c.persMin ≤ p.2.pc) → p.2.conf = p.1.conf)) ∧
      (unconfirmed → p.2.cls = 3 →
        (i.sun = true → i.fresh = false → p.2.pc < c.persMin → p.2.conf = p.1.conf - c.sunConf - 64) ∧
        ((i.sun = false ∨ i.fresh = true ∨ c.persMin ≤ p.2.pc) → p.2.conf = p.1.conf - 64)))
end

