-- ==== Sys2Proof/Laws/Sparse.lean ====
section
/-! SUPPORT. The laws of sparse lists: a read after a write, and the canonical form that every operation keeps. -/

namespace Sys2Proof.Machine

variable {β : Type}

theorem Sparse.get_put_same (m : List (Nat × β)) (k : Nat) (v d : β) : Sparse.get (Sparse.put m k v) k d = v := by
  induction m with
  | nil => simp [Sparse.put, Sparse.get]
  | cons e t ih =>
    obtain ⟨a, b⟩ := e
    simp only [Sparse.put]
    split
    · simp [Sparse.get]
    · split
      · simp [Sparse.get]
      · simp_all [Sparse.get]

theorem Sparse.get_put_ne (m : List (Nat × β)) {k j : Nat} (v d : β) (h : j ≠ k) :
    Sparse.get (Sparse.put m k v) j d = Sparse.get m j d := by
  induction m with
  | nil => simp [Sparse.put, Sparse.get, Ne.symm h]
  | cons e t ih =>
    obtain ⟨a, b⟩ := e
    simp only [Sparse.put]
    split
    · simp [Sparse.get, Ne.symm h]
    · split
      · rename_i hk
        subst hk
        simp [Sparse.get, Ne.symm h]
      · simp [Sparse.get, ih]

theorem Sparse.get_filter (m : List (Nat × β)) (p : Nat → Bool) (k : Nat) (d : β) :
    Sparse.get (m.filter fun e => p e.1) k d = if p k then Sparse.get m k d else d := by
  induction m with
  | nil => simp [Sparse.get]
  | cons e t ih =>
    obtain ⟨a, b⟩ := e
    by_cases ha : a = k
    · subst ha
      by_cases hp : p a <;> simp [hp, Sparse.get, ih]
    · by_cases hp : p a <;> simp [hp, Sparse.get, ha] <;> simp [ih]

/-- A filter that keeps every entry of a key leaves its value. -/
theorem Sparse.get_filter_stays (m : List (Nat × β)) (p : Nat × β → Bool) (k : Nat) (d : β) (h : ∀ e, e.1 = k → p e = true) :
    Sparse.get (m.filter p) k d = Sparse.get m k d := by
  induction m with
  | nil => rfl
  | cons e t ih =>
    obtain ⟨a, b⟩ := e
    by_cases ha : a = k
    · rw [List.filter_cons_of_pos (h (a, b) ha)]
      simp [Sparse.get, ha]
    · by_cases hp : p (a, b) <;> simp [hp, Sparse.get, ha, ih]

theorem Sparse.get_del_same (m : List (Nat × β)) (k : Nat) (d : β) : Sparse.get (Sparse.del m k) k d = d := by
  unfold Sparse.del
  rw [Sparse.get_filter m (fun j => j != k)]
  simp

theorem Sparse.get_del_ne (m : List (Nat × β)) {k j : Nat} (d : β) (h : j ≠ k) :
    Sparse.get (Sparse.del m k) j d = Sparse.get m j d := by
  unfold Sparse.del
  rw [Sparse.get_filter m (fun i => i != k)]
  simp [h]

/-- A key set reads as set, where it is read with the default that the set knew. -/
theorem Sparse.get_set_same [DecidableEq β] (m : List (Nat × β)) (k : Nat) (v d : β) :
    Sparse.get (Sparse.set m k v d) k d = v := by
  unfold Sparse.set
  split
  · next h => rw [Sparse.get_del_same, h]
  · exact Sparse.get_put_same m k v d

theorem Sparse.get_set_ne [DecidableEq β] (m : List (Nat × β)) {k j : Nat} (v d e : β) (h : j ≠ k) :
    Sparse.get (Sparse.set m k v d) j e = Sparse.get m j e := by
  unfold Sparse.set
  split
  · exact Sparse.get_del_ne m e h
  · exact Sparse.get_put_ne m v e h

/-- The keys of a rising list lie above a bound, and the list is rising: the form that inductions use. -/
theorem Sparse.rising_iff (m : List (Nat × β)) : Sparse.rising m = true ↔ m.Pairwise fun a b => a.1 < b.1 := by
  induction m with
  | nil => simp [Sparse.rising]
  | cons a t ih =>
    cases t with
    | nil => simp [Sparse.rising]
    | cons b u =>
      simp only [Sparse.rising, Bool.and_eq_true, decide_eq_true_eq, ih, List.pairwise_cons, List.mem_cons]
      constructor
      · rintro ⟨hab, hb, hu⟩
        refine ⟨?_, hb, hu⟩
        rintro x (rfl | hx)
        · exact hab
        · exact Nat.lt_trans hab (hb x hx)
      · rintro ⟨ha, hb, hu⟩
        exact ⟨ha b (Or.inl rfl), hb, hu⟩

theorem Sparse.rising_filter (m : List (Nat × β)) (p : Nat × β → Bool) (h : Sparse.rising m = true) :
    Sparse.rising (m.filter p) = true := by
  rw [Sparse.rising_iff] at *
  exact h.filter p

theorem Sparse.mem_put {m : List (Nat × β)} {k : Nat} {v : β} {e : Nat × β} (h : e ∈ Sparse.put m k v) :
    e = (k, v) ∨ e ∈ m := by
  induction m with
  | nil => simpa [Sparse.put] using h
  | cons x t ih =>
    obtain ⟨a, b⟩ := x
    simp only [Sparse.put] at h
    split at h
    · simpa using h
    · split at h
      · rcases List.mem_cons.1 h with h | h
        · exact Or.inl h
        · exact Or.inr (List.mem_cons_of_mem _ h)
      · rcases List.mem_cons.1 h with h | h
        · exact Or.inr (by simp [h])
        · rcases ih h with h | h
          · exact Or.inl h
          · exact Or.inr (List.mem_cons_of_mem _ h)

theorem Sparse.rising_put (m : List (Nat × β)) (k : Nat) (v : β) (h : Sparse.rising m = true) :
    Sparse.rising (Sparse.put m k v) = true := by
  rw [Sparse.rising_iff] at *
  induction m with
  | nil => simp [Sparse.put]
  | cons x t ih =>
    obtain ⟨a, b⟩ := x
    rw [List.pairwise_cons] at h
    simp only [Sparse.put]
    split
    · next hk =>
      refine List.pairwise_cons.2 ⟨?_, List.pairwise_cons.2 h⟩
      intro y hy
      rcases List.mem_cons.1 hy with hy | hy
      · simp [hy, hk]
      · exact Nat.lt_trans hk (h.1 y hy)
    · split
      · next hk =>
        subst hk
        exact List.pairwise_cons.2 ⟨fun y hy => h.1 y hy, h.2⟩
      · next h1 h2 =>
        refine List.pairwise_cons.2 ⟨?_, ih h.2⟩
        intro y hy
        rcases Sparse.mem_put hy with hy | hy
        · simp only [hy]; omega
        · exact h.1 y hy

theorem Sparse.rising_del (m : List (Nat × β)) (k : Nat) (h : Sparse.rising m = true) : Sparse.rising (Sparse.del m k) = true :=
  Sparse.rising_filter m _ h

theorem Sparse.rising_set [DecidableEq β] (m : List (Nat × β)) (k : Nat) (v d : β) (h : Sparse.rising m = true) :
    Sparse.rising (Sparse.set m k v d) = true := by
  unfold Sparse.set
  split
  · exact Sparse.rising_del m k h
  · exact Sparse.rising_put m k v h

/-- Setting a byte keeps the canonical form of a memory. -/
theorem Memory.wf_set (d : Byte) (m : List Host.Cell) (a : Nat) (b : Byte) (h : Memory.wf d m = true) :
    Memory.wf d (Sparse.set m a b d) = true := by
  simp only [Memory.wf, Bool.and_eq_true, List.all_eq_true] at *
  refine ⟨Sparse.rising_set m a b d h.1, ?_⟩
  intro c hc
  unfold Sparse.set at hc
  split at hc
  · exact h.2 c ((List.mem_filter.1 hc).1)
  · next hb =>
    rcases Sparse.mem_put hc with hc | hc
    · simp [hc, hb]
    · exact h.2 c hc

/-- Forgetting bytes keeps the canonical form of a memory. -/
theorem Memory.wf_filter (d : Byte) (m : List Host.Cell) (p : Host.Cell → Bool) (h : Memory.wf d m = true) :
    Memory.wf d (m.filter p) = true := by
  simp only [Memory.wf, Bool.and_eq_true, List.all_eq_true] at *
  exact ⟨Sparse.rising_filter m p h.1, fun c hc => h.2 c ((List.mem_filter.1 hc).1)⟩

theorem Memory.wf_nil (d : Byte) : Memory.wf d [] = true := rfl

end Sys2Proof.Machine
end

