-- ==== Sys2Proof/Laws/State.lean ====
section
/-! SUPPORT. The fields of State after each elementary update, one lemma for each. -/

namespace Sys2Proof.Machine

variable (s : State)

@[simp] theorem State.wr_pending (f : Fld) (v : Nat) : (s.wr f v).pending = s.pending := rfl
@[simp] theorem State.wr_dark (f : Fld) (v : Nat) : (s.wr f v).dark = s.dark := rfl
@[simp] theorem State.wr_regs (f : Fld) (v : Nat) : (s.wr f v).regs = Sparse.set s.regs f.key (v % 2 ^ f.width) f.reset := rfl
@[simp] theorem State.wr_shadow (f : Fld) (v : Nat) : (s.wr f v).shadow = s.shadow := rfl
@[simp] theorem State.wr_shadowBad (f : Fld) (v : Nat) : (s.wr f v).shadowBad = s.shadowBad := rfl
@[simp] theorem State.wr_commits (f : Fld) (v : Nat) : (s.wr f v).commits = s.commits := rfl
@[simp] theorem State.wr_resets (f : Fld) (v : Nat) : (s.wr f v).resets = s.resets := rfl
@[simp] theorem State.wr_now (f : Fld) (v : Nat) : (s.wr f v).now = s.now := rfl
@[simp] theorem State.wr_coatAt (f : Fld) (v : Nat) : (s.wr f v).coatAt = s.coatAt := rfl
@[simp] theorem State.wr_frameAt (f : Fld) (v : Nat) : (s.wr f v).frameAt = s.frameAt := rfl
@[simp] theorem State.wr_mem (f : Fld) (v : Nat) : (s.wr f v).mem = s.mem := rfl
@[simp] theorem State.wr_flash (f : Fld) (v : Nat) : (s.wr f v).flash = s.flash := rfl
@[simp] theorem State.wr_free (f : Fld) (v : Nat) : (s.wr f v).free = s.free := rfl
@[simp] theorem State.wr_out (f : Fld) (v : Nat) : (s.wr f v).out = s.out := rfl
@[simp] theorem State.wr_flq (f : Fld) (v : Nat) : (s.wr f v).flq = s.flq := rfl
@[simp] theorem State.wr_scd (f : Fld) (v : Nat) : (s.wr f v).scd = s.scd := rfl
@[simp] theorem State.wr_emt (f : Fld) (v : Nat) : (s.wr f v).emt = s.emt := rfl
@[simp] theorem State.wr_codes (f : Fld) (v : Nat) : (s.wr f v).codes = s.codes := rfl
@[simp] theorem State.wr_wins (f : Fld) (v : Nat) : (s.wr f v).wins = s.wins := rfl
@[simp] theorem State.wr_satHist (f : Fld) (v : Nat) : (s.wr f v).satHist = s.satHist := rfl
@[simp] theorem State.wr_carry (f : Fld) (v : Nat) : (s.wr f v).carry = s.carry := rfl
@[simp] theorem State.wr_fifo (f : Fld) (v : Nat) : (s.wr f v).fifo = s.fifo := rfl
@[simp] theorem State.wr_tdc (f : Fld) (v : Nat) : (s.wr f v).tdc = s.tdc := rfl
@[simp] theorem State.wr_tabs (f : Fld) (v : Nat) : (s.wr f v).tabs = s.tabs := rfl
@[simp] theorem State.wr_tabsOld (f : Fld) (v : Nat) : (s.wr f v).tabsOld = s.tabsOld := rfl
@[simp] theorem State.wr_tabsAt (f : Fld) (v : Nat) : (s.wr f v).tabsAt = s.tabsAt := rfl
@[simp] theorem State.wr_stage (f : Fld) (v : Nat) : (s.wr f v).stage = s.stage := rfl
@[simp] theorem State.wr_msk (f : Fld) (v : Nat) : (s.wr f v).msk = s.msk := rfl
@[simp] theorem State.wr_lth (f : Fld) (v : Nat) : (s.wr f v).lth = s.lth := rfl
@[simp] theorem State.wr_memErrs (f : Fld) (v : Nat) : (s.wr f v).memErrs = s.memErrs := rfl
@[simp] theorem State.wr_stp (f : Fld) (v : Nat) : (s.wr f v).stp = s.stp := rfl
@[simp] theorem State.wr_hkp (f : Fld) (v : Nat) : (s.wr f v).hkp = s.hkp := rfl
@[simp] theorem State.wr_cal (f : Fld) (v : Nat) : (s.wr f v).cal = s.cal := rfl
@[simp] theorem State.wr_ptb (f : Fld) (v : Nat) : (s.wr f v).ptb = s.ptb := rfl
@[simp] theorem State.wr_wfl (f : Fld) (v : Nat) : (s.wr f v).wfl = s.wfl := rfl
@[simp] theorem State.wr_tim (f : Fld) (v : Nat) : (s.wr f v).tim = s.tim := rfl
@[simp] theorem State.wr_saf (f : Fld) (v : Nat) : (s.wr f v).saf = s.saf := rfl
@[simp] theorem State.wr_boot (f : Fld) (v : Nat) : (s.wr f v).boot = s.boot := rfl
@[simp] theorem State.wr_host (f : Fld) (v : Nat) : (s.wr f v).host = s.host := rfl
@[simp] theorem State.wr_twn (f : Fld) (v : Nat) : (s.wr f v).twn = s.twn := rfl
@[simp] theorem State.wr_gsl (f : Fld) (v : Nat) : (s.wr f v).gsl = s.gsl := rfl
@[simp] theorem State.wr_dst (f : Fld) (v : Nat) : (s.wr f v).dst = s.dst := rfl
@[simp] theorem State.wr_rnd (f : Fld) (v : Nat) : (s.wr f v).rnd = s.rnd := rfl

@[simp] theorem State.wrSh_pending (f : Fld) (v : Nat) : (s.wrSh f v).pending = s.pending := rfl
@[simp] theorem State.wrSh_dark (f : Fld) (v : Nat) : (s.wrSh f v).dark = s.dark := rfl
@[simp] theorem State.wrSh_regs (f : Fld) (v : Nat) : (s.wrSh f v).regs = s.regs := rfl
@[simp] theorem State.wrSh_shadow (f : Fld) (v : Nat) : (s.wrSh f v).shadow = if s.waits f.key then Sparse.put s.shadow f.key (v % 2 ^ f.width) else
  Sparse.set s.shadow f.key (v % 2 ^ f.width) (s.rd f) := rfl
@[simp] theorem State.wrSh_shadowBad (f : Fld) (v : Nat) : (s.wrSh f v).shadowBad = s.shadowBad := rfl
@[simp] theorem State.wrSh_commits (f : Fld) (v : Nat) : (s.wrSh f v).commits = s.commits := rfl
@[simp] theorem State.wrSh_resets (f : Fld) (v : Nat) : (s.wrSh f v).resets = s.resets := rfl
@[simp] theorem State.wrSh_now (f : Fld) (v : Nat) : (s.wrSh f v).now = s.now := rfl
@[simp] theorem State.wrSh_coatAt (f : Fld) (v : Nat) : (s.wrSh f v).coatAt = s.coatAt := rfl
@[simp] theorem State.wrSh_frameAt (f : Fld) (v : Nat) : (s.wrSh f v).frameAt = s.frameAt := rfl
@[simp] theorem State.wrSh_mem (f : Fld) (v : Nat) : (s.wrSh f v).mem = s.mem := rfl
@[simp] theorem State.wrSh_flash (f : Fld) (v : Nat) : (s.wrSh f v).flash = s.flash := rfl
@[simp] theorem State.wrSh_free (f : Fld) (v : Nat) : (s.wrSh f v).free = s.free := rfl
@[simp] theorem State.wrSh_out (f : Fld) (v : Nat) : (s.wrSh f v).out = s.out := rfl
@[simp] theorem State.wrSh_flq (f : Fld) (v : Nat) : (s.wrSh f v).flq = s.flq := rfl
@[simp] theorem State.wrSh_scd (f : Fld) (v : Nat) : (s.wrSh f v).scd = s.scd := rfl
@[simp] theorem State.wrSh_emt (f : Fld) (v : Nat) : (s.wrSh f v).emt = s.emt := rfl
@[simp] theorem State.wrSh_codes (f : Fld) (v : Nat) : (s.wrSh f v).codes = s.codes := rfl
@[simp] theorem State.wrSh_wins (f : Fld) (v : Nat) : (s.wrSh f v).wins = s.wins := rfl
@[simp] theorem State.wrSh_satHist (f : Fld) (v : Nat) : (s.wrSh f v).satHist = s.satHist := rfl
@[simp] theorem State.wrSh_carry (f : Fld) (v : Nat) : (s.wrSh f v).carry = s.carry := rfl
@[simp] theorem State.wrSh_fifo (f : Fld) (v : Nat) : (s.wrSh f v).fifo = s.fifo := rfl
@[simp] theorem State.wrSh_tdc (f : Fld) (v : Nat) : (s.wrSh f v).tdc = s.tdc := rfl
@[simp] theorem State.wrSh_tabs (f : Fld) (v : Nat) : (s.wrSh f v).tabs = s.tabs := rfl
@[simp] theorem State.wrSh_tabsOld (f : Fld) (v : Nat) : (s.wrSh f v).tabsOld = s.tabsOld := rfl
@[simp] theorem State.wrSh_tabsAt (f : Fld) (v : Nat) : (s.wrSh f v).tabsAt = s.tabsAt := rfl
@[simp] theorem State.wrSh_stage (f : Fld) (v : Nat) : (s.wrSh f v).stage = s.stage := rfl
@[simp] theorem State.wrSh_msk (f : Fld) (v : Nat) : (s.wrSh f v).msk = s.msk := rfl
@[simp] theorem State.wrSh_lth (f : Fld) (v : Nat) : (s.wrSh f v).lth = s.lth := rfl
@[simp] theorem State.wrSh_memErrs (f : Fld) (v : Nat) : (s.wrSh f v).memErrs = s.memErrs := rfl
@[simp] theorem State.wrSh_stp (f : Fld) (v : Nat) : (s.wrSh f v).stp = s.stp := rfl
@[simp] theorem State.wrSh_hkp (f : Fld) (v : Nat) : (s.wrSh f v).hkp = s.hkp := rfl
@[simp] theorem State.wrSh_cal (f : Fld) (v : Nat) : (s.wrSh f v).cal = s.cal := rfl
@[simp] theorem State.wrSh_ptb (f : Fld) (v : Nat) : (s.wrSh f v).ptb = s.ptb := rfl
@[simp] theorem State.wrSh_wfl (f : Fld) (v : Nat) : (s.wrSh f v).wfl = s.wfl := rfl
@[simp] theorem State.wrSh_tim (f : Fld) (v : Nat) : (s.wrSh f v).tim = s.tim := rfl
@[simp] theorem State.wrSh_saf (f : Fld) (v : Nat) : (s.wrSh f v).saf = s.saf := rfl
@[simp] theorem State.wrSh_boot (f : Fld) (v : Nat) : (s.wrSh f v).boot = s.boot := rfl
@[simp] theorem State.wrSh_host (f : Fld) (v : Nat) : (s.wrSh f v).host = s.host := rfl
@[simp] theorem State.wrSh_twn (f : Fld) (v : Nat) : (s.wrSh f v).twn = s.twn := rfl
@[simp] theorem State.wrSh_gsl (f : Fld) (v : Nat) : (s.wrSh f v).gsl = s.gsl := rfl
@[simp] theorem State.wrSh_dst (f : Fld) (v : Nat) : (s.wrSh f v).dst = s.dst := rfl
@[simp] theorem State.wrSh_rnd (f : Fld) (v : Nat) : (s.wrSh f v).rnd = s.rnd := rfl

@[simp] theorem State.st_pending (a : Nat) (b : Byte) : (s.st a b).pending = s.pending := rfl
@[simp] theorem State.st_dark (a : Nat) (b : Byte) : (s.st a b).dark = s.dark := rfl
@[simp] theorem State.st_regs (a : Nat) (b : Byte) : (s.st a b).regs = s.regs := rfl
@[simp] theorem State.st_shadow (a : Nat) (b : Byte) : (s.st a b).shadow = s.shadow := rfl
@[simp] theorem State.st_shadowBad (a : Nat) (b : Byte) : (s.st a b).shadowBad = s.shadowBad := rfl
@[simp] theorem State.st_commits (a : Nat) (b : Byte) : (s.st a b).commits = s.commits := rfl
@[simp] theorem State.st_resets (a : Nat) (b : Byte) : (s.st a b).resets = s.resets := rfl
@[simp] theorem State.st_now (a : Nat) (b : Byte) : (s.st a b).now = s.now := rfl
@[simp] theorem State.st_coatAt (a : Nat) (b : Byte) : (s.st a b).coatAt = s.coatAt := rfl
@[simp] theorem State.st_frameAt (a : Nat) (b : Byte) : (s.st a b).frameAt = s.frameAt := rfl
@[simp] theorem State.st_mem (a : Nat) (b : Byte) : (s.st a b).mem = Sparse.set s.mem a b 0 := rfl
@[simp] theorem State.st_flash (a : Nat) (b : Byte) : (s.st a b).flash = s.flash := rfl
@[simp] theorem State.st_free (a : Nat) (b : Byte) : (s.st a b).free = s.free := rfl
@[simp] theorem State.st_out (a : Nat) (b : Byte) : (s.st a b).out = s.out := rfl
@[simp] theorem State.st_flq (a : Nat) (b : Byte) : (s.st a b).flq = s.flq := rfl
@[simp] theorem State.st_scd (a : Nat) (b : Byte) : (s.st a b).scd = s.scd := rfl
@[simp] theorem State.st_emt (a : Nat) (b : Byte) : (s.st a b).emt = s.emt := rfl
@[simp] theorem State.st_codes (a : Nat) (b : Byte) : (s.st a b).codes = s.codes := rfl
@[simp] theorem State.st_wins (a : Nat) (b : Byte) : (s.st a b).wins = s.wins := rfl
@[simp] theorem State.st_satHist (a : Nat) (b : Byte) : (s.st a b).satHist = s.satHist := rfl
@[simp] theorem State.st_carry (a : Nat) (b : Byte) : (s.st a b).carry = s.carry := rfl
@[simp] theorem State.st_fifo (a : Nat) (b : Byte) : (s.st a b).fifo = s.fifo := rfl
@[simp] theorem State.st_tdc (a : Nat) (b : Byte) : (s.st a b).tdc = s.tdc := rfl
@[simp] theorem State.st_tabs (a : Nat) (b : Byte) : (s.st a b).tabs = s.tabs := rfl
@[simp] theorem State.st_tabsOld (a : Nat) (b : Byte) : (s.st a b).tabsOld = s.tabsOld := rfl
@[simp] theorem State.st_tabsAt (a : Nat) (b : Byte) : (s.st a b).tabsAt = s.tabsAt := rfl
@[simp] theorem State.st_stage (a : Nat) (b : Byte) : (s.st a b).stage = s.stage := rfl
@[simp] theorem State.st_msk (a : Nat) (b : Byte) : (s.st a b).msk = s.msk := rfl
@[simp] theorem State.st_lth (a : Nat) (b : Byte) : (s.st a b).lth = s.lth := rfl
@[simp] theorem State.st_memErrs (a : Nat) (b : Byte) : (s.st a b).memErrs = s.memErrs := rfl
@[simp] theorem State.st_stp (a : Nat) (b : Byte) : (s.st a b).stp = s.stp := rfl
@[simp] theorem State.st_hkp (a : Nat) (b : Byte) : (s.st a b).hkp = s.hkp := rfl
@[simp] theorem State.st_cal (a : Nat) (b : Byte) : (s.st a b).cal = s.cal := rfl
@[simp] theorem State.st_ptb (a : Nat) (b : Byte) : (s.st a b).ptb = s.ptb := rfl
@[simp] theorem State.st_wfl (a : Nat) (b : Byte) : (s.st a b).wfl = s.wfl := rfl
@[simp] theorem State.st_tim (a : Nat) (b : Byte) : (s.st a b).tim = s.tim := rfl
@[simp] theorem State.st_saf (a : Nat) (b : Byte) : (s.st a b).saf = s.saf := rfl
@[simp] theorem State.st_boot (a : Nat) (b : Byte) : (s.st a b).boot = s.boot := rfl
@[simp] theorem State.st_host (a : Nat) (b : Byte) : (s.st a b).host = s.host := rfl
@[simp] theorem State.st_twn (a : Nat) (b : Byte) : (s.st a b).twn = s.twn := rfl
@[simp] theorem State.st_gsl (a : Nat) (b : Byte) : (s.st a b).gsl = s.gsl := rfl
@[simp] theorem State.st_dst (a : Nat) (b : Byte) : (s.st a b).dst = s.dst := rfl
@[simp] theorem State.st_rnd (a : Nat) (b : Byte) : (s.st a b).rnd = s.rnd := rfl

@[simp] theorem State.send_pending (o : Out) : (s.send o).pending = s.pending := rfl
@[simp] theorem State.send_dark (o : Out) : (s.send o).dark = s.dark := rfl
@[simp] theorem State.send_regs (o : Out) : (s.send o).regs = s.regs := rfl
@[simp] theorem State.send_shadow (o : Out) : (s.send o).shadow = s.shadow := rfl
@[simp] theorem State.send_shadowBad (o : Out) : (s.send o).shadowBad = s.shadowBad := rfl
@[simp] theorem State.send_commits (o : Out) : (s.send o).commits = s.commits := rfl
@[simp] theorem State.send_resets (o : Out) : (s.send o).resets = s.resets := rfl
@[simp] theorem State.send_now (o : Out) : (s.send o).now = s.now := rfl
@[simp] theorem State.send_coatAt (o : Out) : (s.send o).coatAt = s.coatAt := rfl
@[simp] theorem State.send_frameAt (o : Out) : (s.send o).frameAt = s.frameAt := rfl
@[simp] theorem State.send_mem (o : Out) : (s.send o).mem = s.mem := rfl
@[simp] theorem State.send_flash (o : Out) : (s.send o).flash = s.flash := rfl
@[simp] theorem State.send_free (o : Out) : (s.send o).free = s.free := rfl
@[simp] theorem State.send_out (o : Out) : (s.send o).out = s.out ++ [o] := rfl
@[simp] theorem State.send_flq (o : Out) : (s.send o).flq = s.flq := rfl
@[simp] theorem State.send_scd (o : Out) : (s.send o).scd = s.scd := rfl
@[simp] theorem State.send_emt (o : Out) : (s.send o).emt = s.emt := rfl
@[simp] theorem State.send_codes (o : Out) : (s.send o).codes = s.codes := rfl
@[simp] theorem State.send_wins (o : Out) : (s.send o).wins = s.wins := rfl
@[simp] theorem State.send_satHist (o : Out) : (s.send o).satHist = s.satHist := rfl
@[simp] theorem State.send_carry (o : Out) : (s.send o).carry = s.carry := rfl
@[simp] theorem State.send_fifo (o : Out) : (s.send o).fifo = s.fifo := rfl
@[simp] theorem State.send_tdc (o : Out) : (s.send o).tdc = s.tdc := rfl
@[simp] theorem State.send_tabs (o : Out) : (s.send o).tabs = s.tabs := rfl
@[simp] theorem State.send_tabsOld (o : Out) : (s.send o).tabsOld = s.tabsOld := rfl
@[simp] theorem State.send_tabsAt (o : Out) : (s.send o).tabsAt = s.tabsAt := rfl
@[simp] theorem State.send_stage (o : Out) : (s.send o).stage = s.stage := rfl
@[simp] theorem State.send_msk (o : Out) : (s.send o).msk = s.msk := rfl
@[simp] theorem State.send_lth (o : Out) : (s.send o).lth = s.lth := rfl
@[simp] theorem State.send_memErrs (o : Out) : (s.send o).memErrs = s.memErrs := rfl
@[simp] theorem State.send_stp (o : Out) : (s.send o).stp = s.stp := rfl
@[simp] theorem State.send_hkp (o : Out) : (s.send o).hkp = s.hkp := rfl
@[simp] theorem State.send_cal (o : Out) : (s.send o).cal = s.cal := rfl
@[simp] theorem State.send_ptb (o : Out) : (s.send o).ptb = s.ptb := rfl
@[simp] theorem State.send_wfl (o : Out) : (s.send o).wfl = s.wfl := rfl
@[simp] theorem State.send_tim (o : Out) : (s.send o).tim = s.tim := rfl
@[simp] theorem State.send_saf (o : Out) : (s.send o).saf = s.saf := rfl
@[simp] theorem State.send_boot (o : Out) : (s.send o).boot = s.boot := rfl
@[simp] theorem State.send_host (o : Out) : (s.send o).host = s.host := rfl
@[simp] theorem State.send_twn (o : Out) : (s.send o).twn = s.twn := rfl
@[simp] theorem State.send_gsl (o : Out) : (s.send o).gsl = s.gsl := rfl
@[simp] theorem State.send_dst (o : Out) : (s.send o).dst = s.dst := rfl
@[simp] theorem State.send_rnd (o : Out) : (s.send o).rnd = s.rnd := rfl

@[simp] theorem State.freeNext_pending : (s.freeNext).pending = s.pending := rfl
@[simp] theorem State.freeNext_dark : (s.freeNext).dark = s.dark := rfl
@[simp] theorem State.freeNext_regs : (s.freeNext).regs = s.regs := rfl
@[simp] theorem State.freeNext_shadow : (s.freeNext).shadow = s.shadow := rfl
@[simp] theorem State.freeNext_shadowBad : (s.freeNext).shadowBad = s.shadowBad := rfl
@[simp] theorem State.freeNext_commits : (s.freeNext).commits = s.commits := rfl
@[simp] theorem State.freeNext_resets : (s.freeNext).resets = s.resets := rfl
@[simp] theorem State.freeNext_now : (s.freeNext).now = s.now := rfl
@[simp] theorem State.freeNext_coatAt : (s.freeNext).coatAt = s.coatAt := rfl
@[simp] theorem State.freeNext_frameAt : (s.freeNext).frameAt = s.frameAt := rfl
@[simp] theorem State.freeNext_mem : (s.freeNext).mem = s.mem := rfl
@[simp] theorem State.freeNext_flash : (s.freeNext).flash = s.flash := rfl
@[simp] theorem State.freeNext_free : (s.freeNext).free = s.free + 1 := rfl
@[simp] theorem State.freeNext_out : (s.freeNext).out = s.out := rfl
@[simp] theorem State.freeNext_flq : (s.freeNext).flq = s.flq := rfl
@[simp] theorem State.freeNext_scd : (s.freeNext).scd = s.scd := rfl
@[simp] theorem State.freeNext_emt : (s.freeNext).emt = s.emt := rfl
@[simp] theorem State.freeNext_codes : (s.freeNext).codes = s.codes := rfl
@[simp] theorem State.freeNext_wins : (s.freeNext).wins = s.wins := rfl
@[simp] theorem State.freeNext_satHist : (s.freeNext).satHist = s.satHist := rfl
@[simp] theorem State.freeNext_carry : (s.freeNext).carry = s.carry := rfl
@[simp] theorem State.freeNext_fifo : (s.freeNext).fifo = s.fifo := rfl
@[simp] theorem State.freeNext_tdc : (s.freeNext).tdc = s.tdc := rfl
@[simp] theorem State.freeNext_tabs : (s.freeNext).tabs = s.tabs := rfl
@[simp] theorem State.freeNext_tabsOld : (s.freeNext).tabsOld = s.tabsOld := rfl
@[simp] theorem State.freeNext_tabsAt : (s.freeNext).tabsAt = s.tabsAt := rfl
@[simp] theorem State.freeNext_stage : (s.freeNext).stage = s.stage := rfl
@[simp] theorem State.freeNext_msk : (s.freeNext).msk = s.msk := rfl
@[simp] theorem State.freeNext_lth : (s.freeNext).lth = s.lth := rfl
@[simp] theorem State.freeNext_memErrs : (s.freeNext).memErrs = s.memErrs := rfl
@[simp] theorem State.freeNext_stp : (s.freeNext).stp = s.stp := rfl
@[simp] theorem State.freeNext_hkp : (s.freeNext).hkp = s.hkp := rfl
@[simp] theorem State.freeNext_cal : (s.freeNext).cal = s.cal := rfl
@[simp] theorem State.freeNext_ptb : (s.freeNext).ptb = s.ptb := rfl
@[simp] theorem State.freeNext_wfl : (s.freeNext).wfl = s.wfl := rfl
@[simp] theorem State.freeNext_tim : (s.freeNext).tim = s.tim := rfl
@[simp] theorem State.freeNext_saf : (s.freeNext).saf = s.saf := rfl
@[simp] theorem State.freeNext_boot : (s.freeNext).boot = s.boot := rfl
@[simp] theorem State.freeNext_host : (s.freeNext).host = s.host := rfl
@[simp] theorem State.freeNext_twn : (s.freeNext).twn = s.twn := rfl
@[simp] theorem State.freeNext_gsl : (s.freeNext).gsl = s.gsl := rfl
@[simp] theorem State.freeNext_dst : (s.freeNext).dst = s.dst := rfl
@[simp] theorem State.freeNext_rnd : (s.freeNext).rnd = s.rnd := rfl

end Sys2Proof.Machine
end

