-- ==== Sys2Proof/Laws/Ops.lean ====
section
/-! SUPPORT. What the shared operations do: a field read after a write, a byte read after a store, interrupts, error codes and
event records, and the frames of each. -/

namespace Sys2Proof.Machine

variable {s t u : State}

/-! ## Fields -/

@[simp] theorem State.rd_wr_same (s : State) (f : Fld) (v : Nat) : (s.wr f v).rd f = v % 2 ^ f.width := by
  simp [State.rd, Sparse.get_set_same]

theorem State.rd_wr_ne (s : State) {f g : Fld} (v : Nat) (h : g.key ≠ f.key) : (s.wr f v).rd g = s.rd g := by
  simp [State.rd, Sparse.get_set_ne _ _ _ _ h]

@[simp] theorem State.ld_wr (s : State) (f : Fld) (v a : Nat) : (s.wr f v).ld a = s.ld a := rfl

@[simp] theorem State.fld_wr (s : State) (f : Fld) (v a : Nat) : (s.wr f v).fld a = s.fld a := rfl

/-- Two states with equal registers read every field alike. -/
theorem State.rd_congr (h : t.regs = s.regs) (f : Fld) : t.rd f = s.rd f := by simp [State.rd, h]

theorem State.ld_congr (h : t.mem = s.mem) (a : Nat) : t.ld a = s.ld a := by simp [State.ld, h]

theorem State.fld_congr (h : t.flash = s.flash) (a : Nat) : t.fld a = s.fld a := by simp [State.fld, h]

theorem State.on_iff (s : State) (f : Fld) : s.on f = true ↔ s.rd f = 1 := by simp [State.on]

@[simp] theorem b2n_true : b2n true = 1 := rfl

@[simp] theorem b2n_false : b2n false = 0 := rfl

/-! ## Device memory -/

@[simp] theorem State.ld_st_same (s : State) (a : Nat) (b : Byte) : (s.st a b).ld a = b := by
  simp [State.ld, Sparse.get_set_same]

theorem State.ld_st_ne (s : State) {a c : Nat} (b : Byte) (h : c ≠ a) : (s.st a b).ld c = s.ld c := by
  simp [State.ld, Sparse.get_set_ne _ _ _ _ h]

@[simp] theorem State.rd_st (s : State) (a : Nat) (b : Byte) (f : Fld) : (s.st a b).rd f = s.rd f := rfl

/-- Bytes stored are read back. -/
theorem State.ld_stN_in (s : State) (a : Nat) (l : List Byte) (i : Nat) (h : i < l.length) : (s.stN a l).ld (a + i) = l[i] := by
  induction l generalizing s a i with
  | nil => simp at h
  | cons b t ih =>
    cases i with
    | zero =>
      have k : ∀ (s : State) (c : Nat) (l : List Byte), a < c → (s.stN c l).ld a = s.ld a := by
        intro s c l
        induction l generalizing s c with
        | nil => intro _; rfl
        | cons x t ih => intro hc; rw [State.stN, ih _ _ (by omega), State.ld_st_ne _ _ (by omega)]
      simp [State.stN, k _ _ _ (Nat.lt_succ_self a)]
    | succ i =>
      have := ih (s.st a b) (a + 1) i (by simpa using h)
      simpa [State.stN, Nat.add_assoc, Nat.add_comm 1 i] using this

/-- Bytes outside a store stand. -/
theorem State.ld_stN_out (s : State) (a : Nat) (l : List Byte) (c : Nat) (h : c < a ∨ a + l.length ≤ c) :
    (s.stN a l).ld c = s.ld c := by
  induction l generalizing s a with
  | nil => rfl
  | cons b t ih =>
    simp only [List.length_cons] at h
    rw [State.stN, ih _ _ (by omega), State.ld_st_ne _ _ (by omega)]

@[simp] theorem State.regs_stN (s : State) (a : Nat) (l : List Byte) : (s.stN a l).regs = s.regs := by
  induction l generalizing s a with
  | nil => rfl
  | cons b t ih => rw [State.stN, ih, State.st_regs]

@[simp] theorem State.flash_stN (s : State) (a : Nat) (l : List Byte) : (s.stN a l).flash = s.flash := by
  induction l generalizing s a with
  | nil => rfl
  | cons b t ih => rw [State.stN, ih, State.st_flash]

/-! ## Interrupts (R351, R457) -/

theorem State.message_keeps (s : State) (v : Nat) :
    (s.message v).regs = s.regs ∧ (s.message v).mem = s.mem ∧ (s.message v).flash = s.flash ∧ (s.message v).now = s.now := by
  unfold State.message; split <;> simp

theorem State.signal_keeps (s : State) (v : Nat) :
    (s.signal v).regs = s.regs ∧ (s.signal v).mem = s.mem ∧ (s.signal v).flash = s.flash ∧ (s.signal v).now = s.now := by
  unfold State.signal
  split
  · simp
  · split
    · have h := State.message_keeps { s with host := { s.host with vecLast := Sparse.put s.host.vecLast v (s.now + 1) } } v
      simpa using h
    · exact State.message_keeps s v

@[simp] theorem State.regs_signal (s : State) (v : Nat) : (s.signal v).regs = s.regs := (s.signal_keeps v).1
@[simp] theorem State.mem_signal (s : State) (v : Nat) : (s.signal v).mem = s.mem := (s.signal_keeps v).2.1
@[simp] theorem State.flash_signal (s : State) (v : Nat) : (s.signal v).flash = s.flash := (s.signal_keeps v).2.2.1
@[simp] theorem State.rd_signal (s : State) (v : Nat) (f : Fld) : (s.signal v).rd f = s.rd f := State.rd_congr (by simp) f

/-- Raising interrupt bits of a page sets them in its IRQ_STAT, and touches nothing else that is read. -/
theorem State.irqMask_keeps (s : State) (p : Page) (m : Nat) :
    (s.irqMask p m).regs = (s.orBits (HDR.IRQ_STAT_IRQ p) m).regs ∧ (s.irqMask p m).mem = s.mem ∧
      (s.irqMask p m).flash = s.flash := by
  unfold State.irqMask State.pageSignal
  split <;> simp [State.orBits]

@[simp] theorem State.mem_irq (s : State) (p : Page) (b : Nat) : (s.irq p b).mem = s.mem := (s.irqMask_keeps p _).2.1
@[simp] theorem State.flash_irq (s : State) (p : Page) (b : Nat) : (s.irq p b).flash = s.flash := (s.irqMask_keeps p _).2.2
@[simp] theorem State.ld_irq (s : State) (p : Page) (b a : Nat) : (s.irq p b).ld a = s.ld a := State.ld_congr (by simp) a
@[simp] theorem State.fld_irq (s : State) (p : Page) (b a : Nat) : (s.irq p b).fld a = s.fld a := State.fld_congr (by simp) a

/-- An interrupt raised shows in IRQ_STAT. -/
@[simp] theorem State.rd_irq_same (s : State) (p : Page) (b : Nat) :
    (s.irq p b).rd (HDR.IRQ_STAT_IRQ p) = (s.rd (HDR.IRQ_STAT_IRQ p) ||| 2 ^ b) % 2 ^ 32 := by
  rw [State.irq, State.rd_congr (s.irqMask_keeps p _).1, State.orBits, State.rd_wr_same]

theorem State.rd_irq_ne (s : State) (p : Page) (b : Nat) {g : Fld} (h : g.key ≠ (HDR.IRQ_STAT_IRQ p).key) :
    (s.irq p b).rd g = s.rd g := by
  rw [State.irq, State.rd_congr (s.irqMask_keeps p _).1, State.orBits, State.rd_wr_ne _ _ h]

/-! ## Frames -/

theorem Frame.refl (keys : List Nat) (s : State) : Frame keys s s := ⟨fun _ _ => rfl, fun _ => rfl, fun _ => rfl⟩

theorem Frame.trans {keys : List Nat} (h : Frame keys s t) (k : Frame keys t u) : Frame keys s u :=
  ⟨fun f hf => (k.1 f hf).trans (h.1 f hf), fun a => (k.2.1 a).trans (h.2.1 a), fun a => (k.2.2 a).trans (h.2.2 a)⟩

theorem Frame.mono {keys more : List Nat} (h : Frame keys s t) (hk : ∀ k ∈ keys, k ∈ more) : Frame more s t :=
  ⟨fun f hf => h.1 f fun hin => hf (hk _ hin), h.2.1, h.2.2⟩

/-- A change outside registers, device memory and flash keeps every frame. -/
theorem Frame.of_eq {keys : List Nat} (hr : t.regs = s.regs) (hm : t.mem = s.mem) (hf : t.flash = s.flash) : Frame keys s t :=
  ⟨fun f _ => State.rd_congr hr f, fun a => State.ld_congr hm a, fun a => State.fld_congr hf a⟩

theorem Frame.wr {keys : List Nat} (h : Frame keys s t) {f : Fld} (v : Nat) (hf : f.key ∈ keys) : Frame keys s (t.wr f v) :=
  h.trans ⟨fun _ hg => State.rd_wr_ne t v fun e => hg (e ▸ hf), fun _ => rfl, fun _ => rfl⟩

theorem Frame.irq {keys : List Nat} (h : Frame keys s t) {p : Page} (b : Nat) (hp : (HDR.IRQ_STAT_IRQ p).key ∈ keys) :
    Frame keys s (t.irq p b) :=
  h.trans ⟨fun g hg => State.rd_irq_ne t p b fun e => hg (e ▸ hp), fun _ => by simp, fun _ => by simp⟩

theorem Frame.errCode {keys : List Nat} (h : Frame keys s t) {p : Page} (code word : Nat) (hk : ∀ k ∈ codeKeys p, k ∈ keys) :
    Frame keys s (t.errCode p code word) :=
  ((h.wr _ (hk _ (by simp))).wr _ (hk _ (by simp))).wr _ (hk _ (by simp))

theorem Frame.each {α : Type} {keys : List Nat} (l : List α) {f : α → State → State} (h : Frame keys s t)
    (hf : ∀ a ∈ l, ∀ t, Frame keys s t → Frame keys s (f a t)) : Frame keys s (State.each l f t) := by
  unfold State.each
  induction l generalizing t with
  | nil => exact h
  | cons a l ih => exact ih (hf a (by simp) t h) fun b hb => hf b (by simp [hb])

theorem Frame.enqueue {keys : List Nat} (h : Frame keys s t) (e : EventRec) (hk : ∀ k ∈ eventKeys, k ∈ keys) :
    Frame keys s (t.enqueue e) := by
  unfold State.enqueue
  split
  · exact h.trans (Frame.of_eq rfl rfl rfl)
  · have h1 := h.trans (u := { t with host := { t.host with evSeq := (t.host.evSeq + 1) % 2 ^ 32 } }) (Frame.of_eq rfl rfl rfl)
    exact (h1.wr (f := CXL1.EVT_LOST_COUNT) _ (hk _ (by simp))).irq 2 (hk _ (by simp))

theorem Frame.eventFull {keys : List Nat} (h : Frame keys s t) (p : Page) (bit qual : Nat) (cells : List CellSet)
    (args : List Nat) (permanent : Bool) (hk : ∀ k ∈ eventKeys, k ∈ keys) :
    Frame keys s (t.eventFull p bit qual cells args permanent) := by
  unfold State.eventFull
  split
  · exact h
  · extract_lets base recs u
    have hu : Frame keys s u := Frame.each recs (h.trans (Frame.of_eq rfl rfl rfl)) fun e _ t ht => Frame.enqueue ht e hk
    clear_value u
    split
    · exact hu.trans (Frame.of_eq rfl rfl rfl)
    · exact hu

theorem Frame.event {keys : List Nat} (h : Frame keys s t) (p : Page) (bit : Nat) (args : List Nat)
    (hk : ∀ k ∈ eventKeys, k ∈ keys) : Frame keys s (t.event p bit args) := h.eventFull p bit 0 [] args false hk

/-! ## The next state of a command -/

theorem live_eq (h : s.dark = false) : live s t = .next t := by simp [live, h]

theorem onPage_eq {p : Page} (h : s.dark = false) (hp : s.served p = true) : onPage p s t = .next t := by
  simp [onPage, live, h, hp]

end Sys2Proof.Machine
end

