-- ==== Sys2Proof/WellFormed.lean ====
section
/-! DEFINITION. Well-formed commands: the bounds on what a command brings from outside, where its operands' types do not already give them. -/

namespace Sys2Proof

/-- A result of the converter's 16 bits (R242). -/
def adcGood (x : Int) : Bool := decide (-32768 ≤ x) && decide (x ≤ 32767)

/-- Conversions of two pickups within the converter's 16 bits (R242, R244). -/
def Pickup.good (p : Pickup) : Bool := adcGood p.a && adcGood p.b

/-- A gate-drive test names pins 0 to 39 of a head (R73). -/
def GateTest.good (g : GateTest) : Bool :=
  g.low.all (fun i => decide (i < 40)) && g.up.all fun u => decide (u.1 < 40) && decide (u.2 < 40)

/-- What comes at a tick boundary: conversions within the converter's range, and pins 0 to 39 (R73, R240, R244). -/
def TickIn.good (x : TickIn) : Bool :=
  x.picks.toList.all Pickup.good && x.gates.toList.all GateTest.good &&
  (x.convs.toList.filterMap id).all adcGood && (x.rtd.toList.filterMap id).all adcGood

/-- What comes at a coat boundary: heads, interpolators, rows, and offsets in a table of 16 MiB (R104, R262, R282). -/
def CoatIn.good (x : CoatIn) : Bool :=
  (x.hits.all fun e => decide (e.1 < 8) && e.2.all fun h => decide (h.1 < 136)) &&
  (x.relief.all fun e => decide (e.1 < 8) && e.2.all fun l => decide (l.1 < 128)) &&
  x.scrub.all fun e => decide (e.2.1 < 2 ^ 24)

/-- A flipped bit lies in device memory of at most 1 TiB, in one of the 16 beats of its burst and of the 40 bits of a beat (R231). -/
def Flip.good (f : Flip) : Bool := decide (f.burst < 2 ^ 34) && decide (f.beat < 16) && decide (f.bit < 40)

/-- A failed image: a row of the unit and a kind of R226 that arises on the chip. -/
def ImageFail.good (f : ImageFail) : Bool := decide (f.row < 16) && (f.kind == 2 || f.kind == 3)

/-- A pulse's comparator times: each rise not after its fall (R93). -/
def Excursion.good (x : Excursion) : Bool := (x.te ++ x.le ++ x.clip).all fun e => decide (e.1 ≤ e.2)

/-- The DIMMs of a channel: at most two, one or two ranks, three speed grades (R229). -/
def DimmInfo.good (d : DimmInfo) : Bool := decide (d.dimms ≤ 2) && decide (d.ranks ≤ 2) && decide (d.rating ≤ 2)

/-- Rows 0 to 127 in what Primer measured (R275). -/
def PrimerResult.good (r : PrimerResult) : Bool :=
  (r.relief.all fun e => decide (e.1 < 128)) && r.trims.all fun e => decide (e.1 < 128)

/-- A set of cells of an event record: 128 rows, 1,024 columns (R348). -/
def cellsGood (c : Nat × Nat × Nat × Nat) : Bool :=
  decide (c.1 < 2 ^ 20) && decide (1 ≤ c.2.1) && decide (c.2.1 ≤ 128) && decide (1 ≤ c.2.2.1) && decide (c.2.2.1 ≤ 1024)

/-- Partitions 0 to 8 and the tables 0 to 4 in an item of the mirror (R319). -/
def CfgItem.good : CfgItem → Bool
  | .fields _ tabs => tabs.all fun t => decide (t.1 ≤ 4)
  | .image _ parts => parts.all fun p => decide (p.1 < 9)
  | .load parts => parts.all fun p => decide (p.1 < 9)
  | .whole _ tabs _ parts => (tabs.all fun t => decide (t.1 ≤ 4)) && parts.all fun p => decide (p.1 < 9)

/-- Host memory holds two checkpoint buffers, and an attach block of 4 KiB where it could be read (R320, R356). -/
def Pull.good (p : Pull) : Bool := decide (p.bufs.length ≤ 2) && (p.attach.length == 0 || p.attach.length == 4096)

/-- Whether what a command brings lies within the bounds of its rule. -/
def Instr.wf : Instr → Bool
  | .tickBoundary x => x.good
  | .coatBoundary x => x.good
  | .columnWindowStart _ _ _ taps => taps.all fun t => decide (t.1 < 8) && decide (t.2.1 < 128)
  | .workUnitSlot _ _ i _ reads => decide (i < 1024) && reads.flips.all Flip.good && reads.fails.all ImageFail.good
  | .schedLoadDone flips => flips.all Flip.good
  | .unitReplay _ _ _ fails => fails.all ImageFail.good
  | .slotParityError _ _ idx _ => decide (idx < 1024)
  | .pulse _ _ _ x => x.good
  | .wflCalEnd _ rs _ => rs.length == 8 && rs.all fun r => r.facs.length == 24
  | .laneParityError _ _ _ sample _ => decide (sample < 65536)
  | .ddrTrainingDone pop _ _ => pop.length == 4 && pop.all DimmInfo.good
  | .dimmTempPoll temps => temps.length == 4 && temps.all fun l => decide (l.length ≤ 2)
  | .hostMemRead hpa _ flips => decide (hpa < 2 ^ 64) && flips.all Flip.good
  | .hostMemWrite hpa b => decide (hpa < 2 ^ 64) && b.length == 64
  | .primerEnd rs => rs.all PrimerResult.good
  | .floadDone flips => flips.all Flip.good
  | .ossdTestPulse _ _ lows => lows.all fun l => decide (l.1 ≤ l.2) && decide (l.2 ≤ 10000)
  | .telegramReceive _ b => b.length == 32
  | .twinMessageReceive b item _ => b.length == 96 && item.all CfgItem.good
  | .takeover _ _ pull => pull.good
  | .relinquish code => decide (3 ≤ code) && decide (code ≤ 5)
  | .linkTraining speed width _ _ _ _ _ => decide (speed ≤ 6) && decide (width ≤ 16)
  | .doeSafetyRequest b => b.length == 0 || b.length == 32
  | .doeDiscovery _ index => decide (index < 256)
  | .getCertificate slot off len => decide (slot < 8) && decide (off < 65536) && decide (len < 65536)
  | .challenge slot => decide (slot < 8)
  | .getMeasurements index _ => decide (index < 256)
  | .finish n _ => decide (n < 2 ^ 32)
  | .heartbeat n => decide (n < 2 ^ 32)
  | .keyUpdate n => decide (n < 2 ^ 32)
  | .endSession n => decide (n < 2 ^ 32)
  | .hdmDecoderCommit _ hpa size dpa ways _ =>
    decide (hpa < 2 ^ 64) && decide (size < 2 ^ 64) && decide (dpa < 2 ^ 64) && decide (ways < 16)
  | .biTimeout line => decide (line < 2 ^ 58)
  | .eventRecord _ bit qual cells args =>
    decide (bit < 256) && decide (qual < 256) && cells.all cellsGood && decide (args.length ≤ 4) && args.all fun a => decide (a < 2 ^ 32)
  | .cmdFetch b => b.length == 64
  | .parcelReceive _ b => decide (b.length ≤ 4112)
  | .beaconReceive _ _ _ b => b.length == 32
  | .syncReceive _ t1 t2 t3 t4 _ => decide (t1 < 2 ^ 88) && decide (t2 < 2 ^ 88) && decide (t3 < 2 ^ 88) && decide (t4 < 2 ^ 88)
  | .triggerReceive _ _ _ b _ => b.length == 24
  | .captureParcel _ b => decide (b.length ≤ 4096)
  | .auxComplete _ b => decide (b.length ≤ 16)
  | .displayLineStart line f => decide (line < 8192) && f.flips.all fun x => decide (x.1 ≤ 9) && x.2.good
  | .firstMeasurement pull => pull.good
  | .dpTrainingEnd _ sinkLanes _ => sinkLanes == 1 || sinkLanes == 2 || sinkLanes == 4
  | .ideKm n _ _ => decide (n < 2 ^ 32)
  | .hostSnoop line => decide (line < 2 ^ 58)
  | .biResponse line => decide (line < 2 ^ 58)
  | .registerWrite .. | .refusedAccess .. | .commit .. | .commitTakeHold .. | .softReset .. | .softResetTakeHold ..
  | .ctrlLock .. | .irqForce .. | .irqStatClear .. | .registerParityError .. | .timeFracRead .. | .wrLoRead ..
  | .smbusSetOffset .. | .smbusRead .. | .smbusOtherCommand | .frameBoundary | .schedLoad .. | .oldSlotRelease ..
  | .leaseRenew | .horizonExpiry | .leaseResume .. | .measurementRestart | .engineParityError .. | .faultClr ..
  | .mirrorStep .. | .mirrorRampStart .. | .mirrorParkDone .. | .parkGo | .parkExit .. | .rfeSettingsSwitch ..
  | .xtalFail | .pointRecordWrite | .frameHeaderWrite | .imageReady | .wflCalGo .. | .wflCalStart .. | .capturePlan ..
  | .lanePowerUp .. | .hreq .. | .syncInEdge .. | .syncReset | .channelFail .. | .rtdOpenLead | .thermalEvaluation ..
  | .throttleStepChange | .shutdownOutputsOff | .shutdownPowerOff .. | .flashHoldEnd .. | .calCmd .. | .rfeRunEnd ..
  | .skewRunEnd .. | .calCheck .. | .calParityError .. | .store | .fload .. | .coatConclusion | .safetyInputSample ..
  | .emitReq | .emitCheck .. | .emitFault .. | .enterConfig | .confirm .. | .safetyStore | .islandStartEnd ..
  | .clockFault | .statusTelegramSend .. | .telegramWatchdog .. | .aliveEdge .. | .pathSilence | .cfgStoreResend
  | .checkpointComplete | .checkpointAbandon | .roleChoice .. | .takeoverResume | .takeFail .. | .autoWarm ..
  | .handoverTokenRelease | .handoverTokenRaise .. | .handoverOldStop | .roleSwap | .linkDown | .hostReset | .flr
  | .cdatRead | .getVersion | .getCapabilities | .negotiateAlgorithms .. | .getDigests | .keyExchange
  | .hostMemoryError | .eventRingWrite | .cmdDoorbell .. | .write .. | .read .. | .wait | .waitEnd | .nop
  | .cmdCompletion | .parcelReplay .. | .portRetrain .. | .portDownRetry .. | .laneDrop .. | .eyeScan ..
  | .deviceLost .. | .ppsEdge .. | .todArm | .holdoverEntry | .timeStep | .epochBump | .trigCmdBus .. | .trigCmdGo ..
  | .armGo .. | .armStop | .dstRecordEnd | .holdoffEnd .. | .linkTrainRetry | .irqHpd .. | .hpdLoss | .hpdReturn
  | .auxNativeRead .. | .auxNativeWrite .. | .auxI2cRead .. | .auxI2cWrite .. | .refreshLatch .. | .refreshEnd
  | .freezeStall | .vsyncInEdge .. | .por .. | .warm .. | .supplyFault .. | .firmwareRelease | .bootOk | .flashCmd ..
  | .flashOperationDone | .lockstepMismatch .. | .clkUpdate .. | .clkUpdateApply | .synthLock .. | .mtPort .. | .mtLock
  | .islandParityError | .startRoleTimeout .. | .synthLockLoss .. | .linkRecovery .. | .aspmL1 ..
  | .ideIntegrityFailure | .mr6Recomputed => true

end Sys2Proof
end

