-- ==== Sys2Proof/Tests/Slice0.lean ====
section
/-! SUPPORT. Tests: ill-formed operands refused, single commands on small states against values worked out from the rules, and a
witness for the premises of every statement that has them. -/

namespace Sys2Proof.Tests

open Sys2Proof Sys2Proof.Machine

-- one theorem after the other: many kernel evaluations at once take a thread with its stack each
set_option Elab.async false

/-! ## Well-formed commands: an ill-formed operand for each check -/

/-- A vector of one thing for each head, `x` at one place. -/
def at8 {α : Type} (d : α) (i : Nat) (x : α) : Vector α 8 := (Vector.replicate 8 d).setIfInBounds i x

theorem test_wf_tick_boundary : Instr.wf (.tickBoundary { picks := at8 {} 7 { a := 32767 }, gates := at8 {} 7 { low := [39] } }) = true ∧
    Instr.wf (.tickBoundary { picks := at8 {} 0 { a := 32768 } }) = false ∧ Instr.wf (.tickBoundary { picks := at8 {} 0 { b := -32769 } }) = false ∧
    Instr.wf (.tickBoundary { gates := at8 {} 0 { low := [40] } }) = false ∧ Instr.wf (.tickBoundary { gates := at8 {} 0 { up := [(40, 0)] } }) = false ∧
    Instr.wf (.tickBoundary { gates := at8 {} 0 { up := [(0, 40)] } }) = false ∧
    Instr.wf (.tickBoundary { convs := Vector.replicate 64 (some 32768) }) = false ∧
    Instr.wf (.tickBoundary { rtd := Vector.replicate 32 (some (-32769)) }) = false := by decide

theorem test_wf_coat_boundary : Instr.wf (.coatBoundary { hits := [(7, [(135, [])])], relief := [(7, [(127, 0)])], scrub := [(true, 2 ^ 24 - 1, false)] }) = true ∧
    Instr.wf (.coatBoundary { hits := [(8, [])] }) = false ∧ Instr.wf (.coatBoundary { hits := [(0, [(136, [])])] }) = false ∧
    Instr.wf (.coatBoundary { relief := [(8, [])] }) = false ∧ Instr.wf (.coatBoundary { relief := [(0, [(128, 0)])] }) = false ∧
    Instr.wf (.coatBoundary { scrub := [(true, 2 ^ 24, false)] }) = false := by decide

theorem test_wf_column_window : Instr.wf (.columnWindowStart 0 true true [(7, 127, [])]) = true ∧
    Instr.wf (.columnWindowStart 0 true true [(8, 0, [])]) = false ∧ Instr.wf (.columnWindowStart 0 true true [(0, 128, [])]) = false := by decide

theorem test_wf_work_unit : Instr.wf (.workUnitSlot 0 4 1023 false ⟨[⟨2 ^ 34 - 1, 15, 39⟩], [⟨15, false, 3⟩]⟩) = true ∧
    Instr.wf (.workUnitSlot 0 4 1024 false ⟨[], []⟩) = false ∧ Instr.wf (.workUnitSlot 0 4 0 false ⟨[⟨2 ^ 34, 0, 0⟩], []⟩) = false ∧
    Instr.wf (.workUnitSlot 0 4 0 false ⟨[⟨0, 16, 0⟩], []⟩) = false ∧ Instr.wf (.workUnitSlot 0 4 0 false ⟨[⟨0, 0, 40⟩], []⟩) = false ∧
    Instr.wf (.workUnitSlot 0 4 0 false ⟨[], [⟨16, false, 2⟩]⟩) = false ∧ Instr.wf (.unitReplay 0 0 0 [⟨0, false, 4⟩]) = false ∧
    Instr.wf (.slotParityError 0 0 1024 true) = false ∧ Instr.wf (.schedLoadDone [⟨0, 16, 0⟩]) = false ∧
    Instr.wf (.floadDone [⟨0, 16, 0⟩]) = false := by decide

theorem test_wf_pulse : Instr.wf (.pulse 0 0 0 { te := [(3, 3)] }) = true ∧ Instr.wf (.pulse 0 0 0 { te := [(4, 3)] }) = false ∧
    Instr.wf (.pulse 0 0 0 { le := [(4, 3)] }) = false ∧ Instr.wf (.pulse 0 0 0 { clip := [(4, 3)] }) = false := by decide

theorem test_wf_lanes : Instr.wf (.wflCalEnd 0 (List.replicate 8 ⟨List.replicate 24 0, 0⟩) 0) = true ∧
    Instr.wf (.wflCalEnd 0 (List.replicate 7 ⟨List.replicate 24 0, 0⟩) 0) = false ∧
    Instr.wf (.wflCalEnd 0 (List.replicate 8 ⟨List.replicate 23 0, 0⟩) 0) = false ∧ Instr.wf (.laneParityError 0 0 0 65536 true) = false := by decide

theorem test_wf_memory : Instr.wf (.ddrTrainingDone (List.replicate 4 { dimms := 2 }) 0 0) = true ∧
    Instr.wf (.ddrTrainingDone (List.replicate 3 {}) 0 0) = false ∧ Instr.wf (.ddrTrainingDone (List.replicate 4 { dimms := 3 }) 0 0) = false ∧
    Instr.wf (.ddrTrainingDone (List.replicate 4 { ranks := 3 }) 0 0) = false ∧ Instr.wf (.ddrTrainingDone (List.replicate 4 { rating := 3 }) 0 0) = false ∧
    Instr.wf (.dimmTempPoll [[], [], []]) = false ∧ Instr.wf (.dimmTempPoll [[0, 0, 0], [], [], []]) = false := by decide

theorem test_wf_host_memory : Instr.wf (.hostMemRead (2 ^ 64) false []) = false ∧ Instr.wf (.hostMemRead 0 false [⟨0, 16, 0⟩]) = false ∧ Instr.wf (.hostMemWrite (2 ^ 64) (List.replicate 64 0)) = false ∧
    Instr.wf (.hostMemWrite 0 (List.replicate 63 0)) = false ∧ Instr.wf (.hostSnoop (2 ^ 58)) = false ∧
    Instr.wf (.biTimeout (2 ^ 58)) = false ∧ Instr.wf (.biResponse (2 ^ 58)) = false := by decide

theorem test_wf_primer : Instr.wf (.primerEnd [⟨0, [(127, 5)], []⟩]) = true ∧ Instr.wf (.primerEnd [⟨0, [(128, 5)], []⟩]) = false ∧
    Instr.wf (.primerEnd [⟨0, [], [(128, 0, 0, 0)]⟩]) = false := by decide

theorem test_wf_twin : Instr.wf (.telegramReceive (some 0) (List.replicate 31 0)) = false ∧ Instr.wf (.twinMessageReceive (List.replicate 95 0) none none) = false ∧
    Instr.wf (.twinMessageReceive (List.replicate 96 0) (some (.fields [] [(5, 0, 0)])) none) = false ∧
    Instr.wf (.twinMessageReceive (List.replicate 96 0) (some (.image [] [(9, [])])) none) = false ∧
    Instr.wf (.twinMessageReceive (List.replicate 96 0) (some (.load [(9, [], [])])) none) = false ∧
    Instr.wf (.twinMessageReceive (List.replicate 96 0) (some (.whole [] [(5, 0, 0)] [] [])) none) = false ∧
    Instr.wf (.twinMessageReceive (List.replicate 96 0) (some (.whole [] [] [] [(9, [])])) none) = false ∧
    Instr.wf (.takeover 0 0 { bufs := [([], []), ([], []), ([], [])] }) = false ∧ Instr.wf (.firstMeasurement { attach := [0] }) = false ∧
    Instr.wf (.relinquish 2) = false ∧ Instr.wf (.relinquish 6) = false := by decide

theorem test_wf_safety : Instr.wf (.ossdTestPulse 0 false [(4000, 10000)]) = true ∧ Instr.wf (.ossdTestPulse 0 false [(2, 1)]) = false ∧
    Instr.wf (.ossdTestPulse 0 false [(0, 10001)]) = false := by decide

theorem test_wf_link : Instr.wf (.linkTraining 7 16 true true true true true) = false ∧ Instr.wf (.linkTraining 6 17 true true true true true) = false ∧
    Instr.wf (.doeSafetyRequest [0]) = false ∧ Instr.wf (.doeDiscovery 0 256) = false := by decide

theorem test_wf_spdm : Instr.wf (.getCertificate 8 0 0) = false ∧ Instr.wf (.getCertificate 0 65536 0) = false ∧ Instr.wf (.getCertificate 0 0 65536) = false ∧
    Instr.wf (.challenge 8) = false ∧ Instr.wf (.getMeasurements 256 false) = false ∧ Instr.wf (.finish (2 ^ 32) true) = false ∧
    Instr.wf (.heartbeat (2 ^ 32)) = false ∧ Instr.wf (.keyUpdate (2 ^ 32)) = false ∧ Instr.wf (.endSession (2 ^ 32)) = false ∧
    Instr.wf (.ideKm (2 ^ 32) 0 0) = false := by decide

theorem test_wf_decoder : Instr.wf (.hdmDecoderCommit 0 (2 ^ 64) 0 0 0 true) = false ∧ Instr.wf (.hdmDecoderCommit 0 0 (2 ^ 64) 0 0 true) = false ∧
    Instr.wf (.hdmDecoderCommit 0 0 0 (2 ^ 64) 0 true) = false ∧ Instr.wf (.hdmDecoderCommit 0 0 0 0 16 true) = false := by decide

theorem test_wf_event : Instr.wf (.eventRecord .cap 255 255 [(0, 1, 1, 0)] [2 ^ 32 - 1]) = true ∧ Instr.wf (.eventRecord .cap 256 0 [] []) = false ∧
    Instr.wf (.eventRecord .cap 0 256 [] []) = false ∧ Instr.wf (.eventRecord .cap 0 0 [(2 ^ 20, 1, 1, 0)] []) = false ∧
    Instr.wf (.eventRecord .cap 0 0 [(0, 0, 1, 0)] []) = false ∧ Instr.wf (.eventRecord .cap 0 0 [(0, 129, 1, 0)] []) = false ∧
    Instr.wf (.eventRecord .cap 0 0 [(0, 1, 0, 0)] []) = false ∧ Instr.wf (.eventRecord .cap 0 0 [(0, 1, 1025, 0)] []) = false ∧
    Instr.wf (.eventRecord .cap 0 0 [] [0, 0, 0, 0, 0]) = false ∧ Instr.wf (.eventRecord .cap 0 0 [] [2 ^ 32]) = false := by decide

theorem test_wf_ring : Instr.wf (.cmdFetch (List.replicate 63 0)) = false := by decide

theorem test_wf_fabric : Instr.wf (.parcelReceive 0 (List.replicate 4113 0)) = false ∧ Instr.wf (.captureParcel 0 (List.replicate 4097 0)) = false ∧
    Instr.wf (.beaconReceive 0 0 0 (List.replicate 31 0)) = false ∧ Instr.wf (.triggerReceive 0 0 0 (List.replicate 23 0) 0) = false ∧
    Instr.wf (.syncReceive 0 (2 ^ 88) 0 0 0 0) = false ∧ Instr.wf (.syncReceive 0 0 (2 ^ 88) 0 0 0) = false ∧
    Instr.wf (.syncReceive 0 0 0 (2 ^ 88) 0 0) = false ∧ Instr.wf (.syncReceive 0 0 0 0 (2 ^ 88) 0) = false := by decide +kernel

theorem test_wf_display : Instr.wf (.auxComplete 0 (List.replicate 17 0)) = false ∧ Instr.wf (.displayLineStart 8192 {}) = false ∧
    Instr.wf (.displayLineStart 0 { flips := [(10, ⟨0, 0, 0⟩)] }) = false ∧ Instr.wf (.displayLineStart 0 { flips := [(9, ⟨0, 0, 40⟩)] }) = false ∧
    Instr.wf (.dpTrainingEnd 0 3 []) = false := by decide


/-! ## Witnesses: for each statement with premises, states and operands that meet them, clause by clause -/

/-- A state with fields set, right after reset otherwise. -/
def st (l : List (Fld × Nat)) (s : State := State.reset) : State := l.foldl (fun s x => s.wr x.1 x.2) s

theorem runs_of {s : State} (h : (!s.dark && !s.inHold) = true) : Runs s := by
  simp only [Bool.and_eq_true, Bool.not_eq_true'] at h
  exact ⟨h.1, h.2⟩

theorem wit_QueueDrainsInOrder : ({ State.reset with pending := [Instr.nop, .leaseRenew, .flr] } : State).pending = [.nop, .leaseRenew] ++ [.flr] ∧
    State.reset.pending = [] ++ [] := by decide

theorem wit_StepKeepsInv : Inv State.reset ∧ ∃ t, step { State.reset with pending := [.leaseRenew] } = .next t :=
  ⟨⟨by decide, by decide, by decide, by decide, by decide⟩, _, rfl⟩

theorem wit_CommandFrame : (∃ t, exec .nop State.reset = .next t) ∧ mayStore .nop = false ∧ mayProgram .nop = false ∧
    mayWrite .nop (area SCD.LEASE_AGE.key) = false ∧ mayTick .nop = false ∧ maySwitch .nop = false :=
  ⟨⟨_, rfl⟩, by decide, by decide, by decide, by decide, by decide⟩

theorem wit_OutputsStayOff : OutputsOff State.reset ∧ ∃ t, step { State.reset with pending := [.leaseRenew] } = .next t :=
  ⟨⟨by decide, by decide, by simp [State.reset]⟩, _, rfl⟩

theorem wit_HeaderWrites : Runs State.reset ∧ Page.hkp ∈ [Page.scm, .skm, .flt, .ptb, .hkp] := ⟨runs_of (by decide), by decide⟩

/-- A commit of SCM that waits. -/
def waiting : State := { st [(HDR.STAT_COMMIT_PENDING .scm, 1)] with commits := [{ page := .scm, vals := [((SCM.CAND_MARGIN 0).key, 3)], due := .tick 5 }] }

theorem wit_CommitRejected : Runs State.reset ∧ (0 : BitVec 32).toNat ≠ Page.commitKey .scm ∧
    (BitVec.ofNat 32 (Page.commitKey .scm)).toNat = Page.commitKey .scm ∧
    (lowestCode (({ State.reset with shadow := [((SCM.CAND_THRESH 0).key, 0)] } : State).commitCodes .scm)).1 ≠ 0 ∧
    Runs waiting ∧ (∃ c ∈ waiting.commits, c.page = .scm) ∧
    (∃ r ∈ ({ State.reset with resets := [⟨.scm, .tick 1⟩] } : State).resets, r.page = .scm) ∧
    [(2, 3), (1, 7), (1, 5)] ≠ ([] : List (Nat × Nat)) ∧ (∀ x ∈ [(2, 3), (1, 7), (1, 5)], 1 ≤ x.1) ∧
    lowestCode [(2, 3), (1, 7), (1, 5)] = (1, 5) :=
  ⟨runs_of (by decide), by decide, by decide, by decide +kernel, runs_of (by decide), ⟨_, .head _, rfl⟩, ⟨_, .head _, rfl⟩, by decide, by decide, by decide⟩

theorem wit_CommitAccepted : let s : State := { State.reset with shadow := [((SCM.CAND_THRESH 0).key, 3)] }
    let u : State := { State.reset with shadow := [(THM.TCFG_FORCE_STEP.key, 1)] }
    Runs s ∧ Runs u ∧ (lowestCode (s.commitCodes .sec)).1 = 0 ∧ pageShadowed .sec = false ∧
    (lowestCode (s.commitCodes .scm)).1 = 0 ∧ pageShadowed .scm = true ∧ s.commitDue .scm 99999 = some (.tick 128) ∧
    (lowestCode (u.commitCodes .thm)).1 = 0 ∧ pageShadowed .thm = true ∧ u.commitDue .thm 0 = none :=
  ⟨runs_of (by decide), runs_of (by decide), by decide +kernel⟩

/-- A commit of STP and one of SCM that wait for tick 5, worked in tick `n`. -/
def waitingAt (n : Nat) : State := { waiting with now := n, commits := { page := .stp, vals := [], due := .tick 5 } :: waiting.commits }

theorem wit_CommitTakesHold : let c : PendCommit := { page := .scm, vals := [((SCM.CAND_MARGIN 0).key, 3)], due := .tick 5 }
    (∀ n ∈ [4, 5], (waitingAt n).dark = false ∧ (waitingAt n).commits.find? (fun d => d.page == .scm) = some c ∧
      (waitingAt n).now = n) ∧ c.due = .tick 5 ∧ 4 < 5 ∧ Page.scm ≠ .stp ∧ Page.scm ∈ [Page.scm, .skm, .flt, .ptb, .hkp] ∧
    c.tabs = [] ∧ (c.vals.map Prod.fst).Nodup ∧ (∃ f ∈ Page.scm.fields, f.acc.shadowed = true ∧ (f.key, 3) ∈ c.vals) ∧
    ∃ f ∈ Page.scm.fields, f.acc.shadowed = true ∧ f.key ∉ c.vals.map Prod.fst := by decide +kernel

theorem wit_SoftResetWaits : Runs State.reset ∧ State.reset.safState ≠ 1 ∧ State.reset.resetRefused .hkp = none ∧
    State.reset.resetRefused .saf ≠ none ∧ (∃ h, Page.wfl 7 = .emt h ∨ Page.wfl 7 = .rfe h ∨ Page.wfl 7 = .wfl h) ∧
    (∀ p ∈ [Page.wfl 7, .cal, .ptb, .hkp, .dst], (State.reset.resets.any fun r => r.page == p) = false) ∧
    State.reset.nextTick 99000 = 1 ∧ State.reset.nextTick 99001 = 2 :=
  ⟨runs_of (by decide), by decide, by decide, by decide, ⟨7, .inr (.inr rfl)⟩, by decide, by decide, by decide⟩

theorem wit_BlockReset : let s (n : Nat) : State := { State.reset with now := n, resets := [⟨.hkp, .tick 9⟩] }
    Runs (s 8) ∧ Runs (s 9) ∧ Page.sec ∈ [Page.stp, .scm, .skm, .flt, .lth, .mem 0, .mem 1, .mem 2, .mem 3, .sec] ∧
    (s 8).resets.find? (fun r => r.page == .hkp) = some ⟨.hkp, .tick 9⟩ ∧ (s 8).now < 9 ∧ 9 ≤ (s 9).now :=
  ⟨runs_of (by decide), runs_of (by decide), by decide, by decide, by decide, by decide⟩

theorem wit_ClockUpdate : let held (k v n : Nat) : State := { State.reset with now := n, boot.held := [(k, v)], boot.clkAt := some 7 }
    Runs State.reset ∧ Runs (held (CLK.OUT_DIV 46).key 9 7) ∧ (lowestCode State.reset.updateCodes).1 = 0 ∧
    (lowestCode (held (CLK.OUT_DIV 47).key 9 0).updateCodes).1 ≠ 0 ∧ (held (CLK.OUT_DIV 46).key 9 6).now < 7 ∧
    7 ≤ (held (CLK.OUT_DIV 46).key 9 7).now ∧ (held (CLK.OUT_DIV 46).key 9 7).boot.clkAt = some 7 ∧
    ((held (CLK.OUT_DIV 46).key 9 7).boot.held.map Prod.fst).Nodup ∧
    ∀ v ∈ (held (CLK.OUT_DIV 46).key 9 7).boot.held, clkOutKey v.1 = true :=
  ⟨runs_of (by decide), runs_of (by decide), by decide +kernel⟩

theorem wit_AccessRefused : State.reset.dark = false ∧ (3 : BitVec 24).toNat % 4 ≠ 0 ∧
    (∀ p ∈ [Page.hkp, .pwr], (st [(PWR.STATE_STATE, 2)]).dark = false ∧ (st [(PWR.STATE_STATE, 2)]).inHold = true ∧
      (BitVec.ofNat 24 p.base).toNat / 4096 * 4096 = p.base ∧ (BitVec.ofNat 24 p.base).toNat % 4 = 0) ∧
    accessAllowed 3 4 false = false ∧ accessAllowed 0 3 true = false ∧ accessAllowed 0 64 true = false := by decide +kernel

theorem wit_AccessCodes : let off : BitVec 24 := BitVec.ofNat 24 (Page.rfe 7).base + 0x40
    Runs State.reset ∧ Path.cxlIo ≠ Path.smbus ∧ off.toNat % 4 = 0 ∧ off.toNat / 4096 * 4096 = (Page.rfe 7).base ∧ 0x40 ≤ off.toNat % 4096 ∧
    (∃ h, Page.rfe 7 = .rfe h) ∧ (∃ c, Page.mem 3 = .mem c) ∧ Page.lth ∈ [Page.hkp, .thm, .stp, .scm, .skm, .ptb, .lth] :=
  ⟨runs_of (by decide), by decide, by decide, by decide, by decide, ⟨7, rfl⟩, ⟨3, rfl⟩, by decide⟩

theorem wit_ReadPorts : Runs State.reset ∧ ({ State.reset with dark := true } : State).latched = false ∧
    (st [(THM.LATCH_INFO_LATCHED, 1)] { State.reset with dark := true }).latched = true ∧
    State.reset.host.smbus % 4 = 0 ∧ ({ State.reset with host.smbus := 0xFFFFFD } : State).host.smbus % 4 ≠ 0 :=
  ⟨runs_of (by decide), by decide +kernel⟩

/-- A command ring entry of 64 bytes with an operation and a count, and a state in which it is in progress. -/
def entry (op n : Byte) : List Byte := op :: n :: List.replicate 62 0
def ringState (op n : Byte) : State := { State.reset with host.cmd := some { bytes := entry op n } }

theorem wit_RingEntries : ∀ op ∈ [1, 2, 4], ∀ n ∈ [0, 6], (ringState op n).dark = false ∧ (entry op n).length = 64 ∧
    u8 (entry op n) 1 ≤ 6 ∧ (ringState op n).curEntry op.toNat = some (entry op n) := by decide +kernel

theorem wit_LeaseAndPark : Runs (st [(SCD.LEASE_AGE, 64)]) ∧ Runs (st [(SCD.LEASE_EXPIRED, 1)]) ∧ State.reset.rd SCD.LEASE_AGE < 64 ∧
    (let s := st [(SCD.LEASE_AGE, 64)]; 64 ≤ s.rd SCD.LEASE_AGE ∧ s.on SCD.LEASE_EXPIRED = false ∧ s.inPark = false) ∧
    (let s := st [(PWR.STATE_STATE, 1), (PWR.STATE_BY_EXPIRY, 1)]; s.inPark = true ∧ s.on PWR.STATE_BY_EXPIRY = true) ∧
    (let s := st [(PWR.STATE_STATE, 1)]; s.inPark = true ∧ s.on PWR.STATE_BY_EXPIRY = false ∧ s.on SCD.LEASE_EXPIRED = false ∧
      s.scd.resumeAt = none) ∧
    (let s := st [(SCD.LEASE_EXPIRED, 1), (SCD.LEASE_AGE, 63), (PWR.STATE_STATE, 1), (PWR.STATE_BY_EXPIRY, 1)];
      s.on SCD.LEASE_EXPIRED = true ∧ s.rd SCD.LEASE_AGE < 64 ∧ s.scd.resumeAt = none ∧ s.inPark = true ∧ s.on PWR.STATE_BY_EXPIRY = true) ∧
    (let s : State := { st [(PWR.STATE_STATE, 1), (SCD.ACTIVE_HEAD_MASK, 1)] with scd.resumeAt := some 0, boot.measured := true };
      s.scd.resumeAt = some s.now ∧ s.boot.measured = true ∧ s.present 0 = true) :=
  ⟨runs_of (by decide), runs_of (by decide), by decide +kernel⟩

/-- The bytes of a partition with one tick table, in which each engine listed has one entry: lane 0, window 0, group 0, head 0. -/
def part (es : List Nat) : List Byte :=
  leBytes 4 0 ++ leBytes 4 0x1000 ++ leBytes 4 0 ++ leBytes 4 16 ++
  ((List.range 15).flatMap fun e => leBytes 4 (if es.contains e then 1 + 65536 * (10 + e) else 0)) ++ leBytes 4 0 ++
  ((List.range 15).flatMap fun e => leBytes 4 e ++ leBytes 4 0)

/-- A device that measures with head 0 alone, under that partition, in tick `n`. -/
def imaged (es : List Nat) (n : Nat) : State :=
  { st [(SCD.ACTIVE_HEAD_MASK, 1), (STP.BOOK_STAT_OK, 1)] with
    now := n, scd.measuring := true, scd.slots := (Vector.replicate 18 {}).set 0 { part := part es } }

/-- The unit of head 0 whose measurement is that of a tick. -/
def unit0 (m : Nat) : WorkUnit := { head := 0, window := 0, group := 0, mtick := m }

theorem wit_ScheduleImages : Runs (st [(SCD.LOAD_STAT_BUSY, 1)]) ∧ Runs (imaged [4] 6) ∧
    ({ State.reset with scd.load := some ⟨0, 1, 1, true⟩ } : State).scd.load.isSome = true ∧
    (st [(HDR.STAT_COMMIT_PENDING .scd, 1)]).on (HDR.STAT_COMMIT_PENDING .scd) = true ∧
    (1 : BitVec 9).toNat &&& ({ State.reset with scd.held := 1 } : State).scd.held ≠ 0 ∧
    (State.reset.scd.load = none ∧ State.reset.on (HDR.STAT_COMMIT_PENDING .scd) = false ∧ (511 : BitVec 9).toNat &&& State.reset.scd.held = 0) ∧
    (2 ^ 20 < 2 ^ 20 + 1 ∧ ({ addr := 0, len := 2 ^ 20 + 1, mask := 1, flash := true } : LoadReq).mask ≠ 0) ∧
    State.reset.rd LTH.MEM_SIZE_FAILED = 0 ∧
    (let s (n : Nat) : State := { State.reset with now := n, scd.swapAt := (Vector.replicate 9 0).set 8 4 };
      (s 7).scd.swapAt[(8 : Fin 9)] + 3 ≤ (s 7).now ∧ (s 6).now < (s 6).scd.swapAt[(8 : Fin 9)] + 3) ∧
    (imaged [4] 6).unitTick 4 = 5 ∧ ((imaged [4] 6).unitEntry 4 (unit0 5)).map Prod.fst = some 0 ∧
    ((4, 0, unit0 5) ∉ (imaged [4] 6).scd.errsPrev) ∧ laneGroup 4 0 = some 4 ∧
    (let s : State := { imaged [4] 6 with scd.errsPrev := [(4, 0, unit0 5)] };
      (4, 0, unit0 5) ∈ s.scd.errsPrev ∧ s.on (SCD.LANE_MAP_PENDING 4) = false ∧ s.on (SCD.LANE_MAP_REMAPPED 4) = false ∧
      s.on (SCD.LANE_MAP_EXHAUSTED 4) = false) :=
  ⟨runs_of (by decide), runs_of (by decide), by decide +kernel⟩

theorem wit_Mirrors : let s (m : MirMode) (n : Nat) : State := { State.reset with now := n, emt := (Vector.replicate 8 {}).set 7 { mir := m } }
    let sw (n : Nat) : State := { State.reset with now := n, commits := [{ page := .scd, vals := [(SCD.SWAP_PART_MASK.key, 0x80)], due := .tick 64 }],
                                                   scd.slots := (Vector.replicate 18 {}).set 16 { hdr := List.replicate 12 0 ++ [0x80, 0, 0, 0] } }
    Runs State.reset ∧ ((s .parked 0).emtOf 7).mir = .parked ∧ ((s .run 0).emtOf 7).mir = .run ∧ ((s (.out 3 5) 4).emtOf 7).mir = .out 3 5 ∧
    ((s (.home 3 5) 4).emtOf 7).mir = .home 3 5 ∧ (s (.home 3 5) 66).now < 3 + 64 ∧ 3 + 64 ≤ (s (.home 3 5) 67).now ∧
    (sw 0).pendingSwap = some (0x80, 64) ∧ hasBit (hdrHeadMask ((sw 0).stagedHdr 0x80)) 7 = true ∧ (sw 0).present 7 = false ∧
    64 ≤ (sw 0).now + 64 ∧ ((sw 0).emtOf 7).mir = .parked :=
  ⟨runs_of (by decide), by decide +kernel⟩

theorem wit_Boundaries : let s : State := { State.reset with coatAt := some 0, frameAt := some 0 }
    Runs State.reset ∧ State.reset.dark = false ∧ (st [(TIM.XTAL_STAT_FAIL, 1)]).on TIM.XTAL_STAT_FAIL = true ∧
    (State.reset.on TIM.XTAL_STAT_FAIL = false ∧ State.reset.inHold = false ∧ State.reset.step128 = 0 ∧ State.reset.coatAt ≠ some State.reset.now ∧
      State.reset.twn.stopDue = none ∧ State.reset.tick = 0 ∧ State.reset.frameAt ≠ some State.reset.now ∧ State.reset.role ≠ 3 ∧
      State.reset.on TIM.STEP_PENDING = false) ∧ s.coatAt = some s.now ∧ s.frameAt = some s.now ∧
    (st [(SCD.TICK_POS_TICK, 127)]).step128 ≠ 0 ∧ (st [(SCD.TICK_POS_TICK, 511)]).tick = 511 :=
  ⟨runs_of (by decide), by decide +kernel⟩

theorem wit_ColumnWindow : (imaged [0] 6).dark = false ∧ (imaged [0] 6).winAt 0 0 = none ∧
    ((imaged [0] 6).measured 0).contains 0 = true ∧ (imaged [0] 6).twn.released = false ∧ ((imaged [0] 6).measured 7).contains 7 = false ∧
    (let s : State := { imaged [0] 6 with wins := [{ mtick := 6, head := 1, window := 7, col := 3 }] }; s.wins ≠ []) := by decide +kernel

/-- A window of head 7 that is open, with the channels of a mask. -/
def opened (ch : Nat) (s : State) : State := { s with wins := [{ mtick := s.now, head := 7, window := 7, col := 7, chEn := ch }] }

theorem wit_Pulses : State.reset.dark = false ∧ State.reset.winAt 7 7 = none ∧
    ((opened 1 State.reset).winAt 7 7).map (fun w => (hasBit w.chEn 0, hasBit w.chEn 127)) = some (true, false) ∧
    (opened 1 (st [(TIM.XTAL_STAT_FAIL, 1)])).on TIM.XTAL_STAT_FAIL = true ∧ (opened 1 State.reset).on TIM.XTAL_STAT_FAIL = false ∧
    (let s : State := { st [(SCD.TICK_POS_TICK, 255)] with commits := [{ page := .rfe 7, vals := [], due := .tick 1 }] };
      s.step128 = 127 ∧ ∃ c ∈ s.commits, c.page = .rfe 7 ∧ c.due = .tick (s.now + 1)) := by decide +kernel

theorem wit_Slots : let s := imaged [4] 6; let r : ReplayMark := { wu := unit0 5, engine := 4, lane := 0, errTick := 5 }
    s.dark = false ∧
    (s.slotAt 0 4 0 (s.now - 1)).map (fun x => x.unit (s.now - 1)) = some (unit0 5) ∧
    ((0, 4, 0) ∉ s.scd.done ∧ s.workable 4 (unit0 5) = true) ∧ (0, 4, 0) ∈ ({ s with scd.done := [(0, 4, 0)] } : State).scd.done ∧
    (imaged [5] 6).workable 5 (unit0 5) = false ∧ (imaged [4, 5] 6).workable 5 (unit0 5) = true ∧
    ((imaged [4, 5] 6).slotAt 0 5 0 5).isSome = true ∧
    (let v : State := { imaged [4, 5] 6 with wins := [{ mtick := 5, head := 0, window := 0, col := 0, lit := 1, chEn := 1 }] };
      (v.winOf (unit0 5)).map (fun w => (hasBit w.dropped 0, w.worked 0)) = some (false, true)) ∧
    ((imaged [0, 3] 6).slotAt 0 3 0 6).map (fun x => (x.head, decide (x.window < 7))) = some (0, true) ∧
    ((imaged [0, 9] 6).slotAt 0 9 0 7).map (fun x => (imaged [0, 9] 6).foresee.measuredNext x.head x.window) = some true ∧
    s.scd.replays.find? (fun r => r.wu.head == 0 && r.wu.window == 0 && r.wu.group == 0 && !r.ran) = none ∧
    (let v : State := { s with scd.replays := [r] };
      v.scd.replays.find? (fun r => r.wu.head == 0 && r.wu.window == 0 && r.wu.group == 0 && !r.ran) = some r ∧ v.admitted.contains r = true) ∧
    (let v : State := { s with scd.replays := List.replicate 8 { r with wu := { unit0 5 with head := 1 } } ++ [r] };
      v.scd.replays.find? (fun r => r.wu.head == 0 && r.wu.window == 0 && r.wu.group == 0 && !r.ran) = some r ∧ v.admitted.contains r = false) := by
  decide +kernel

theorem wit_PointWrites : let s (n : Nat) (x : PtbSt) : State := { st [(SCD.TICK_POS_TICK, n)] with ptb := x }
    Runs State.reset ∧ (s 0 { wroteAt := some 0 }).ptb.wroteAt = some (s 0 {}).now ∧ (s 0 { wroteAt := some 0 }).ptb.tap = [] ∧
    (s 0 {}).ptb.wroteAt ≠ some (s 0 {}).now ∧
    ((s 1 { coatMeasPrev := 1 }).step128 = 1 ∧ (s 1 { coatMeasPrev := 1 }).ptb.imageAt ≠ some 0 ∧ (s 1 { coatMeasPrev := 1 }).ptb.coatMeasPrev ≠ 0) ∧
    (s 2 {}).step128 ≠ 1 ∧ (s 1 { imageAt := some 0 }).ptb.imageAt = some 0 ∧ (s 1 {}).ptb.coatMeasPrev = 0 ∧
    ((s 2 {}).twn.lateHeader = false ∧ (s 2 {}).tick ≠ 1 ∧ (s 1 { headerAt := some 0 }).ptb.headerAt = some 0) ∧
    ((s 1 {}).tick = 1 ∧ (s 1 {}).ptb.headerAt ≠ some 0 ∧ (s 1 {}).twn.released = false ∧ (s 1 {}).publishes = true ∧ (s 1 {}).ptb.prev.ended = false ∧
      (s 1 { prev := { ended := true } }).ptb.prev.ended = true) ∧
    (st [(TWN.CFG_TWIN_EN, 1), (TWN.STAT_ROLE, 3)]).publishes = false :=
  ⟨runs_of (by decide), by decide +kernel⟩

/-- A state in tick `n` in which the lane group of head 7 is as given. -/
def grp (x : WflSt) (n : Nat := 0) (s : State := State.reset) : State := { s with now := n, wfl := (Vector.replicate 8 {}).set 7 x }

theorem wit_LaneRuns : let m : State := { st [(SCD.ACTIVE_HEAD_MASK, 0x80)] with scd.measuring := true }
    Runs (grp {}) ∧ Runs m ∧ ((grp { run := some 3 }).wflOf 7).run ≠ none ∧ ((grp {}).wflOf 7).run = none ∧
    ((grp { pend := some 5 } 4).wflOf 7).pend = some 5 ∧ (grp { pend := some 5 } 4).on CAL.FAULT_STAT_HALTED = false ∧
    (grp { pend := some 5 } 4).now < 5 ∧ 5 ≤ (grp { pend := some 5 } 5).now ∧
    (m.headMeasures 7 && m.rd SCD.RUN_INFO_CAL_SHARE == 0) = true ∧ ((grp {}).headMeasures 7 && (grp {}).rd SCD.RUN_INFO_CAL_SHARE == 0) = false ∧
    ((grp { run := some 5 } 20).wflOf 7).run = some 5 ∧ (grp { run := some 5 } 20).now < 5 + 16 ∧ 5 + 16 ≤ (grp { run := some 5 } 21).now ∧
    (∀ n ∈ ({ State.reset with tim.syncAt := [1, 2] } : State).tim.syncAt, State.reset.now < n) ∧
    ∃ n ∈ ({ State.reset with now := 1, tim.syncAt := [1, 2] } : State).tim.syncAt, n ≤ 1 :=
  ⟨runs_of (by decide), runs_of (by decide), by decide +kernel⟩

theorem wit_CaptureRequests : let p : PlanEnt := { tick := 4, window := 0, lane := 0, row := 0, inj := true, must := false }
    State.reset.dark = false ∧ Runs State.reset ∧ ((grp { planned := some 1 }).wflOf 7).planned = some ((grp { planned := some 1 }).now + 1) ∧
    ((grp {} 4).wflOf 7).planned ≠ some ((grp {} 4).now + 1) ∧ (grp {} 4).present 7 = false ∧ hasBit ((grp {} 4).joinsAt 5) 7 = false ∧
    ((((grp { plan := [p] } 4).wflOf 7).plan.all fun e => decide (e.tick ≤ (grp { plan := [p] } 4).now)) = true) ∧
    (0 : Fin 256).val = 0 ∧ (255 : Fin 256).val ≠ 0 ∧ (st [(WFL.HREQ_BUSY 7, 1)]).on (WFL.HREQ_BUSY 7) = true ∧ State.reset.on (WFL.HREQ_BUSY 7) = false ∧
    (∀ x ∈ State.reset.scd.errsPrev, x.1 = 2 → x.2.1 ≠ 7) ∧
    (let s : State := { State.reset with scd.errsPrev := [(2, 7, unit0 0)] };
      (∃ x ∈ s.scd.errsPrev, x.1 = 2 ∧ x.2.1 = 7) ∧ s.on (SCD.LANE_MAP_PENDING 2) = false ∧ s.on (SCD.LANE_MAP_REMAPPED 2) = false ∧
      s.on (SCD.LANE_MAP_EXHAUSTED 2) = false) ∧
    (State.reset.groupOn 7 && State.reset.laneUsable 7 0) = false ∧
    ((grp { good := 255 } 0 (st [(WFL.LANE_EN_EN 7, 255)])).groupOn 7 && (grp { good := 255 } 0 (st [(WFL.LANE_EN_EN 7, 255)])).laneUsable 7 1) = true :=
  ⟨by decide, runs_of (by decide), by decide +kernel⟩

theorem wit_MemoryChannels : Runs State.reset ∧ State.reset.boot.train = false ∧
    ({ State.reset with boot.train := true } : State).boot.train = true ∧
    (∀ k < 4, ({ State.reset with boot.train := true } : State).on (MEM.STAT_FAILED k) = false) ∧
    populated (List.replicate 4 { dimms := 2 }) 3 = true ∧ (8 : BitVec 4).getLsbD 3 = true ∧
    populated [{ dimms := 1 }, { dimms := 2 }, { dimms := 1, part := 9 }] 2 = false ∧ populated [{ dimms := 1 }, { dimms := 2 }] 1 = true ∧
    (st [(MEM.STAT_FAILED 3, 1)]).on (MEM.STAT_FAILED 3) = true ∧ hottest ([[], [], [], [86, 96]].getD 3 []) = some 96 ∧
    hottest ([[], [], [], [86, 96]].getD 0 []) = none :=
  ⟨runs_of (by decide), by decide +kernel⟩

/-- A host whose decoder 0 maps the first 4 GiB of 16 GiB of device memory at 0, and decoder 1 the snapshot window at 1 TiB. -/
def hosted (s : State) : State := { s with host.decs := (Vector.replicate 2 none).set 0 (some ⟨0, 2 ^ 35, 0⟩) |>.set 1 (some ⟨2 ^ 40, 2 ^ 28, windowBase⟩) }

theorem wit_HostMemory : let r : List (Fld × Nat) := [(CXL0.LINK_STAT_MEM_EN, 1), (CXL0.LINK_STAT_STATE, 0), (LTH.MEM_SIZE_MIB, 16384), (LTH.LATH_BASE_ADDR, 1),
        (LTH.REG_BASE_ADDR 5, 2048), (LTH.REG_SIZE_MIB 5, 16)]
    let s := hosted (st r)
    s.dark = false ∧ State.reset.on CXL0.LINK_STAT_MEM_EN = false ∧ (st [(CXL0.LINK_STAT_STATE, 2)]).linkUp = false ∧ s.decode (2 ^ 36) = none ∧
    (s.on CXL0.LINK_STAT_MEM_EN = true ∧ s.linkUp = true ∧ s.inHold = false) ∧ (hosted (st ((PWR.STATE_STATE, 2) :: r))).inHold = true ∧
    (s.decode (2 ^ 34) = some (2 ^ 34) ∧ 2 ^ 34 < windowBase ∧ s.memSize ≤ 2 ^ 34) ∧
    (s.decode 0 = some 0 ∧ 0 < s.memSize ∧ s.regionOf 0 = none ∧ (s.inRegion 2 0 64 || s.inRegion 5 0 64) = false) ∧
    (s.decode (2 ^ 40) = some windowBase ∧ windowBase ≤ windowBase) ∧
    (s.decode (2 ^ 31 + 63) = some (2 ^ 31 + 63) ∧ s.decode ((2 ^ 31 + 63) / 64 * 64) = some (2 ^ 31) ∧ s.regionOf (2 ^ 31) ≠ none ∧
      (s.inRegion 2 (2 ^ 31) 64 || s.inRegion 5 (2 ^ 31) 64) = true ∧ s.chanFailed (channelOf (2 ^ 31)) = false) ∧
    (s.readBursts [] (2 ^ 31) 1).any BurstRead.bad = false ∧
    ((hosted (st ((LTH.MEM_SIZE_FAILED, 15) :: r))).readBursts [] (2 ^ 31) 1).any BurstRead.bad = true := by decide +kernel

theorem wit_Thermal : let p : State := { State.reset with hkp.pulse := some (11, true), hkp.evalDue := true }
    Runs State.reset ∧ ({ State.reset with hkp.pulse := none } : State).hkp.pulse = none ∧ p.hkp.pulse = some (11, true) ∧
    State.reset.hkp.evalDue = false ∧ p.hkp.evalDue = true ∧ p.rd THM.TSTAT_LEVEL ≤ 4 ∧ p.step128 = 0 ∧ p.tick = 0 ∧
    (st [(SCD.TICK_POS_TICK, 128)]).step128 = 0 ∧ (st [(SCD.TICK_POS_TICK, 128)]).tick ≠ 0 :=
  ⟨runs_of (by decide), by decide +kernel⟩

theorem wit_ThermalShutdown : let s (n : Nat) : State := { State.reset with hkp.shut := n }
    let op : FlashOp := { src := .cal, area := 7, body := [] }
    let d : State := { State.reset with dark := true, boot.ops := [op] }
    d.dark = true ∧ d.boot.ops ≠ [] ∧ (s 0).dark = false ∧ (s 0).hkp.shut ≠ 1 ∧ (s 1).hkp.shut = 1 ∧ (s 1).hkp.shut ≠ 2 ∧ (s 2).hkp.shut = 2 ∧
    (s 2).boot.ops = [] ∧ ({ s 2 with boot.ops := [op] } : State).boot.ops.isEmpty = false ∧
    (let t := st [(TWN.CFG_TWIN_EN, 1), (TWN.STAT_ROLE, 1)] (s 1); t.hkp.shut = 1 ∧ t.twinEn = true ∧ t.role = 1) := by decide +kernel

theorem wit_CalibrationCommands : Runs State.reset ∧ (0 : Fin 256).val = 0 ∧ (255 : Fin 256).val ≠ 0 ∧ (15 : Fin 16).val ≠ 0 ∧
    (st [(CAL.STORE_BUSY, 1)]).on CAL.STORE_BUSY = true ∧ State.reset.on CAL.STORE_BUSY = false ∧ State.reset.dark = false ∧
    (∃ h : Head, hasBit (128 : Fin 256).val h.val = true ∧ hasBit ((st [(CAL.BUSY_KINDS, 0xF0000000)]).rd CAL.BUSY_KINDS) (4 * h.val) = true) :=
  ⟨runs_of (by decide), by decide +kernel⟩

theorem wit_CalibrationRuns : let s (x : CalHead) (n : Nat) (k : Nat) : State :=
      { st [(CAL.BUSY_KINDS, k)] with now := n, cal.heads := (Vector.replicate 8 {}).set 7 x }
    State.reset.dark = false ∧ hasBit (State.reset.calBusy 7) 1 = false ∧ ((s { rfe := 33 } 9 0xF0000000).calOf 7).rfe = 33 ∧ ((s { rfe := 15 } 9 0).calOf 7).rfe < 16 ∧
    (∀ x ∈ [({ rfe := 16, twice := true } : CalHead), { rfe := 32, twice := true }, { rfe := 16 }],
      hasBit ((s x 9 0xF0000000).calBusy 7) 1 = true ∧ 16 ≤ ((s x 9 0xF0000000).calOf 7).rfe ∧ ((s x 9 0xF0000000).calOf 7).rfe ≠ 33) ∧
    (∀ x ∈ [({ skew := 16, twice := true, skewAt := [1, 8] } : CalHead), { skew := 32, twice := true, skewAt := [1, 4, 8] }, { skew := 16, skewAt := [1, 8] }],
      hasBit ((s x 9 0xF0000000).calBusy 7) 3 = true ∧ 16 ≤ ((s x 9 0xF0000000).calOf 7).skew ∧ ((s x 9 0xF0000000).calOf 7).skew ≠ 33 ∧
      ((s x 9 0xF0000000).calOf 7).skewAt.getLastD 0 < 9) ∧
    (s { skew := 16, skewAt := [1, 9] } 9 0).now ≤ ((s { skew := 16, skewAt := [1, 9] } 9 0).calOf 7).skewAt.getLastD 0 ∧
    State.reset.cal.primer = none ∧
    (let p : State := { st [(CAL.PEND_KINDS, 0xAAAAAAAA)] with cal.primer := some 0 };
      p.cal.primer ≠ none ∧ p.rd CAL.BUSY_KINDS = 0 ∧ p.rd CAL.PEND_KINDS &&& 0x55555555 = 0 ∧ hasBit p.cal.stored 7 = false) := by decide +kernel

theorem wit_SafetyConfiguration : Runs State.reset ∧ State.reset.safState ≠ 1 ∧
    (let s := st [(SAF.STAT_STATE, 1), (SAF.FLOAD_BUSY, 1)]; s.safState = 1 ∧ s.on SAF.FLOAD_BUSY = true) ∧
    (let s := st [(SAF.STAT_STATE, 1)]; s.safState = 1 ∧ s.on SAF.FLOAD_BUSY = false ∧ s.on SAF.FLOAD_FLASH = false ∧
      s.memSize < s.rd SAF.FL_ADDR_ADDR * 4096 + fieldLen) ∧
    (st [(SAF.MODE_STORE_BUSY, 1)]).on SAF.MODE_STORE_BUSY = true ∧
    (State.reset.on SAF.MODE_STORE_BUSY = false ∧ State.reset.saf.confImg = none) ∧
    (let s : State := { State.reset with saf.confImg := some {}, saf.confirmed := some 0 }; s.saf.confImg ≠ none ∧ s.saf.confirmed ≠ none) :=
  ⟨runs_of (by decide), by decide +kernel⟩

theorem wit_IslandFaults : let up : State := { st [(SAF.STAT_STATE, 1), (SAF.EMIT_REQ, 1)] with now := 300 }
    Runs State.reset ∧ Runs up ∧ (st [(SAF.STAT_STATE, 1)]).safState ≠ 0 ∧ (st [(CTL.BOOT_STAT_STAGE, 7)]).rd CTL.BOOT_STAT_STAGE = 7 ∧
    (State.reset.safState = 0 ∧ State.reset.rd CTL.BOOT_STAT_STAGE ≠ 7 ∧ hasBit (State.reset.rd SAF.FAULT_SELFTEST) 0 = false ∧
      hasBit (State.reset.rd SAF.FAULT_CLOCK) 0 = false) ∧
    hasBit ((st [(SAF.FAULT_SELFTEST, 1)]).rd SAF.FAULT_SELFTEST) 0 = true ∧ hasBit ((st [(SAF.FAULT_CLOCK, 1)]).rd SAF.FAULT_CLOCK) 0 = true ∧
    State.reset.on SAF.EMIT_REQ = false ∧ (up.on SAF.EMIT_REQ = true ∧ up.saf.emitOk = false ∧ up.emitAllowed = true ∧ hasBit (up.rd SAF.FAULT_EMIT) 0 = false) ∧
    ({ up with saf.emitOk := true } : State).saf.emitOk = true ∧ ({ up with now := 299 } : State).emitAllowed = false ∧
    false = State.reset.on SAF.EMIT_HS_EN ∧ true ≠ State.reset.on SAF.EMIT_LS_EN :=
  ⟨runs_of (by decide), runs_of (by decide), by decide +kernel⟩

/-- A readback that stands low for all 10 ms is that of a channel that is off. -/
theorem low_throughout : State.reset.readbackGood 1 true [(0, 10000)] = true := by
  have h : ∀ (l : List Nat) (k : Nat), (∀ i ∈ l, i < 10000) →
      (l.foldl (fun (m : Nat × Nat) i => if lowAt [(0, 10000)] (0 + i) != true then (m.1 + 1, max m.2 (m.1 + 1)) else (0, m.2)) (0, k)).2 = k := by
    intro l
    induction l with
    | nil => intro k _; rfl
    | cons a l ih =>
      intro k ha
      have : lowAt [(0, 10000)] a = true := by simpa [lowAt] using ha a (.head _)
      simpa [this] using ih k fun i hi => ha i (.tail _ hi)
  have : longest [(0, 10000)] true 0 10000 = 0 := h _ 0 fun i hi => List.mem_range.1 hi
  simp only [State.readbackGood, this]
  decide

theorem wit_SafetyEvaluation :
    let s : State := { st [(SAF.STAT_STATE, 2), (SCD.TICK_POS_TICK, 129)] with saf.concluded := false, saf.img := some {}, saf.prev := { set := some 15 } }
    Runs s ∧ State.reset.readbackGood 1 true [(0, 10000)] = true ∧ (∃ n < 4, s.rd (SAF.INCFG_FUNC n) = 0) ∧ (st [(SAF.INCFG_FUNC 3, 1)]).rd (SAF.INCFG_FUNC 3) ≠ 0 ∧
    ({ State.reset with saf.chB := 2 } : State).readbackGood 1 true [] = false ∧
    State.reset.safState ≠ 2 ∧ State.reset.saf.concluded = true ∧ State.reset.step128 ≠ 1 ∧
    (s.safState = 2 ∧ s.saf.concluded = false ∧ s.step128 = 1 ∧ s.saf.prev.set = some 15 ∧ s.saf.img = some {} ∧ s.saf.prev.empty = false) :=
  ⟨runs_of (by decide), low_throughout, by decide +kernel⟩

/-- A telegram of 32 bytes that names CONN_ID 0, with the last word given. -/
def tel (w : Nat) : List Byte := List.replicate 28 0 ++ leBytes 4 w

/-- A device whose connection 15 sends and receives on port 3, and the same in tick `n` after a telegram accepted in tick 5. -/
def conn15 : State := st [(SAF.CONN_CFG_EN 15, 1), (SAF.CONN_CFG_TRANSPORT 15, 1), (SAF.CONN_CFG_PORT 15, 3), (SAF.CONN_CFG_ROLE 15, 1), (SAF.CONN_STAT_STATE 15, 1), (SAF.CONN_TIM_WDOG 15, 2)]
def heard (n : Nat) : State := { conn15 with now := n, saf.conns := (Vector.replicate 16 {}).set 15 { last := some 1, accAt := 5 } }

theorem wit_SafetyTelegrams :
    Runs conn15 ∧ State.reset.connFor none (subBytes (tel 0) 0 32) = none ∧ conn15.connFor (some 3) (subBytes (tel 0) 0 32) = some 15 ∧ conn15.rd (SAF.CONN_STAT_STATE 15) ≠ 0 ∧
    u32 (subBytes (tel 0) 0 32) 0x1C ≠ crc32c ((subBytes (tel 0) 0 32).take 28) ∧
    State.reset.on (SAF.CONN_CFG_EN 15) = false ∧ (st [(SAF.CONN_CFG_ROLE 15, 2)]).rd (SAF.CONN_CFG_ROLE 15) % 2 = 0 ∧
    (conn15.on (SAF.CONN_CFG_EN 15) = true ∧ conn15.rd (SAF.CONN_CFG_ROLE 15) % 2 = 1 ∧ conn15.saf.conns[(15 : Fin 16)].txAt = none ∧ conn15.on (SAF.CONN_CFG_TRANSPORT 15) = true) ∧
    (st [(SAF.CONN_CFG_EN 15, 1)]).on (SAF.CONN_CFG_TRANSPORT 15) = false ∧
    ((heard 24).rd (SAF.CONN_STAT_STATE 15) = 1 ∧ (heard 24).saf.conns[(15 : Fin 16)].last ≠ none ∧
      (heard 24).now < (heard 24).saf.conns[(15 : Fin 16)].accAt + 10 * (heard 24).rd (SAF.CONN_TIM_WDOG 15) ∧
      (heard 25).saf.conns[(15 : Fin 16)].accAt + 10 * (heard 25).rd (SAF.CONN_TIM_WDOG 15) ≤ (heard 25).now ∧ (heard 25).rd (SAF.CONN_CFG_REACT 15) = 0) :=
  ⟨runs_of (by decide), by decide +kernel⟩

/-- A message of the partner of a kind and a role, with its check. -/
def twinMsg (kind role : Byte) : List Byte := let b := kind :: role :: List.replicate 90 0; b ++ leBytes 4 (crc32c b)

/-- The twin of a pair in a role, with fields set. -/
def twin (role : Nat) (l : List (Fld × Nat) := []) (s : State := State.reset) : State := st ([(TWN.CFG_TWIN_EN, 1), (TWN.STAT_ROLE, role)] ++ l) s

theorem wit_TwinSigns : let m : State := { twin 1 with twn.msgAt := some 0, twn.aliveAt := some 0, twn.msg := some ⟨2, 4, 0, 0, 0, 0, 0, 0⟩ }
    let late : State := { twin 1 [(TWN.STAT_LINK, 1)] with now := 10, twn.msgAt := some 0 }
    State.reset.dark = false ∧ State.reset.twinEn = false ∧ twinValid [] = false ∧ (twin 2).twinEn = true ∧ twinValid (twinMsg 3 1) = true ∧
    u8 (twinMsg 3 1) 0 = 3 ∧ (twin 2).role = 2 ∧ (twin 1).role = 1 ∧ (twin 3 [(SCD.ACTIVE_HEAD_MASK, 0x80)]).role ≠ 1 ∧
    hasBit ((twin 3 [(SCD.ACTIVE_HEAD_MASK, 0x80)]).headMask) 7 = true ∧
    hasBit (hdrHeadMask ({ twin 2 with twn.ret.hdr := List.replicate 12 0 ++ [0x80] } : State).twn.ret.hdr) 7 = true ∧
    (late.twinEn = true ∧ late.role = 1 ∧ late.portPresent = false ∧ late.on TWN.STAT_LINK = true) ∧
    (m.twinEn = true ∧ m.portPresent = true ∧ m.alivePresent = true ∧ (m.twn.msg.any fun m => hasBit m.flags 2) = true ∧ m.role = 1) ∧
    State.reset.portPresent = false ∧ (State.reset.twn.msg.any fun m => hasBit m.flags 2) = false ∧
    State.reset.on TWN.CKPT_STAT_BUSY = false ∧ (st [(TWN.CKPT_STAT_BUSY, 1)]).on TWN.CKPT_STAT_BUSY = true ∧ State.reset.inRegion 4 0 1 = false := by
  decide +kernel

theorem wit_Takeover : let due : State := { twin 2 [(PWR.STATE_STATE, 2)] with twn.relinq := true, twn.ret.hdr := List.replicate 12 0 ++ [0x81] }
    let take : State := { twin 4 [(MEM.STAT_TRAINED 3, 1)] with twn.takeAt := some 0 }
    due.dark = false ∧ State.reset.takeoverDue = false ∧ (twin 2 [(THM.LATCH_INFO_LATCHED, 1)]).latched = true ∧
    (due.takeoverDue = true ∧ due.latched = false ∧ (0x81 : BitVec 8).toNat &&& (hdrHeadMask due.twn.ret.hdr % 256) = hdrHeadMask due.twn.ret.hdr % 256 ∧
      (0x01 : BitVec 8).toNat &&& (hdrHeadMask due.twn.ret.hdr % 256) ≠ hdrHeadMask due.twn.ret.hdr % 256) ∧
    State.reset.twn.takeAt = none ∧ ({ take with boot.train := true } : State).boot.train = true ∧ due.role ≠ 4 ∧
    (take.twn.takeAt = some 0 ∧ take.role = 4 ∧ take.boot.train = false ∧ ∃ c < 4, take.on (MEM.STAT_TRAINED c) = true) := by
  decide +kernel

/-- A device of a pair in role `r` that could measure from the frame boundary that has come. -/
def ready (r : Nat) (l : List (Fld × Nat) := []) : State :=
  { twin r ([(SCD.ACTIVE_HEAD_MASK, 0x81), (MEM.STAT_TRAINED 0, 1), (SAF.STAT_STATE, 1)] ++ l) with now := 512 }

theorem wit_RoleAtStart : let p : State := { ready 0 with twn.msgAt := some 512, twn.msg := some ⟨1, 0, 0, 0, 0, 0, 0, 0⟩ }
    let own : State := { p with regs := (p.wr TWN.CAUSE_CODE 1).regs }
    let wait (n : Nat) : State := { twin 2 [(PWR.STATE_STATE, 2), (TWN.CFG_START_ROLE, 1)] with now := n, twn.readyAt := some 5 }
    State.reset.dark = false ∧ State.reset.twinEn = false ∧ ({ ready 0 with twn.chosen := true } : State).twn.chosen = true ∧
    (ready 0 [(THM.LATCH_INFO_LATCHED, 1)]).latched = true ∧ ({ ready 0 with now := 0 } : State).readyToMeasure = false ∧
    ((ready 0).twinEn = true ∧ (ready 0).twn.chosen = false ∧ (ready 0).latched = false ∧ (ready 0).readyToMeasure = true ∧ (ready 0).role ≠ 2 ∧
      ((ready 0).portPresent && (ready 0).twn.msg.any fun m => m.role == 1) = false ∧ (ready 0).on TWN.CFG_START_ROLE = false ∧ (ready 0).barred = false ∧
      ((0x81 : BitVec 8).toNat &&& (ready 0).headMask) = (ready 0).headMask ∧ ((0x80 : BitVec 8).toNat &&& (ready 0).headMask) ≠ (ready 0).headMask) ∧
    (ready 0 [(TWN.CFG_START_ROLE, 1)]).on TWN.CFG_START_ROLE = true ∧ ({ ready 0 with twn.quietAt := some 502 } : State).barred = true ∧
    ((p.portPresent && p.twn.msg.any fun m => m.role == 1) = true ∧ p.readyToMeasure = true ∧ p.role ≠ 2 ∧ p.rd TWN.CAUSE_CODE = 0) ∧
    (own.rd TWN.CAUSE_CODE ≠ 0 ∧ own.rd TWN.CAUSE_CODE ≠ 8 ∧ own.on TWN.CAUSE_PERMANENT = false ∧ own.readyToMeasure = true) ∧
    State.reset.twn.readyAt = none ∧ (wait 10004).now < 5 + 10000 ∧
    ((wait 10005).twn.readyAt = some 5 ∧ 5 + 10000 ≤ (wait 10005).now ∧ (wait 10005).twinEn = true ∧ (wait 10005).role = 2 ∧ (wait 10005).inHold = true ∧
      (wait 10005).latched = false ∧ (wait 10005).on TWN.CFG_START_ROLE = true ∧ (wait 10005).twn.msgAt = none ∧ (wait 10005).twn.aliveAt = none ∧
      (wait 10005).barred = false) := by
  decide +kernel

theorem wit_Handover : let g (r n : Nat) : State := { twin r [(SCD.ACTIVE_HEAD_MASK, 1)] with now := n, twn.grant := some (5, [], []) }
    let o : State := { g 1 8 with twn.released := true }
    let f (n : Nat) : State := { twin 5 [(TWN.CTRL_AUTO_WARM, 1)] with now := n, twn.quietAt := some 0 }
    State.reset.dark = false ∧ State.reset.twinEn = false ∧ (twin 2).role ≠ 1 ∧ (twin 1).causeStands 5 = false ∧
    (let s := twin 1 [(LTH.MEM_SIZE_FAILED, 1), (TWN.CTRL_DEGR_HANDOVER, 1), (SAF.FAULT_CLOCK, 1)];
      s.twinEn = true ∧ s.role = 1 ∧ s.causeStands 5 = true ∧ s.causeStands 3 = true) ∧
    State.reset.twn.grant = none ∧ (g 1 5).twn.grant = some (5, [], []) ∧ ((g 1 5).role = 1 ∧ 5 = (g 1 5).now) ∧
    ((g 3 5).role = 3 ∧ 5 = (g 3 5).now ∧ (g 3 5).barred = false ∧ ((1 : BitVec 8).toNat &&& (g 3 5).headMask) = (g 3 5).headMask) ∧
    (o.role = 1 ∧ o.twn.released = true ∧ 5 + 3 ≤ o.now ∧ o.twn.quietAt = none) ∧
    (st [(THM.LATCH_INFO_LATCHED, 1)]).latched = true ∧ (State.reset.latched = false ∧ ¬ (State.reset.role = 2 ∧ State.reset.inHold = true)) ∧
    ((twin 2 [(PWR.STATE_STATE, 2)]).role = 2 ∧ (twin 2 [(PWR.STATE_STATE, 2)]).inHold = true) ∧
    (∀ n ∈ [99, 100], ((f n).twinEn && (f n).role == 5 && (f n).on TWN.CTRL_AUTO_WARM && !(f n).on TWN.CAUSE_PERMANENT &&
      ((f n).twn.quietAt.any fun t => decide (t + 100 ≤ (f n).now))) = decide (100 ≤ n)) := by
  decide +kernel

theorem wit_HostLink : State.reset.dark = false ∧ linkLegal 6 16 true true true = true ∧ linkLegal 7 16 true true true = false ∧
    linkLegal 1 4 false false false = true ∧ linkLegal 0 4 false false false = false := by decide

theorem wit_HostResets : State.reset.dark = false ∧ ∃ f ∈ Page.ctl.fields, f ≠ HDR.STAT_COMMIT_PENDING .ctl ∧ f.key ∉ eventKeys ∧
    keptOver .host .ctl f = true := by decide +kernel

/-- A device whose link carries traffic, with fields set. -/
def up (l : List (Fld × Nat) := []) : State := st ([(CXL0.LINK_STAT_STATE, 0), (CXL0.LINK_STAT_CXL, 1), (CXL0.LINK_STAT_CACHE_EN, 1)] ++ l)

theorem wit_HostTraffic : State.reset.dark = false ∧ (State.reset.host.biOut.contains 5 = false) ∧
    ({ up with host.biOut := [5] } : State).host.biOut.contains 5 = true ∧ (st [(CXL0.LINK_STAT_STATE, 2)]).linkUp = false ∧ up.linkUp = true ∧
    up.saf.doeQ = [] ∧ ({ up with saf.doeQ := [(1, [2])] } : State).saf.doeQ = (1, [2]) :: [] ∧ ([1] : List Byte) ≠ [] ∧
    (doeTypes 1)[0]?.isSome = true ∧ (doeTypes 1)[99]? = none := by decide +kernel

/-- An event record. -/
def event : EventRec := { seq := 0, block := 0, inst := 0, bit := 0, qual := 0, epoch := 0, args := [], dtime := 0, pos := 0, part := 0, cells0 := 0, cells1 := 0 }

theorem wit_Events : Runs State.reset ∧ ({ State.reset with host.evq := List.replicate 255 event } : State).host.evq.length < 256 ∧
    256 ≤ ({ State.reset with host.evq := List.replicate 256 event } : State).host.evq.length ∧
    ([(0, 0, 0, 0)] ≠ ([] : List (Nat × Nat × Nat × Nat)) ∧
      ({ State.reset with host.evq := List.replicate 255 event } : State).host.evq.length + [((0, 0, 0, 0) : Nat × Nat × Nat × Nat)].length ≤ 256) :=
  ⟨runs_of (by decide), by decide +kernel⟩

theorem wit_CommandRing : let s := up [(CXL1.CMD_SIZE_SIZE, 1), (CXL1.CMD_WR_IDX, 1)]
    let e (w : Nat) : CmdEnt := { bytes := [3, 0, 0, 0, 0, 0, 0, 0] ++ leBytes 4 w ++ List.replicate 52 0 }
    let at3 (w : Nat) : State := { s with host.cmd := some (e w) }
    Runs s ∧ s.cmdCap < ((65 : BitVec 32).toNat + 2 ^ 32 - s.rd CXL1.CMD_RD_IDX) % 2 ^ 32 ∧ ((64 : BitVec 32).toNat + 2 ^ 32 - s.rd CXL1.CMD_RD_IDX) % 2 ^ 32 ≤ s.cmdCap ∧
    State.reset.cacheUp = false ∧ (at3 0).host.cmd ≠ none ∧ State.reset.rd CXL1.CMD_WR_IDX = State.reset.rd CXL1.CMD_RD_IDX ∧ State.reset.cmdCap = 0 ∧
    (s.cacheUp = true ∧ s.host.cmd = none ∧ s.rd CXL1.CMD_WR_IDX ≠ s.rd CXL1.CMD_RD_IDX ∧ s.cmdCap ≠ 0) ∧
    (∀ w ∈ [0, 1], (at3 w).host.cmd = some (e w) ∧ (e w).ended = false ∧ u8 (e w).bytes 0 = 3 ∧ (e w).bytes.length = 64 ∧
      (at3 w).waitOver (u32 (e w).bytes 8) = (w == 0)) ∧ (st [(CXL1.CMD_STAT_WAITING, 1)] (at3 0)).on CXL1.CMD_STAT_WAITING = true ∧
    (s.host.cmd.all fun c => !c.ended) = true ∧ ({ s with host.cmd := some { bytes := [], ended := true } } : State).host.cmd = some { bytes := [], ended := true } :=
  ⟨runs_of (by decide), by decide +kernel⟩

theorem wit_Attestation : let s (n : Nat) (l : List (Nat × Bool)) (stale : Bool) : State := { up with host.spdm.stage := n, host.spdm.sessions := l, host.spdm.stale := stale, host.spdm.ide := 2 }
    (s 0 [] false).dark = false ∧ (s 0 [] false).inHold = false ∧ (st [(CXL0.LINK_STAT_STATE, 2)]).linkUp = false ∧ (s 0 [] false).linkUp = true ∧
    (∀ n ∈ [1, 2, 3], (s n [] false).host.spdm.stage = n) ∧ (s 3 [] false).host.spdm.sessions.length < 4 ∧
    4 ≤ (s 3 (List.replicate 4 (0, true)) false).host.spdm.sessions.length ∧ 6 ∈ blockIndices ∧ 99 ∉ blockIndices ∧
    (s 3 [] true).host.spdm.stale = true ∧ (s 3 [] false).host.spdm.stale = false ∧ (7, false) ∈ (s 3 [(7, false)] false).host.spdm.sessions ∧
    (7, false) ∉ (s 3 [(7, true)] false).host.spdm.sessions ∧ (s 3 [(7, true)] false).session 7 = true ∧ (s 3 [(7, false)] false).session 7 = false ∧
    hasBit (s 3 [] false).host.spdm.ide 1 = true ∧ hasBit (s 3 [] false).host.spdm.ide 0 = false := by
  decide +kernel

/-- A Gosia port 2 that is an up link at full width, with what it holds. -/
def linked2 (x : PortSt) (l : List (Fld × Nat) := []) : State :=
  { st ([(GSL.PORT_CFG_EN 2, 1), (GSL.PORT_STAT_UP 2, 1), (GSL.PORT_STAT_WIDTH 2, 4)] ++ l) with
    now := 2000, gsl.ports := (Vector.replicate 4 {}).set 2 x }

/-- A parcel of 16 bytes of a type with an LSEQ and its check. -/
def parcel (ty : Byte) (seq : Nat) : List Byte := let b := [ty, 0, 0, 0, 0, 0] ++ leBytes 2 seq ++ [0, 0, 0, 0]; b ++ leBytes 4 (crc32c b)

theorem wit_FabricPorts :
    let bad (b : List Byte) : Prop := b.length < 16 ∨ u32 b (b.length - 4) ≠ crc32c (b.take (b.length - 4)) ∨ u16 b 8 + 16 ≠ b.length
    let s := linked2 {}
    let r (k : Nat) : PortSt := { buf := [(4, []), (5, [])], unacked := 1, replayOf := some 5, replays := k }
    let eighth (p : PortSt) : Prop := p.replayOf = some ((((p.buf.drop (p.buf.length - p.unacked)).head?.map Prod.fst)).getD 0) ∧ 8 ≤ p.replays + 1
    Runs s ∧ State.reset.linked 2 = false ∧ (State.reset.portOn 2 && State.reset.on (GSL.PORT_CFG_PRBS 2)) = false ∧
    (linked2 {} [(GSL.PORT_CFG_PRBS 2, 1)]).linked 2 = false ∧ ((linked2 {} [(GSL.PORT_CFG_PRBS 2, 1)]).portOn 2 && (linked2 {} [(GSL.PORT_CFG_PRBS 2, 1)]).on (GSL.PORT_CFG_PRBS 2)) = true ∧
    s.linked 2 = true ∧ ¬ bad (parcel 6 0) ∧ u8 (parcel 6 0) 0 = 6 ∧ bad [] ∧ ¬ bad (parcel 1 9) ∧ u8 (parcel 1 9) 0 ≠ 6 ∧
    (u16 (parcel 1 0) 6 % 4096 + 4096 - (s.port 2).rxSeq) % 4096 = 0 ∧ (u16 (parcel 1 9) 6 % 4096 + 4096 - (s.port 2).rxSeq) % 4096 = 9 ∧
    (s.port 2).unacked = 0 ∧ ((s.port 2).nak || false) = false ∧ ((linked2 (r 7)).linked 2 = true ∧ ((linked2 (r 7)).port 2).unacked ≠ 0 ∧
      (((linked2 (r 7)).port 2).nak || true) = true ∧ eighth ((linked2 (r 7)).port 2) ∧ ¬ eighth ((linked2 (r 6)).port 2)) ∧
    (s.port 2).want = false ∧ (s.portOn 2 = true ∧ ((linked2 { want := true }).port 2).want = true) ∧
    (((linked2 { downAt := some 1000 }).port 2).downAt = some 1000 ∧ 1000 + 1000 ≤ (linked2 { downAt := some 1000 }).now) ∧ (s.port 2).downAt = none ∧
    (s.on (GSL.PORT_STAT_TRUNK 2) = false ∧ 3 < s.rd (GSL.PORT_STAT_WIDTH 2)) ∧ (linked2 {} [(GSL.PORT_STAT_TRUNK 2, 1)]).on (GSL.PORT_STAT_TRUNK 2) = true :=
  ⟨runs_of (by decide), by decide +kernel⟩

theorem wit_FabricDomain : let d : DevSt := { id := 9, seen := 1800, key := 0, hops := [], isMaster := false, master := none, epoch := 0, change := false }
    let s : State := { linked2 {} with gsl.devs := [d], gsl.trigs := [(9, 0)] }
    Runs s ∧ State.reset.fabricPort 2 = false ∧ (twin 3).fabricRole = false ∧ s.fabricPort 2 = true ∧ s.fabricRole = true ∧
    (∃ src : BitVec 14, src.toNat = s.domainId) ∧ (9 : BitVec 14).toNat ≠ s.domainId ∧ s.gsl.trigs.contains (9, u16 [] 0) = true ∧ s.gsl.trigs.contains (9, u16 [1] 0) = false ∧
    s.dev 8 = none ∧ s.dev 9 = some d ∧ ({ s with now := 1999 } : State).now < d.seen + 200 ∧ d.seen + 200 ≤ s.now :=
  ⟨runs_of (by decide), by decide, by decide, by decide, by decide, ⟨BitVec.ofNat 14 (linked2 {}).domainId, by decide⟩, by decide +kernel⟩

theorem wit_DomainTime : let m : State := { st [(GSL.MEMB_IS_MASTER, 1), (TIM.DISC_PPS_EN, 1)] with now := 25000 }
    Runs m ∧ State.reset.fabricPort 2 = false ∧ (linked2 {}).fabricPort 2 = true ∧ (linked2 {}).fabricRole = true ∧
    (!State.reset.on GSL.MEMB_IS_MASTER || !State.reset.on TIM.DISC_PPS_EN || true == State.reset.on TIM.DISC_PPS_FALL) = true ∧
    (!m.on GSL.MEMB_IS_MASTER || !m.on TIM.DISC_PPS_EN || true == m.on TIM.DISC_PPS_FALL) = false ∧
    2 ≤ (st [(TIM.DSTAT_STATE, 2)]).rd TIM.DSTAT_STATE ∧ State.reset.referenceGone = false ∧
    ((st [(TIM.DSTAT_STATE, 1)] m).rd TIM.DSTAT_STATE ≤ 1 ∧ (st [(TIM.DSTAT_STATE, 1)] m).referenceGone = true) ∧
    (st [(TIM.XTAL_STAT_FAIL, 1)]).on TIM.XTAL_STAT_FAIL = true ∧ State.reset.on TIM.XTAL_STAT_FAIL = false :=
  ⟨runs_of (by decide), by decide +kernel⟩

/-- A device with an open record, one of whose streams has ended or not. -/
def recording (ended : Bool) : State :=
  { State.reset with dst.opn := some { trig := { src := 2, pos := 0 }, time := 0, tick := 0, frame := 0, epoch := 0, coinc := 0, single := true,
                                       streams := (Vector.replicate 4 none).set 3 (some { pre := 0, post := 0, ended := ended }) } }

theorem wit_DustSheet : Runs State.reset ∧ hasBit (State.reset.rd DST.TRIG_EN_SRC_EN) 2 = false ∧
    hasBit ((st [(DST.TRIG_EN_SRC_EN, 4)]).rd DST.TRIG_EN_SRC_EN) 2 = true ∧ State.reset.dst.opn = none ∧
    (recording false).dst.opn.any (fun r => (List.finRange 4).any fun k => r.streams[k].any fun o => !o.ended) = true ∧
    (recording true).dst.opn.any (fun r => (List.finRange 4).all fun k => r.streams[k].all fun o => o.ended) = true ∧
    State.reset.on DST.DSTAT_HOLD = false ∧
    (let s := st [(DST.DSTAT_HOLD, 1)]; s.on DST.DSTAT_HOLD = true ∧ (s.dst.events == 0 && decide (s.dst.after ≤ s.now * tickSmp + smpOfNs 0)) = true) ∧
    (let s : State := { st [(DST.DSTAT_HOLD, 1)] with dst.after := 1 }; (s.dst.events == 0 && decide (s.dst.after ≤ s.now * tickSmp + smpOfNs 0)) = false) :=
  ⟨runs_of (by decide), by decide +kernel⟩

theorem wit_DisplayLink : let t := st [(RND.LINK_STAT_STATE, 1), (RND.LINK_CFG_MAX_RATE, 2), (RND.LINK_CFG_MAX_LANES, 4)]
    let f : State := { st [(RND.LINK_STAT_STATE, 3), (RND.OUT_EN, 1)] with now := 10000, rnd.failAt := some 0 }
    Runs State.reset ∧ (st [(RND.AUX_CMD_BUSY, 1)]).on RND.AUX_CMD_BUSY = true ∧ State.reset.on RND.AUX_CMD_BUSY = false ∧
    State.reset.rnd.auxWait = false ∧ ({ State.reset with rnd.auxWait := true } : State).rnd.auxWait = true ∧ State.reset.training = false ∧ t.training = true ∧
    ((t.linkTries 2 4).find? fun x => [(2, 4)].contains x) = some (2, 4) ∧ ((t.linkTries 2 4).find? fun x => [].contains x) = none ∧
    State.reset.rd RND.LINK_STAT_STATE ≠ 3 ∧ State.reset.rnd.failAt = none ∧
    (f.rd RND.LINK_STAT_STATE = 3 ∧ f.rnd.failAt = some 0 ∧ 0 + 10000 ≤ f.now ∧ f.on RND.OUT_EN = true) ∧
    (st [(RND.LINK_STAT_HPD, 1)]).on RND.LINK_STAT_HPD = true ∧ State.reset.on RND.LINK_STAT_HPD = false :=
  ⟨runs_of (by decide), by decide +kernel⟩

theorem wit_DisplayRefresh : let w : State := { State.reset with commits := [{ page := .rnd, vals := [], due := .refresh }] }
    let f : State := { st [(RND.OUT_EN, 1), (RND.GL_CFG_EN, 1)] with now := 10000, rnd.lastEnd := some 0 }
    Runs f ∧ (State.reset.commits.any fun c => c.page == .rnd && c.due == .refresh) = false ∧ (w.commits.any fun c => c.page == .rnd && c.due == .refresh) = true ∧
    State.reset.on RND.OUT_EN = false ∧ f.on RND.OUT_EN = true ∧ (f.rnd.sigs.map Prod.fst).Nodup ∧ State.reset.rnd.lastEnd = none ∧
    (f.rnd.lastEnd = some 0 ∧ 0 * 100000 + 4 * f.refreshNs ≤ f.nsAt 0) ∧
    (!State.reset.on RND.OUT_EN || !State.reset.on RND.GL_CFG_EN || true != State.reset.on RND.GL_CFG_FALL) = true ∧
    (!f.on RND.OUT_EN || !f.on RND.GL_CFG_EN || false != f.on RND.GL_CFG_FALL) = false ∧ f.rnd.glEdge = none ∧
    f.rd RND.VTIM0_VACT ≤ f.rd RND.VTIM0_VACT ∧ 0 < f.rd RND.VTIM0_VACT ∧
    (([(0, 8, 0, 0)] : List (Nat × Nat × Nat × Nat)).any fun x => (st [(RND.OV_CFG_EN, 1)] f).lineNeeds 0 x.2.1 x.2.2.1 x.2.2.2) = true :=
  ⟨runs_of (by decide), by decide +kernel⟩

theorem wit_ControlComplex : let op : FlashOp := { src := .ctl, area := 2, body := [] }
    Runs (ready 0) ∧ (st [(CTL.BOOT_STAT_STAGE, 1)]).rd CTL.BOOT_STAT_STAGE ≠ 0 ∧ State.reset.boot.log = [] ∧
    (State.reset.rd CTL.BOOT_STAT_STAGE = 0 ∧ ({ State.reset with boot.log := [[]] } : State).boot.log ≠ []) ∧
    State.reset.readyToMeasure = false ∧ ((twin 2).twinEn = true ∧ (twin 2).role ≠ 1 ∧ (twin 2).role ≠ 3) ∧
    ((ready 1).readyToMeasure = true ∧ (ready 1).role = 1) ∧ State.reset.boot.ops = [] ∧ ({ State.reset with boot.ops := [op] } : State).boot.ops = op :: [] ∧
    (st [(CTL.LOCKSTEP_HELD, 1)]).on CTL.LOCKSTEP_HELD = true ∧ State.reset.on CTL.LOCKSTEP_HELD = false ∧
    (st [(TIM.XTAL_STAT_FAIL, 1)]).on TIM.XTAL_STAT_FAIL = true ∧ State.reset.on TIM.XTAL_STAT_FAIL = false ∧
    ({ State.reset with boot.bands := [(80, 7)] } : State).bandCode 5 = some 7 ∧
    ({ State.reset with boot.bandWritten := true } : State).boot.bandWritten = true ∧ State.reset.boot.bandWritten = false :=
  ⟨runs_of (by decide), by decide +kernel⟩

theorem wit_certificate : (2 ≤ Config.unlockWords → State.reset.boot.cert.length + 1 < Config.unlockWords) ∧
    Config.unlockWords ≤ ({ State.reset with boot.cert := List.replicate Config.unlockWords 0 } : State).boot.cert.length + 1 := by
  constructor
  · exact fun h => h
  · simp

theorem wit_PowerOnAndWarm : let l := st [(THM.LATCH_INFO_LATCHED, 1)]
    (l.latched && !false) = true ∧ (l.latched && !true) = false ∧ l.dark = false ∧ l.latched = true ∧
    (State.reset.dark = false ∧ State.reset.latched = false ∧ State.reset.on TIM.XTAL_STAT_FAIL = false) := by decide +kernel

theorem wit_CommitBoundary : let s : State := { State.reset with shadow := [((SCM.CAND_THRESH 0).key, 3)] }
    Runs s ∧ s.tick < 512 ∧ (lowestCode (s.commitCodes .scm)).1 = 0 ∧ pageShadowed .scm = true ∧ Page.scm ≠ .stp ∧
    (∀ f ∈ s.changed .scm, f.bnd ≠ .refresh ∧ f.bnd.rank ≤ 2) ∧ (∀ e ∈ s.stagedTabs .scm, e.1 ≠ .pal ∧ (tabBnd e.1).rank ≤ 2) ∧
    s.rd (HDR.COMMIT_AT_AT .scm) ≤ 2 ∧ ∃ f ∈ s.changed .scm, f.bnd.rank = 2 :=
  ⟨runs_of (by decide), by decide +kernel⟩

theorem wit_CandidatePeaks : let w : Win := { mtick := 5, head := 0, window := 0, col := 0, lit := 1, chEn := 1 }
    let s : State := { State.reset with wins := [w] }
    s.winOf (unit0 5) = some w ∧ (unit0 5).head < 8 ∧ (unit0 5).group < 8 ∧ ∀ j < 16, w.worked (16 * (unit0 5).group + j) = (j == 0) := by
  decide +kernel

theorem wit_RecordCheck : (List.replicate 15 (0 : Byte)).length = 15 ∧ (chkByte (List.replicate 15 0)).toNat = 0x5A := by decide

/-- Settings of Masking under which class 2 carries MARK, and two returns: canopy and the ground below it. -/
def maskCfg : MaskCfg :=
  { tol := 0, persMin := 1, sunConf := 8, chainMin := 9, alpha := 4, canW := 5, gndW := 3, chainW := 0, canSep := 100, canDepth := 100, canAge := 0, wxRange := 0,
    rainW := 0, dustW := 0, rainI := 0, dustI := 0, retro := 1, winMax := 0, dirtDegr := 0, policy := 4, rref := 1 }
def maskIn (sun : Bool) : MaskIn := { hist := [], fresh := false, ihist := 0, canA := 0, dOld := 16, winTot := 0, sun := sun, blind := false, members := [] }
def leaf : Ret := { range := 1000, width := 10, intens := 0, conf := 200, sat := false, wfm := false, edge := false, ampN := 0, ampD := 1, stops := [] }

theorem wit_MaskingLevels : ∀ sun ∈ [false, true], let o := maskMeas maskCfg (maskIn sun) [leaf, { leaf with range := 2000, width := 2 }]
    (o.rets.map fun r => (r.cls, policyOf maskCfg.policy r.cls, r.wfm, r.pc)) = [(2, 1, false, 0), (3, 0, false, 0)] ∧
    ((o.rets.any fun r => r.cls == 3 && r.wfm) = false ∧ maskCfg.canAge ≤ min 15 ((maskIn sun).canA + 1)) ∧ (maskIn sun).fresh = false ∧ 0 < maskCfg.persMin := by
  decide +kernel

/-! ## Single operations and commands, against values that the rules and the worked examples of the specification give -/

/-- The check value of CRC-32C over "123456789" (R304). -/
theorem test_crc32c : crc32c [0x31, 0x32, 0x33, 0x34, 0x35, 0x36, 0x37, 0x38, 0x39] = 0xE3069283 := by decide +kernel

/-- The two records of the worked example of 06_float_points.md. -/
theorem test_point_records :
    pointRecord 0x78658 0 1 2 6777 310 22 191 2 9 331 4660 = leBytes 4 0x02478658 ++ leBytes 4 0x13601A79 ++ leBytes 4 0x9002BF16 ++ leBytes 4 0xEE24694B ∧
    pointRecord 0x78658 1 1 3 7274 612 15 255 2 9 331 4660 = leBytes 4 0x03578658 ++ leBytes 4 0x26401C6A ++ leBytes 4 0x9002FF0F ++ leBytes 4 0xBE24694B := by
  decide +kernel

/-- The edge word, the fine time and the votes of the worked examples of 04_return_timing.md and 05_stipple_scrim_skim.md. -/
theorem test_stop : (mkEdge ⟨false, false, false, false⟩ 0 (3258 * 128 + 37)).word = 0x00094CBA ∧
    (ftTable (208445 :: List.replicate 36 0 ++ [5040, 503315])).getD 37 0 = 2411 ∧
    [0, 1330, 2650, 3930].map (fun o => votesOf 3258 37 o 5) = [[3002], [1672], [352], []] := by decide +kernel

/-- The caps and the ramp of the worked example of 03_emission_steering.md. -/
theorem test_reach : [97, 101, 98].map (fun t => derateCap (16 * t) 85 2 115) = [some 57, some 55, some 56] ∧
    [1, 2, 3, 4].map (fun n => rampIndex 40 56 n 4) = [44, 48, 52, 56] := by decide

/-- The regular rows of the worked example of 08_waveform_lanes.md. -/
theorem test_regular_rows : (List.range 8).map (fun l => State.reset.regularRow 3 l 331 0) = [88, 104, 120, 8, 24, 40, 56, 72] ∧
    State.reset.regularRow 3 7 330 7 = 71 := by decide

/-- The address and the tag of the worked example of 09_lath_memory.md. -/
theorem test_context : (st [(LTH.LATH_BASE_ADDR, 1)]).ctxAddr 0x42821 = 0x14282100 ∧ burstTag 0x14282140 0 = 2 := by decide

/-- The settings of MSK at reset that the worked example of 07_masking.md names, and its coat 0 measurement. -/
theorem test_canopy :
    let c : MaskCfg := { maskCfg with tol := 64, canW := 20, gndW := 17, canSep := 64, canDepth := 13, canAge := 8, policy := 0 }
    let i : MaskIn := { maskIn false with canA := 9, hist := [[⟨4905, 2, 7⟩, ⟨5498, 3, 9⟩]] }
    let o := maskMeas c i [{ leaf with range := 4920, width := 23, conf := 191 }, { leaf with range := 5510, width := 16, conf := 255 }]
    o.rets.map (fun r => (r.cls, r.conf, r.pc)) = [(2, 191, 8), (3, 191, 10)] ∧ o.canA = 10 ∧ o.capreq = true := by decide +kernel

/-- The evaluations of the worked example of 10_housekeeping_thermal.md, up to the first level change. -/
theorem test_thermal_levels :
    let run (l : List Int) : State := l.foldl (fun s t => ({ s with hkp.last := t :: s.hkp.last } : State).levelStep t) (st [(THM.TSTAT_LEVEL, 1)])
    let seen (s : State) : Nat × Nat × Nat := (s.rd THM.TSTAT_LEVEL, s.rd THM.TSTAT_UP, s.rd THM.TSTAT_DN)
    seen (run [2238, 2240, 2243]) = (1, 2, 0) ∧ seen (run [2238, 2240, 2243, 2238, 2242, 2245, 2246]) = (1, 3, 0) ∧
    seen (run [2238, 2240, 2243, 2238, 2242, 2245, 2246, 2243]) = (2, 0, 0) := by decide +kernel

/-- The mode of the worked example of 17_render.md: a refresh of 16.6804 ms, carried by HBR2 and HBR on 4 lanes. -/
theorem test_display_mode :
    let s := st [(RND.HTIM0_HACT, 2560), (RND.HTIM0_HFP, 48), (RND.HTIM1_HSW, 32), (RND.HTIM1_HBP, 80), (RND.VTIM0_VACT, 1440), (RND.VTIM0_VFP, 3),
      (RND.VTIM1_VSW, 5), (RND.VTIM1_VBP, 33), (RND.PCLK_KHZ, 241500), (RND.LINK_CFG_MAX_RATE, 2), (RND.LINK_CFG_MAX_LANES, 4)]
    s.refreshNs / 100 = 166804 ∧ (s.linkTries 2 4).head? = some (2, 4) ∧ s.linkTries 1 4 = [(1, 4)] ∧ s.linkTries 0 4 = [] := by decide +kernel

/-- The walk and the commit of the worked example of 19_register_map.md. -/
theorem test_pages : Page.all.length = 60 ∧ Page.nextCap .cap = 0x10000 ∧ Page.nextCap .hkp = 0x51000 ∧ Page.nextCap (.emt 3) = 0x84000 ∧
    (State.reset.barRead .cxlIo 0x83000 0).2 = 0x08030101 ∧ (State.reset.barRead .cxlIo (Page.nextCap .hkp) 0).2 / 2 ^ 24 = Page.thm.blockCode ∧
    Page.commitKey (.emt 3) = 0x0803C0DE := by decide +kernel

/-- What a field reads after one command. -/
def after (c : Instr) (s : State) (f : Fld) : Option Nat :=
  match exec c s with
  | .next t => some (t.rd f)
  | _ => none

theorem test_commit_refused : let s : State := { State.reset with shadow := [((EMT.DERATE_T0 3).key, 100), ((EMT.DERATE_T_OFF 3).key, 95)] }
    let u : State := { State.reset with shadow := [((EMT.DERATE_T0 3).key, 100)] }
    [after (.commit (.emt 3) 0x0803C0DE 0) s (HDR.ERR_CODE_CODE (.emt 3)), after (.commit (.emt 3) 0x0803C0DE 0) s (HDR.ERR_CODE_WORD (.emt 3)),
      after (.commit (.emt 3) 0x0803C0DE 0) s (HDR.SHADOW_SEQ_SEQ (.emt 3)), after (.commit (.emt 3) 0x0803C0DE 0) u (HDR.ERR_CODE_CODE (.emt 3)),
      after (.commit (.emt 3) 0x0803C0DE 0) u (HDR.STAT_COMMIT_PENDING (.emt 3)), after (.commit (.emt 3) 0x0803C0DF 0) s (HDR.ERR_CODE_CODE (.emt 3))] =
    [some 2, some 0x13, some 0, some 0, some 1, some 0] := by decide +kernel

theorem test_lease : after .leaseRenew (st [(SCD.LEASE_AGE, 9)]) SCD.LEASE_AGE = some 0 ∧
    after .horizonExpiry (st [(SCD.LEASE_AGE, 63)]) PWR.STATE_STATE = some 0 ∧ after .horizonExpiry (st [(SCD.LEASE_AGE, 64)]) PWR.STATE_STATE = some 1 ∧
    after .parkGo State.reset PWR.STATE_STATE = some 1 := by decide +kernel

theorem test_safety_lock : after (.fload true) State.reset SAF.FLOAD_CODE = some SAFETY_LOCK ∧ after (.confirm 0) State.reset (HDR.ERR_CODE_CODE .saf) = some SAFETY_LOCK ∧
    after .clockFault State.reset SAF.STAT_STATE = some 3 := by decide +kernel

theorem test_irq : after (.irqForce .hkp 0x80000001) State.reset (HDR.IRQ_STAT_IRQ .hkp) = some 0x80000001 ∧
    after (.irqStatClear .hkp 3 2) (st [(HDR.IRQ_STAT_IRQ .hkp, 7)]) (HDR.IRQ_STAT_IRQ .hkp) = some 6 := by decide +kernel

theorem test_host_request : after (.hreq 0 5 6 false 0 0) State.reset (HDR.ERR_CODE_CODE (.wfl 0)) = some CFG_ZERO ∧
    after (.hreq 0 5 6 false 1 0) State.reset (WFL.HREQ_BUSY 0) = some 1 ∧
    after (.hreq 0 5 6 false 1 0) (st [(WFL.HREQ_BUSY 0, 1)]) (WFL.INJ_UNSERVED_COUNT 0) = some 1 := by decide +kernel

theorem test_mirror : after (.mirrorStep 0) (st [(EMT.PARK_CODE_CODE 0, 1234)]) (EMT.MIR_DAC_CODE 0) = some 1234 ∧
    rampCode 0 6400 1 = 100 ∧ rampCode 0 6400 64 = 6400 := by decide +kernel

theorem test_link : after (.linkTraining 6 16 true true true true true) State.reset CXL0.LINK_STAT_SPEED = some 6 ∧
    after (.linkTraining 6 16 false true true true true) State.reset CXL0.LINK_STAT_SPEED = some (State.reset.rd CXL0.LINK_STAT_SPEED) := by decide +kernel

theorem test_memory_line : let s := hosted (st [(CXL0.LINK_STAT_MEM_EN, 1), (CXL0.LINK_STAT_STATE, 0), (LTH.MEM_SIZE_MIB, 16384), (LTH.LATH_BASE_ADDR, 1),
      (LTH.REG_BASE_ADDR 5, 2048), (LTH.REG_SIZE_MIB 5, 16)])
    (match exec (.hostMemWrite (2 ^ 31) (List.replicate 64 7)) s with
      | .next t => some (t.ld (2 ^ 31), t.ld (2 ^ 31 + 63), t.ld (2 ^ 31 + 64))
      | _ => none) = some (7, 7, 0) ∧
    after (.hostMemWrite 0 (List.replicate 64 7)) s LTH.REG_VIOL_COUNT = some 1 := by decide +kernel

/-- Two commands wait: a step works the first and leaves the second. -/
theorem test_queue : (match step { State.reset with pending := [.leaseRenew, .nop] } with
    | .next t => some t.pending
    | _ => none) = some [.nop] ∧ decodeTableWord 32 0 = none := by decide
end Sys2Proof.Tests
end

section
/-! SUPPORT. The mirrors: what a head's Trowel state reads after each shared operation, the effect of the mirror commands, and
the statement about them (R75, R77, R81, R82). -/

namespace Sys2Proof.Machine

variable {s t : State} {h g : Head}

/-! ## Trowel's state of a head -/

@[simp] theorem State.emtOf_putEmt_same (s : State) (h : Head) (e : EmtSt) : (s.putEmt h e).emtOf h = e := by
  simp [State.emtOf, State.putEmt]

theorem State.emtOf_putEmt_ne (s : State) (e : EmtSt) (hg : g ≠ h) : (s.putEmt h e).emtOf g = s.emtOf g := by
  have hv : h.val ≠ g.val := fun hv => hg (Fin.ext hv.symm)
  simp [State.emtOf, State.putEmt, hv]

theorem State.emtOf_congr (he : t.emt = s.emt) (h : Head) : t.emtOf h = s.emtOf h := by simp [State.emtOf, he]

@[simp] theorem State.emtOf_wr (s : State) (f : Fld) (v : Nat) (h : Head) : (s.wr f v).emtOf h = s.emtOf h := rfl

@[simp] theorem State.rd_putEmt (s : State) (h : Head) (e : EmtSt) (f : Fld) : (s.putEmt h e).rd f = s.rd f := rfl

theorem Frame.putEmt {keys : List Nat} (hf : Frame keys s t) (h : Head) (e : EmtSt) : Frame keys s (t.putEmt h e) :=
  hf.trans (Frame.of_eq rfl rfl rfl)

theorem State.emt_message (s : State) (v : Nat) : (s.message v).emt = s.emt := by
  unfold State.message; split <;> rfl

theorem State.emt_signal (s : State) (v : Nat) : (s.signal v).emt = s.emt := by
  unfold State.signal
  split
  · rfl
  · split
    · exact State.emt_message _ v
    · exact State.emt_message s v

@[simp] theorem State.emtOf_irq (s : State) (p : Page) (b : Nat) (h : Head) : (s.irq p b).emtOf h = s.emtOf h := by
  refine State.emtOf_congr ?_ h
  unfold State.irq State.irqMask State.pageSignal
  split
  · exact State.emt_signal _ _
  · rfl

/-- A raised interrupt bit of a page is set in its IRQ_STAT. -/
theorem State.hasBit_irq (s : State) (p : Page) {b : Nat} (hb : b < 32) :
    hasBit ((s.irq p b).rd (HDR.IRQ_STAT_IRQ p)) b = true := by
  have hbit : ((s.rd (HDR.IRQ_STAT_IRQ p) ||| 2 ^ b) % 2 ^ 32).testBit b = true := by
    rw [Nat.testBit_mod_two_pow]; simp [hb]
  rw [State.rd_irq_same]
  simpa [hasBit, Nat.testBit_eq_decide_div_mod_eq] using hbit

/-! ## MIRROR_STEP (R77) -/

theorem mirrorStep_of_parked (hm : (s.emtOf h).mir = .parked) :
    mirrorStep h s = s.wr (EMT.MIR_DAC_CODE h.val) (s.rd (EMT.PARK_CODE_CODE h.val)) := by simp [mirrorStep, hm]

theorem mirrorStep_of_run (hm : (s.emtOf h).mir = .run) :
    mirrorStep h s = s.wr (EMT.MIR_DAC_CODE h.val) (s.emtOf h).dacNext := by simp [mirrorStep, hm]

theorem mirrorStep_of_out {st c : Nat} (hm : (s.emtOf h).mir = .out st c) :
    mirrorStep h s = s.wr (EMT.MIR_DAC_CODE h.val) (rampCode c (s.target h 0) (s.now + 1 - st)) := by simp [mirrorStep, hm]

theorem mirrorStep_of_home {st c : Nat} (hm : (s.emtOf h).mir = .home st c) :
    mirrorStep h s =
      s.wr (EMT.MIR_DAC_CODE h.val) (rampCode c (s.rd (EMT.PARK_CODE_CODE h.val)) (s.now + 1 - st)) := by
  simp [mirrorStep, hm]

/-- Whatever code a mirror step chooses, the DAC takes it and nothing else is touched. -/
theorem completes_mirrorStep (hs : s.dark = false) {code : Nat}
    (hc : mirrorStep h s = s.wr (EMT.MIR_DAC_CODE h.val) code) : Completes (.mirrorStep h) s (fun t =>
      t.rd (EMT.MIR_DAC_CODE h.val) = code % 65536 ∧ Frame [(EMT.MIR_DAC_CODE h.val).key] s t) := by
  refine ⟨mirrorStep h s, live_eq hs, ?_⟩
  rw [hc]
  exact ⟨State.rd_wr_same .., (Frame.refl _ s).wr code List.mem_cons_self⟩

/-! ## MIRROR_PARK_DONE (R82) -/

/-! The three fields that the end of a park ramp touches lie apart on the head's page (R84). -/

theorem parked_key_ne_dac (h : Head) : (EMT.HEAD_STAT_PARKED h.val).key ≠ (EMT.MIR_DAC_CODE h.val).key := by
  change (0x80000 + 0x1000 * h.val + 0x64) * 32 + 4 ≠ (0x80000 + 0x1000 * h.val + 0xB8) * 32 + 0
  omega

theorem parked_key_ne_irq (h : Head) : (EMT.HEAD_STAT_PARKED h.val).key ≠ (HDR.IRQ_STAT_IRQ (.emt h)).key := by
  change (0x80000 + 0x1000 * h.val + 0x64) * 32 + 4 ≠ (0x80000 + 0x1000 * h.val + 0x10) * 32 + 0
  omega

theorem dac_key_ne_irq (h : Head) : (EMT.MIR_DAC_CODE h.val).key ≠ (HDR.IRQ_STAT_IRQ (.emt h)).key := by
  change (0x80000 + 0x1000 * h.val + 0xB8) * 32 + 0 ≠ (0x80000 + 0x1000 * h.val + 0x10) * 32 + 0
  omega

/-- The state of a head whose park ramp has ended. -/
def State.parkedAt (s : State) (h : Head) : State :=
  (((s.putEmt h { s.emtOf h with mir := .parked }).wr (EMT.HEAD_STAT_PARKED h.val) 1).wr (EMT.MIR_DAC_CODE h.val)
    (s.rd (EMT.PARK_CODE_CODE h.val))).irq (.emt h) 5

theorem mirrorParkDone_of_early {st c : Nat} (hm : (s.emtOf h).mir = .home st c) (hn : s.now < st + 64) :
    mirrorParkDone h s = s := by simp [mirrorParkDone, hm, Nat.not_le.mpr hn]

theorem mirrorParkDone_of_due {st c : Nat} (hm : (s.emtOf h).mir = .home st c) (hn : st + 64 ≤ s.now) :
    mirrorParkDone h s = s.parkedAt h := by simp [mirrorParkDone, hm, hn, State.parkedAt]

theorem State.parkedAt_stat (s : State) (h : Head) : (s.parkedAt h).rd (EMT.HEAD_STAT_PARKED h.val) = 1 := by
  rw [State.parkedAt, State.rd_irq_ne _ _ _ (parked_key_ne_irq h), State.rd_wr_ne _ _ (parked_key_ne_dac h), State.rd_wr_same]
  rfl

theorem State.parkedAt_dac (s : State) (h : Head) :
    (s.parkedAt h).rd (EMT.MIR_DAC_CODE h.val) = s.rd (EMT.PARK_CODE_CODE h.val) % 65536 := by
  rw [State.parkedAt, State.rd_irq_ne _ _ _ (dac_key_ne_irq h), State.rd_wr_same]
  rfl

theorem State.parkedAt_irq (s : State) (h : Head) :
    hasBit ((s.parkedAt h).rd (HDR.IRQ_STAT_IRQ (.emt h))) 5 = true := State.hasBit_irq _ _ (by decide)

theorem State.emtOf_parkedAt_same (s : State) (h : Head) : ((s.parkedAt h).emtOf h).mir = .parked := by simp [State.parkedAt]

theorem State.emtOf_parkedAt_ne (s : State) (hg : g ≠ h) : (s.parkedAt h).emtOf g = s.emtOf g := by
  simp [State.parkedAt, State.emtOf_putEmt_ne s _ hg]

theorem State.parkedAt_frame (s : State) (h : Head) :
    Frame [(EMT.HEAD_STAT_PARKED h.val).key, (EMT.MIR_DAC_CODE h.val).key, (HDR.IRQ_STAT_IRQ (.emt h)).key] s (s.parkedAt h) :=
  ((((Frame.refl _ s).putEmt h _).wr 1 List.mem_cons_self).wr _ (.tail _ List.mem_cons_self)).irq 5
    (.tail _ (.tail _ List.mem_cons_self))

/-! ## MIRROR_RAMP_START (R81) -/

theorem mirrorRampStart_of_due {mask n : Nat} (hsw : s.pendingSwap = some (mask, n))
    (hin : hasBit (hdrHeadMask (s.stagedHdr mask)) h.val = true) (hnew : s.present h.val = false) (hn : n ≤ s.now + 64)
    (hm : (s.emtOf h).mir = .parked) : mirrorRampStart h s = s.mirrorOut h := by
  simp [mirrorRampStart, hsw, hin, hnew, hn, hm]

theorem State.emtOf_mirrorOut_same (s : State) (h : Head) :
    ((s.mirrorOut h).emtOf h).mir = .out s.now (s.rd (EMT.MIR_DAC_CODE h.val)) := by simp [State.mirrorOut]

theorem State.emtOf_mirrorOut_ne (s : State) (hg : g ≠ h) : (s.mirrorOut h).emtOf g = s.emtOf g := by
  simp [State.mirrorOut, State.emtOf_putEmt_ne s _ hg]

theorem State.mirrorOut_stat (s : State) (h : Head) : (s.mirrorOut h).rd (EMT.HEAD_STAT_PARKED h.val) = 0 := by
  simp [State.mirrorOut]

theorem State.mirrorOut_frame (s : State) (h : Head) : Frame [(EMT.HEAD_STAT_PARKED h.val).key] s (s.mirrorOut h) :=
  ((Frame.refl _ s).putEmt h _).wr 0 List.mem_cons_self

/-! ## FAULT_CLR (R75) -/

/-- Outside HOLD every page is served. -/
theorem Runs.served (hs : Runs s) (p : Page) : s.served p = true := by simp [State.served, hs.awake]

theorem completes_faultClr (hs : Runs s) (h : Head) (ns : Fin 100000) : Completes (.faultClr h ns) s (fun t =>
    (t.emtOf h).clrs = (s.emtOf h).clrs ++ [s.nextCoat ns.val] ∧ (∀ g : Head, g ≠ h → t.emtOf g = s.emtOf g) ∧
    Frame [] s t) := by
  refine ⟨faultClr h ns.val s, onPage_eq hs.lit (hs.served _), ?_, fun g hg => State.emtOf_putEmt_ne s _ hg,
    (Frame.refl [] s).putEmt h _⟩
  simp [faultClr]

/-- Settles O21: each mode of a mirror gives its own code at a step, and the ramps begin and end as their conditions say. -/
theorem mirrors : Obligations.Mirrors := by
  intro h ns s hs
  refine ⟨fun hm => completes_mirrorStep hs.lit (mirrorStep_of_parked hm),
    fun hm => completes_mirrorStep hs.lit (mirrorStep_of_run hm),
    fun _ _ hm => completes_mirrorStep hs.lit (mirrorStep_of_out hm),
    fun _ _ hm => completes_mirrorStep hs.lit (mirrorStep_of_home hm),
    fun st c hm => ⟨fun hn => ?early, fun hn => ?parked⟩, fun mask n hsw hin hnew hn hm => ?added, completes_faultClr hs h ns⟩
  case early => exact (live_eq hs.lit).trans (congrArg _ (mirrorParkDone_of_early hm hn))
  case parked =>
    refine ⟨s.parkedAt h, (live_eq hs.lit).trans (congrArg _ (mirrorParkDone_of_due hm hn)), ?_⟩
    exact ⟨s.parkedAt_stat h, s.parkedAt_dac h, s.parkedAt_irq h, s.emtOf_parkedAt_same h,
      fun g hg => s.emtOf_parkedAt_ne hg, s.parkedAt_frame h⟩
  case added =>
    refine ⟨s.mirrorOut h, (live_eq hs.lit).trans (congrArg _ (mirrorRampStart_of_due hsw hin hnew hn hm)), ?_⟩
    exact ⟨s.emtOf_mirrorOut_same h, s.mirrorOut_stat h, fun g hg => s.emtOf_mirrorOut_ne hg, s.mirrorOut_frame h⟩

end Sys2Proof.Machine
end

section
/-! SUPPORT. The CHK byte of a record: what it makes of any byte string, the point records that carry it, and the statement about
them (R159). -/

namespace Sys2Proof.Machine

/-! ## The sum of a byte string and its CHK byte -/

/-- The sum of a byte string's values. -/
def byteSum (b : List Byte) : Nat := (b.map BitVec.toNat).sum

theorem byteSum_append (a b : List Byte) : byteSum (a ++ b) = byteSum a + byteSum b := by
  simp only [byteSum, List.map_append, List.sum_append_nat]

/-- The subtraction in `chkByte` never cuts at 0. -/
theorem byteSum_le (b : List Byte) : byteSum b ≤ 256 * b.length := by
  induction b with
  | nil => exact Nat.le_refl 0
  | cons x b ih =>
    have hsum : byteSum (x :: b) = x.toNat + byteSum b := by simp only [byteSum, List.map_cons, List.sum_cons]
    have hx : x.toNat < 256 := x.isLt
    rw [hsum, List.length_cons]
    omega

theorem chkByte_add_byteSum (b : List Byte) : ((chkByte b).toNat + byteSum b) % 256 = 0x5A := by
  have hchk : (chkByte b).toNat = (0x5A + 256 * b.length - byteSum b) % 256 := BitVec.toNat_ofNat _ _
  have hle := byteSum_le b
  omega

theorem byteSum_withChk (b : List Byte) : byteSum (withChk b) % 256 = 0x5A := by
  have hlast : byteSum [chkByte b] = (chkByte b).toNat := Nat.add_zero _
  rw [withChk, byteSum_append, hlast, Nat.add_comm]
  exact chkByte_add_byteSum b

/-! ## Point records (R156, R159) -/

/-- Sixteen bytes that sum to 0x5A modulo 256, the check of a point record's reader (R159). -/
def RecordChecks (b : List Byte) : Prop := b.length = 16 ∧ byteSum b % 256 = 0x5A

theorem recordChecks_withChk {b : List Byte} (hb : b.length = 15) : RecordChecks (withChk b) :=
  ⟨by simp [withChk, hb], byteSum_withChk b⟩

theorem not_recordChecks_zero : ¬ RecordChecks (List.replicate 16 0) := fun h => absurd h.2 (by decide)

@[simp] theorem length_leBytes (n x : Nat) : (leBytes n x).length = n := by
  induction n generalizing x with
  | zero => rfl
  | succ n ih => exact congrArg (· + 1) (ih (x / 256))

section
variable (cell ret nret cls range intens width conf flags skim tick frame : Nat)

theorem pointRecord_eq_withChk :
    ∃ a, a.length = 15 ∧ pointRecord cell ret nret cls range intens width conf flags skim tick frame = withChk a :=
  ⟨_, by simp, rfl⟩

theorem recordChecks_pointRecord :
    RecordChecks (pointRecord cell ret nret cls range intens width conf flags skim tick frame) := by
  obtain ⟨a, ha, hr⟩ := pointRecord_eq_withChk cell ret nret cls range intens width conf flags skim tick frame
  exact hr ▸ recordChecks_withChk ha
end

/-- A measurement yields its EMPTY record or none where no return is left, and one record a return otherwise (R156, R160). -/
theorem State.recordChecks_of_mem_measRecords {s : State} {w : Win} {row : Nat} {replay : Bool} {r : List Byte}
    (hr : r ∈ (s.measRecords w row replay).recs) : RecordChecks r := by
  dsimp only [State.measRecords] at hr
  split at hr
  case h_1 =>
    obtain ⟨-, rfl⟩ : w.emptyEn = true ∧ r = _ := by simpa using hr
    exact recordChecks_pointRecord ..
  case h_2 =>
    obtain ⟨⟨ret, i⟩, -, rfl⟩ := List.mem_map.mp hr
    exact recordChecks_pointRecord ..

/-- Settles O59: a point record is 15 bytes and their CHK byte, which brings the sum of any bytes to 0x5A. -/
theorem recordCheck : Obligations.RecordCheck := by
  refine ⟨fun cell ret nret cls range intens width conf flags skim tick frame => ⟨?sums, ?last⟩,
    fun a _ => chkByte_add_byteSum a, not_recordChecks_zero, fun w row replay s r hr => ?yielded⟩
  case sums => exact recordChecks_pointRecord ..
  case last =>
    obtain ⟨a, -, hr⟩ := pointRecord_eq_withChk cell ret nret cls range intens width conf flags skim tick frame
    exact ⟨a, hr⟩
  case yielded => exact State.recordChecks_of_mem_measRecords hr

end Sys2Proof.Machine
end

section
/-! SUPPORT. Masking's levels: the passes of the classification keep CONF, what CONF is lowered by after them, the dirt level's
step, and the statement about them (R178, R182, R184). -/

namespace Sys2Proof.Machine

/-! ## The classification keeps CONF (R178) -/

section
variable (c : MaskCfg) (i : MaskIn) (rs : List Ret)

@[simp] theorem conf_pass1 (members : List Nat) (r : Ret) : (pass1 c members r).conf = r.conf := by
  simp only [pass1, apply_ite Ret.conf, ite_self]

@[simp] theorem conf_pass3 (fresh : Bool) (r : Ret) : (pass3 c fresh r).conf = r.conf := by
  simp only [pass3, apply_ite Ret.conf, ite_self]

/-- Pass 2 works on a list, since it compares the returns with the last one; still every return keeps its place and its CONF. -/
@[simp] theorem map_conf_pass2 : (pass2 c rs).map Ret.conf = rs.map Ret.conf := by
  dsimp only [pass2]
  split
  case h_1 => rfl
  case h_2 last _ =>
    split
    case isFalse => rfl
    case isTrue =>
      rw [List.map_map]
      calc _ = rs.zipIdx.map (Ret.conf ∘ Prod.fst) :=
            List.map_congr_left fun x _ => by simp only [Function.comp_apply, apply_ite Ret.conf, ite_self]
        _ = rs.map Ret.conf := by rw [← List.map_map, List.zipIdx_map_fst]

theorem map_conf_classify (fresh : Bool) (members : List Nat) :
    (classify c fresh members rs).map Ret.conf = rs.map Ret.conf := by
  have h1 : Ret.conf ∘ pass1 c members = Ret.conf := funext (conf_pass1 c members)
  have h3 : Ret.conf ∘ pass3 c fresh = Ret.conf := funext (conf_pass3 c fresh)
  simp only [classify, List.map_map, h3, map_conf_pass2, h1]

/-! ## A measurement's returns, classified and then lowered -/

/-- The returns of a measurement with their persistence counts and classes, before CONF is lowered (R175, R178). -/
def maskClassified : List Ret :=
  classify c i.fresh i.members (rs.map fun r => { r with pc := persistence c.tol r.range i.hist })

/-- Whether the class 3 returns of a measurement are unconfirmed (R181). -/
def maskUnconfirmed : Bool :=
  !((maskClassified c i rs).any fun r => r.cls == 3 && r.wfm) && decide (c.canAge ≤ min 15 (i.canA + 1))

/-- A classified return with its CONF lowered and its policy applied (R182, R187). -/
def maskLowered (unconfirmed : Bool) (r : Ret) : Ret :=
  { r with conf := confOf c i unconfirmed r, gone := policyOf c.policy r.cls == 2 }

theorem maskMeas_rets :
    (maskMeas c i rs).rets = (maskClassified c i rs).map (maskLowered c i (maskUnconfirmed c i rs)) := rfl

theorem map_conf_maskClassified : (maskClassified c i rs).map Ret.conf = rs.map Ret.conf := by
  rw [maskClassified, map_conf_classify, List.map_map]
  rfl

theorem length_maskMeas_rets : (maskMeas c i rs).rets.length = rs.length := by
  simpa [maskMeas_rets] using congrArg List.length (map_conf_maskClassified c i rs)

/-- CONF and the policy leave what R181 looks at, so whether a return is unconfirmed shows in what Masking hands on. -/
theorem maskUnconfirmed_iff : maskUnconfirmed c i rs = true ↔
    ((maskMeas c i rs).rets.any fun r => r.cls == 3 && r.wfm) = false ∧ c.canAge ≤ min 15 (i.canA + 1) := by
  rw [maskMeas_rets, List.any_map, maskUnconfirmed, Bool.and_eq_true, Bool.not_eq_true', decide_eq_true_iff]
  rfl

/-- Two lists that agree under `f` agree under it place by place. -/
theorem eq_of_mem_zip_of_map_eq {α β : Type} {f : α → β} {l l' : List α} (h : l'.map f = l.map f) {a b : α}
    (hab : (a, b) ∈ l.zip l') : f a = f b := by
  induction l generalizing l' with
  | nil => exact absurd hab List.not_mem_nil
  | cons x l ih =>
    cases l' with
    | nil => exact absurd hab List.not_mem_nil
    | cons y l' =>
      rw [List.map_cons, List.map_cons, List.cons.injEq] at h
      obtain ⟨hhead, htail⟩ := h
      rw [List.zip_cons_cons, List.mem_cons, Prod.mk.injEq] at hab
      obtain ⟨rfl, rfl⟩ | hmem := hab
      · exact hhead.symm
      · exact ih htail hmem

/-- A return handed on is a classified return, lowered, of the same CONF as the return that Float delivered in its place. -/
theorem exists_classified_of_mem_zip {p : Ret × Ret} (hp : p ∈ rs.zip (maskMeas c i rs).rets) :
    ∃ r ∈ maskClassified c i rs, r.conf = p.1.conf ∧ p.2 = maskLowered c i (maskUnconfirmed c i rs) r := by
  rw [maskMeas_rets, List.zip_map_right] at hp
  obtain ⟨⟨a, r⟩, har, rfl⟩ := List.mem_map.mp hp
  exact ⟨r, (List.of_mem_zip har).2, (eq_of_mem_zip_of_map_eq (map_conf_maskClassified c i rs) har).symm, rfl⟩

/-! ## CONF after Masking (R182) -/

/-- A transient return of a measurement carrying SUN (R175, R182). -/
def SunTransient (r : Ret) : Prop := i.sun = true ∧ i.fresh = false ∧ r.pc < c.persMin

/-- What CONF falls by for an unconfirmed class 3 return (R182). -/
def canopyCut (unconfirmed : Bool) (r : Ret) : Nat := if unconfirmed = true ∧ r.cls = 3 then 64 else 0

variable {c i} {u : Bool} {r : Ret}

theorem not_sunTransient (h : i.sun = false ∨ i.fresh = true ∨ c.persMin ≤ r.pc) : ¬ SunTransient c i r := by
  rintro ⟨hsun, hfresh, hpc⟩
  simp [hsun, hfresh, Nat.not_le.mpr hpc] at h

theorem canopyCut_of_unconfirmed (hu : u = true) (h3 : r.cls = 3) : canopyCut u r = 64 := if_pos ⟨hu, h3⟩

theorem canopyCut_of_not (h : ¬ u = true ∨ r.cls ≠ 3) : canopyCut u r = 0 := if_neg (Decidable.not_and_iff_or_not.mpr h)

theorem confOf_of_mark (h : policyOf c.policy r.cls = 1) : confOf c i u r = 0 := if_pos h

theorem confOf_of_sunTransient (h : policyOf c.policy r.cls ≠ 1) (ht : SunTransient c i r) :
    confOf c i u r = r.conf - c.sunConf - canopyCut u r := by
  obtain ⟨hsun, hfresh, hpc⟩ := ht
  simp [confOf, canopyCut, h, hsun, hfresh, hpc]

theorem confOf_of_not_sunTransient (h : policyOf c.policy r.cls ≠ 1) (ht : ¬ SunTransient c i r) :
    confOf c i u r = r.conf - canopyCut u r := by
  have hsun : (i.sun && (!i.fresh && decide (r.pc < c.persMin))) = false := by simpa [SunTransient] using ht
  simp [confOf, canopyCut, h, hsun]
end

/-! ## The dirt level (R184) -/

/-- The difference cannot fall below the old level, so the level never cuts at 0. -/
theorem dirtNew_eq (alpha old winTot : Nat) :
    (dirtNew alpha old winTot : Int) = old + ((16 * (winTot : Int) - old) >>> alpha) := by
  have hpos : 0 < 2 ^ alpha := Nat.two_pow_pos alpha
  have hle : -(old : Int) ≤ (16 * (winTot : Int) - old) / (2 ^ alpha : Nat) := by
    rw [Int.le_ediv_iff_mul_le (Int.natCast_pos.mpr hpos), Int.neg_mul]
    have hpow : (old : Int) ≤ old * (2 ^ alpha : Nat) := by exact_mod_cast Nat.le_mul_of_pos_right old hpos
    omega
  rw [dirtNew, Int.shiftRight_eq_div_pow, Int.toNat_of_nonneg (by omega)]

/-- Settles O60: every return handed on is a classified return of the CONF that Float delivered, lowered as R182 says, and the
dirt level's step never cuts at 0. -/
theorem maskingLevels : Obligations.MaskingLevels := by
  intro c i rs k cell m
  refine ⟨dirtNew_eq .., rfl, length_maskMeas_rets c i rs, fun p hp => ?_⟩
  obtain ⟨a, q⟩ := p
  obtain ⟨r, -, hconf : r.conf = a.conf, rfl : q = _⟩ := exists_classified_of_mem_zip c i rs hp
  rw [← maskUnconfirmed_iff, ← hconf]
  refine ⟨fun hmark => confOf_of_mark hmark, fun (hpol : policyOf c.policy r.cls ≠ 1) => ?_⟩
  have hsun (hs : i.sun = true) (hf : i.fresh = false) (hpc : r.pc < c.persMin) :=
    confOf_of_sunTransient (u := maskUnconfirmed c i rs) hpol ⟨hs, hf, hpc⟩
  have hrest (hn : i.sun = false ∨ i.fresh = true ∨ c.persMin ≤ r.pc) :=
    confOf_of_not_sunTransient (u := maskUnconfirmed c i rs) hpol (not_sunTransient hn)
  refine ⟨fun hno => ?confirmed, fun hu h3 => ?unconfirmed⟩
  case confirmed =>
    rw [canopyCut_of_not (r := r) hno] at hsun hrest
    exact ⟨hsun, hrest⟩
  case unconfirmed =>
    rw [canopyCut_of_unconfirmed (r := r) hu h3] at hsun hrest
    exact ⟨hsun, hrest⟩

end Sys2Proof.Machine
end
